-- ==== Sys2Proof/Word.lean ====
section
/-! DEFINITION. The word types of the part (R16 to R18): bytes, the 32-bit register word, and the sparse map that
registers, memories and tables are kept in. Nothing here is specific to one unit. -/

namespace Sys2Proof

/-- A byte (R16). -/
abbrev Byte := BitVec 8

/-- A control register, a Glesen register part or a 32-bit memory word (R18). -/
abbrev Word := BitVec 32

/-- Sparse data by key: strictly rising keys, no entry equal to what an unlisted key reads as. -/
abbrev Map (α : Type) := List (Nat × α)

end Sys2Proof
end

