-- ==== Sys2Proof/Syntax.lean ====
section
/-! DEFINITION. The commands of the part: one constructor per row of the opcode table, with the row's operands. A Glesen
instruction carries the core that issues it, its EOB bit and guard (R110), and the operand fields of its format
(R111, R143) exactly as encoded, the fields that must be 0 among them. -/

namespace Sys2Proof

/-- Which core issues an instruction (c = 8n + k), and the fields common to all formats: EOB and PG (R110). -/
structure Iss where
  core : Nat
  eob : Bool
  pg : BitVec 3
  deriving DecidableEq, Repr

structure FSR where
  rd : BitVec 5
  ra : BitVec 5
  rb : BitVec 5
  deriving DecidableEq, Repr
structure FSI where
  rd : BitVec 5
  ra : BitVec 5
  imm : BitVec 10
  deriving DecidableEq, Repr
structure FSL where
  rd : BitVec 5
  imm : BitVec 16
  deriving DecidableEq, Repr
/-- SC: `x` holds bits [10:0], which are RB and five zeros for I = 0 or IMM11 for I = 1. -/
structure FSC where
  pd : BitVec 3
  ra : BitVec 5
  i : Bool
  x : BitVec 11
  deriving DecidableEq, Repr
structure FSP where
  pd : BitVec 3
  pa : BitVec 3
  pb : BitVec 3
  z : BitVec 6
  deriving DecidableEq, Repr
structure FSX where
  dst : BitVec 8
  src : BitVec 8
  z : BitVec 4
  deriving DecidableEq, Repr
structure FSB where
  ofs : BitVec 20
  deriving DecidableEq, Repr
structure FSJ where
  an : BitVec 4
  z : BitVec 16
  deriving DecidableEq, Repr
/-- SLP without ROT, which the row gives. -/
structure FSLP where
  lc : Bool
  i : Bool
  stg : BitVec 2
  count : BitVec 6
  endofs : BitVec 9
  deriving DecidableEq, Repr
structure FSY where
  code : BitVec 8
  z : BitVec 7
  deriving DecidableEq, Repr
structure FSQ where
  cn : BitVec 4
  sq : BitVec 5
  z : BitVec 11
  deriving DecidableEq, Repr
structure FAM where
  rt : BitVec 5
  an : BitVec 4
  mode : BitVec 2
  off : BitVec 9
  deriving DecidableEq, Repr
structure FAI where
  ad : BitVec 4
  asrc : BitVec 4
  imm : BitVec 12
  deriving DecidableEq, Repr
structure FAR where
  ad : BitVec 4
  asrc : BitVec 4
  rs : BitVec 5
  z : BitVec 7
  deriving DecidableEq, Repr
structure FAU where
  ad : BitVec 4
  asrc : BitVec 4
  z : BitVec 9
  mreg : BitVec 3
  deriving DecidableEq, Repr
structure FMM where
  acd : BitVec 3
  sa : BitVec 5
  sb : BitVec 5
  frac : Bool
  sat : Bool
  neg : Bool
  zero : Bool
  deriving DecidableEq, Repr
structure FMF where
  acd : BitVec 3
  an : BitVec 4
  mreg : BitVec 3
  mode : BitVec 3
  frac : Bool
  sat : Bool
  z : BitVec 5
  deriving DecidableEq, Repr
structure FME where
  sd : BitVec 5
  acs : BitVec 3
  sh : BitVec 6
  rm : BitVec 2
  sat : Bool
  pf : BitVec 3
  deriving DecidableEq, Repr
structure FMA where
  acd : BitVec 3
  acs : BitVec 3
  sa : BitVec 5
  sh : BitVec 6
  sat : Bool
  z : BitVec 2
  deriving DecidableEq, Repr
structure FMV where
  vd : BitVec 5
  va : BitVec 5
  vb : BitVec 5
  deriving DecidableEq, Repr
structure FVR where
  vd : BitVec 5
  va : BitVec 5
  vb : BitVec 5
  mg : BitVec 3
  ty : BitVec 2
  deriving DecidableEq, Repr
structure FVI where
  vd : BitVec 5
  va : BitVec 5
  imm : BitVec 5
  mg : BitVec 3
  ty : BitVec 2
  deriving DecidableEq, Repr
/-- VC without J, which the row gives; for `vcmag2` the bit stands in `j` and must be 0. -/
structure FVC where
  vd : BitVec 5
  va : BitVec 5
  vb : BitVec 5
  mg : BitVec 3
  j : Bool
  z : Bool
  deriving DecidableEq, Repr
structure FVD where
  acd : BitVec 3
  va : BitVec 5
  vb : BitVec 5
  mg : BitVec 3
  zero : Bool
  z : BitVec 2
  deriving DecidableEq, Repr
structure FVM where
  vt : BitVec 5
  an : BitVec 4
  rx : BitVec 5
  u : Bool
  mg : BitVec 3
  sz : BitVec 2
  deriving DecidableEq, Repr
structure FVX where
  rs : BitVec 5
  vx : BitVec 5
  idx : BitVec 6
  z : BitVec 2
  ty : BitVec 2
  deriving DecidableEq, Repr
structure FVL where
  rs : BitVec 5
  imm : BitVec 7
  i : Bool
  z : BitVec 4
  deriving DecidableEq, Repr
structure FVK where
  md : BitVec 3
  ma : BitVec 3
  mb : BitVec 3
  rs : BitVec 5
  z : Bool
  deriving DecidableEq, Repr

/-- Who issues a request: a Glesen core (c = 8n + k), the DMA of cluster n, a core of the host die, the SPI port,
another unit behind a stop (R213, R355). -/
inductive Who where
  | core (c : Nat) | dma (n : Nat) | host (h : Nat) | spi | unit (stop : Nat)
  deriving DecidableEq, Repr


/-- A packet (R355). `who` stands for the initiator behind SRC and PORT. `syn` holds, per line of the payload, the
syndrome with which the travelling check differs from the CRC of the data (R355, R381). -/
structure Pkt where
  who : Who
  vn : Nat
  prio : Nat
  epoch : Nat
  tor : Bool
  src : Nat
  dst : Nat
  port : Nat
  op : Nat
  tag : Nat
  lenm1 : Nat
  born : Nat
  addr : Nat
  status : Nat
  hcrc : Nat
  data : List Byte
  mask : List Bool
  syn : List Nat
  deriving DecidableEq, Repr


/-- What a STOP packet carries (R54, R60, R356, R366, R373): ARM, CANCEL, the snapshot, route tables of the other epoch,
FLIP, and power control of a domain. -/
inductive StopOp where
  | arm | cancel | snapshot | table | flip | powerDown (p : Nat) | powerUp (p : Nat)
  deriving DecidableEq, Repr

/-- A claim that the baseline firmware makes in its resource map: KIND, GROUP, COUNT, FIRST (R11). -/
structure FwClaim where
  kind : Nat
  group : Nat
  count : Nat
  first : Nat
  deriving DecidableEq, Repr

/-- A register word that the baseline firmware writes (R9, R12): its die address and value. -/
structure FwWrite where
  addr : Nat
  val : BitVec 32
  deriving DecidableEq, Repr
/-- The commands: one constructor per row of the opcode table. -/
inductive Instr where
  /-- `ADD` (R12): Baseline firmware takes an ADD request from its control MAILBOX queue, checks the profile descriptor against the limits, claims and configures resources, commits and replies. -/
  | add (noRes : Nat) (claims : List FwClaim) (writes : List FwWrite)
  /-- `CHANGE` (R12): Baseline firmware takes a CHANGE request for a cell, checks it, reconfigures and commits at or after AT, and replies. -/
  | change (noRes : Nat) (claims : List FwClaim) (writes : List FwWrite)
  /-- `REMOVE` (R12): Baseline firmware takes a REMOVE request, takes the cell's resources out of service at a commit, and replies. -/
  | remove (writes : List FwWrite)
  /-- `QUERY` (R12): Baseline firmware takes a QUERY request and replies with POINTS and LIMITPTS, changing nothing. -/
  | query
  /-- `REGISTER_WRITE` (R20): A write to a register that has no row of its own sets, clears, stages or ignores fields by their access codes, or is refused under R19. -/
  | registerWrite (who : Who) (a : Nat) (n : Nat) (v : BitVec 64)
  /-- `PLL_LOCK` (R44): The air-time PLL has held its frequency error within 10 ppb for 1 s and enters LOCKED. -/
  | pllLock
  /-- `SOURCE_LOST` (R44): The selected discipline source is lost; while LOCKED the PLL enters HOLDOVER, sets HOLD and asserts ALERT_N. -/
  | sourceLost
  /-- `REFCLK_LOSS` (R421): CLKREF_A is lost or a PLL loses lock; the PLL holds its control value, REFCLK is set and ALERT_N is asserted. -/
  | refclkLoss
  /-- `AIR_PHASE_ADJ` (R45): A write adds a signed Tc amount to the phase that air time absorbs at 7.63 ppm or less. -/
  | airPhaseAdj (v : Word)
  /-- `PPS_IN_EDGE` (R46): A PPS_IN rising edge with PPS_IN_EN = 1 records AIR_PPS_TS and AIR_PPS_ERR and, with PPS_LOCK = 1, adds the inverted error to the phase correction. -/
  | ppsInEdge (odd : Bool)
  /-- `AIR_STEP` (R47): An 8-byte write steps air time, which waits while a commit or snapshot is armed, and then applies releases, deadlines, time-outs, commit moves and cancellations. -/
  | airStep (v : BitVec 64)
  /-- `TIMING_OUT_EDGE` (R48): Air time reaches a rising or falling edge of a TIMING_OUT line under its values in effect. -/
  | timingOutEdge (n : Nat)
  /-- `PPS_OUT_EDGE` (R48): Air time reaches a whole PTP second plus OFFSET, or the end of the pulse width, and PPS_OUT changes level. -/
  | ppsOutEdge
  /-- `AIR_COMMIT_GRID` (R49): A write selects the commit grid, or is ignored with GRID_BUSY set while a commit or snapshot is pending or armed. -/
  | airCommitGrid (v : Word)
  /-- `COMMIT_NEXT` (R54): An AIR_COMMIT_REQ write with MODE = NEXT chooses the first boundary whose arming point is still ahead, or merges into or queues behind a pending or armed commit. -/
  | commitNext (persist : Bool) (snap : Bool) (clr : Bool) (discard : Bool)
  /-- `COMMIT_AT` (R57): An AIR_COMMIT_REQ write with MODE = AT checks AIR_COMMIT_TARGET and becomes pending, merged or queued, or ends LATE, BADTARGET or BUSY. -/
  | commitAt (persist : Bool) (snap : Bool) (clr : Bool) (discard : Bool)
  /-- `COMMIT_DISCARD` (R57): An AIR_COMMIT_REQ write with DISCARD = 1 returns unapplied staged fields to their values in effect and cancels pending or queued commits as the state requires. -/
  | commitDiscard
  /-- `COMMIT_ARM` (R54): At B minus 4,096 Tc, AIR sends ARM to every stop; each stop latches its unapplied staged values, checks them and acknowledges. -/
  | commitArm
  /-- `COMMIT_DECIDE` (R54): At B minus 1,024 Tc, the commit proceeds if every stop has acknowledged; otherwise AIR sends CANCEL, RESULT = FAILED and ALERT_N is asserted. -/
  | commitDecide (missing : List Nat)
  /-- `COMMIT_APPLY` (R53): At boundary B, each domain moves its arm latch into effect for operations that begin from that edge. -/
  | commitApply
  /-- `COMMIT_END` (R54): At B plus 1,024 Tc, RESULT is set, SEQ advances on DONE, STATE returns to IDLE or PENDING, and the commit interrupt is raised. -/
  | commitEnd
  /-- `SNAP_NEXT` (R58): An AIR_SNAP_REQ write with MODE = NEXT requests a snapshot at the next boundary under the commit overlap rules. -/
  | snapNext (clr : Bool)
  /-- `SNAP_AT` (R58): An AIR_SNAP_REQ write with MODE = AT requests a snapshot at AIR_SNAP_TARGET under the commit overlap rules. -/
  | snapAt (clr : Bool)
  /-- `SNAPSHOT_ARM` (R58): The snapshot's arming point is reached and it becomes ARMED. -/
  | snapshotArm
  /-- `SNAPSHOT_CAPTURE` (R60): At B every domain copies its snapshot-capable fields into their views, clears RC counts with CLR, and SEQ becomes odd. -/
  | snapshotCapture
  /-- `SNAPSHOT_END` (R63): At B plus 1,024 Tc every copy is complete and SEQ becomes even. -/
  | snapshotEnd
  /-- `ADD_S` (R115): add: rd is set to ra plus rb. -/
  | addS (i : Iss) (f : FSR)
  /-- `SUB` (R115): sub: rd is set to ra minus rb. -/
  | sub (i : Iss) (f : FSR)
  /-- `AND` (R115): and: bitwise AND. -/
  | and (i : Iss) (f : FSR)
  /-- `OR` (R115): or: bitwise OR. -/
  | or (i : Iss) (f : FSR)
  /-- `XOR` (R115): xor: bitwise XOR. -/
  | xor (i : Iss) (f : FSR)
  /-- `ANDN` (R115): andn: ra AND NOT rb. -/
  | andn (i : Iss) (f : FSR)
  /-- `SHL` (R115): shl: left shift by rb, giving 0 for a count of 32 or more. -/
  | shl (i : Iss) (f : FSR)
  /-- `SHR` (R115): shr: logical right shift. -/
  | shr (i : Iss) (f : FSR)
  /-- `SAR` (R115): sar: arithmetic right shift. -/
  | sar (i : Iss) (f : FSR)
  /-- `MIN` (R115): min: signed minimum. -/
  | min (i : Iss) (f : FSR)
  /-- `MAX` (R115): max: signed maximum. -/
  | max (i : Iss) (f : FSR)
  /-- `MINU` (R115): minu: unsigned minimum. -/
  | minu (i : Iss) (f : FSR)
  /-- `MAXU` (R115): maxu: unsigned maximum. -/
  | maxu (i : Iss) (f : FSR)
  /-- `ADDS` (R115): adds: saturating signed add. -/
  | adds (i : Iss) (f : FSR)
  /-- `SUBS` (R115): subs: saturating signed subtract. -/
  | subs (i : Iss) (f : FSR)
  /-- `ABS` (R115): abs: saturating absolute value. -/
  | abs (i : Iss) (f : FSR)
  /-- `NEGS` (R115): negs: saturating negation. -/
  | negs (i : Iss) (f : FSR)
  /-- `CLZ` (R115): clz: count of leading zero bits. -/
  | clz (i : Iss) (f : FSR)
  /-- `CLS` (R115): cls: count of leading sign bits. -/
  | cls (i : Iss) (f : FSR)
  /-- `SXH` (R115): sxh: sign-extends a halfword. -/
  | sxh (i : Iss) (f : FSR)
  /-- `ZXH` (R115): zxh: zero-extends a halfword. -/
  | zxh (i : Iss) (f : FSR)
  /-- `SXB` (R115): sxb: sign-extends a byte. -/
  | sxb (i : Iss) (f : FSR)
  /-- `ZXB` (R115): zxb: zero-extends a byte. -/
  | zxb (i : Iss) (f : FSR)
  /-- `MUL` (R115): mul: low 32 bits of the product. -/
  | mul (i : Iss) (f : FSR)
  /-- `MULH` (R115): mulh: high 32 bits of the signed product. -/
  | mulh (i : Iss) (f : FSR)
  /-- `MULHU` (R115): mulhu: high 32 bits of the unsigned product. -/
  | mulhu (i : Iss) (f : FSR)
  /-- `ADDI` (R116): addi: adds an immediate. -/
  | addi (i : Iss) (f : FSI)
  /-- `ANDI` (R116): andi: AND with an immediate. -/
  | andi (i : Iss) (f : FSI)
  /-- `ORI` (R116): ori: OR with an immediate. -/
  | ori (i : Iss) (f : FSI)
  /-- `XORI` (R116): xori: XOR with an immediate. -/
  | xori (i : Iss) (f : FSI)
  /-- `SHLI` (R116): shli: left shift by an immediate. -/
  | shli (i : Iss) (f : FSI)
  /-- `SHRI` (R116): shri: logical right shift by an immediate. -/
  | shri (i : Iss) (f : FSI)
  /-- `SARI` (R116): sari: arithmetic right shift by an immediate. -/
  | sari (i : Iss) (f : FSI)
  /-- `CMP_EQ` (R116): cmp.eq into a predicate. -/
  | cmpEq (i : Iss) (f : FSC)
  /-- `CMP_NE` (R116): cmp.ne into a predicate. -/
  | cmpNe (i : Iss) (f : FSC)
  /-- `CMP_LT` (R116): cmp.lt, signed. -/
  | cmpLt (i : Iss) (f : FSC)
  /-- `CMP_LE` (R116): cmp.le, signed. -/
  | cmpLe (i : Iss) (f : FSC)
  /-- `CMP_GT` (R116): cmp.gt, signed. -/
  | cmpGt (i : Iss) (f : FSC)
  /-- `CMP_GE` (R116): cmp.ge, signed. -/
  | cmpGe (i : Iss) (f : FSC)
  /-- `CMP_LTU` (R116): cmp.ltu, unsigned. -/
  | cmpLtu (i : Iss) (f : FSC)
  /-- `CMP_LEU` (R116): cmp.leu, unsigned. -/
  | cmpLeu (i : Iss) (f : FSC)
  /-- `CMP_GTU` (R116): cmp.gtu, unsigned. -/
  | cmpGtu (i : Iss) (f : FSC)
  /-- `CMP_GEU` (R116): cmp.geu, unsigned. -/
  | cmpGeu (i : Iss) (f : FSC)
  /-- `PAND` (R116): pand: predicate AND. -/
  | pand (i : Iss) (f : FSP)
  /-- `POR` (R116): por: predicate OR. -/
  | por (i : Iss) (f : FSP)
  /-- `PXOR` (R116): pxor: predicate XOR. -/
  | pxor (i : Iss) (f : FSP)
  /-- `PANDN` (R116): pandn: pa AND NOT pb. -/
  | pandn (i : Iss) (f : FSP)
  /-- `PNOT` (R116): pnot: predicate NOT. -/
  | pnot (i : Iss) (f : FSP)
  /-- `PSET` (R116): pset: sets a predicate to 1. -/
  | pset (i : Iss) (f : FSP)
  /-- `PCLR` (R116): pclr: clears a predicate to 0. -/
  | pclr (i : Iss) (f : FSP)
  /-- `MOV` (R117): mov: moves a value between register files, including lc, rrb and modifier parts. -/
  | mov (i : Iss) (f : FSX)
  /-- `MOVL` (R116): movl: loads a sign-extended 16-bit immediate. -/
  | movl (i : Iss) (f : FSL)
  /-- `MOVH` (R116): movh: sets the high half of rd and keeps its low half. -/
  | movh (i : Iss) (f : FSL)
  /-- `BR` (R118): br: PC-relative branch after two delay bundles. -/
  | br (i : Iss) (f : FSB)
  /-- `CALL` (R118): call: branches and writes the return address to a15. -/
  | call (i : Iss) (f : FSB)
  /-- `JR` (R116): jr: branches to the address in an. -/
  | jr (i : Iss) (f : FSJ)
  /-- `JALR` (R116): jalr: branches to an and writes the return address to a15. -/
  | jalr (i : Iss) (f : FSJ)
  /-- `RETI` (R96): reti: starts the return from an interrupt or exception handler. -/
  | reti (i : Iss) (z : BitVec 20)
  /-- `RETI_RESUME` (R96): Once the handler's results, loads and stores have landed, the core restores bank, level and pending branch from EPC, EST and EBT and resumes. -/
  | retiResume (c : Nat)
  /-- `LOOP` (R132): loop: sets up a hardware loop on lc0 or lc1. -/
  | loop (i : Iss) (f : FSLP)
  /-- `LOOP_R` (R132): loop.r: sets up a rotating hardware loop with stage predicates. -/
  | loopR (i : Iss) (f : FSLP)
  /-- `LOOP_BACK` (R133): The END bundle of an active loop issues; the loop decrements, drains, rotates rrb and p4, or exits. -/
  | loopBack (c : Nat)
  /-- `FENCE` (R85): fence: stalls until every earlier remote load has landed and every earlier remote store is acknowledged. -/
  | fence (i : Iss) (f : FSY)
  /-- `TRAP` (R118): trap: raises SW_TRAP with a code. -/
  | trap (i : Iss) (f : FSY)
  /-- `BRK` (R118): brk: raises BREAK, or BKPT when a debugger is attached. -/
  | brk (i : Iss) (f : FSY)
  /-- `DONE` (R119): done: ends the work item after its delay bundles and waits for every outstanding result and access. -/
  | done (i : Iss) (f : FSY)
  /-- `MVFB` (R94): mvfb: reads a register of the bank at PLEVEL. -/
  | mvfb (i : Iss) (f : FSX)
  /-- `MVTB` (R94): mvtb: writes a register of the bank at PLEVEL. -/
  | mvtb (i : Iss) (f : FSX)
  /-- `MTC` (R116): mtc: moves four s registers into a BCP register. -/
  | mtc (i : Iss) (f : FSQ)
  /-- `MFC` (R116): mfc: moves a BCP register into four s registers. -/
  | mfc (i : Iss) (f : FSQ)
  /-- `LD_B` (R120): ld.b: loads a byte, sign-extended. -/
  | ldB (i : Iss) (f : FAM)
  /-- `LD_BU` (R120): ld.bu: loads a byte, zero-extended. -/
  | ldBu (i : Iss) (f : FAM)
  /-- `LD_H` (R120): ld.h: loads a halfword, sign-extended. -/
  | ldH (i : Iss) (f : FAM)
  /-- `LD_HU` (R120): ld.hu: loads a halfword, zero-extended. -/
  | ldHu (i : Iss) (f : FAM)
  /-- `LD_W` (R120): ld.w: loads a word, locally or remotely, or from a CCR or BCP register. -/
  | ldW (i : Iss) (f : FAM)
  /-- `LD_D` (R120): ld.d: loads two words. -/
  | ldD (i : Iss) (f : FAM)
  /-- `LD_Q` (R120): ld.q: loads four words. -/
  | ldQ (i : Iss) (f : FAM)
  /-- `LD_A` (R120): ld.a: loads an address register. -/
  | ldA (i : Iss) (f : FAM)
  /-- `LD_ACC` (R120): ld.acc: loads an accumulator. -/
  | ldAcc (i : Iss) (f : FAM)
  /-- `LD_M` (R120): ld.m: loads a modifier register. -/
  | ldM (i : Iss) (f : FAM)
  /-- `ST_B` (R120): st.b: stores a byte. -/
  | stB (i : Iss) (f : FAM)
  /-- `ST_H` (R120): st.h: stores a halfword. -/
  | stH (i : Iss) (f : FAM)
  /-- `ST_W` (R120): st.w: stores a word, locally, remotely, or to a CCR or BCP register. -/
  | stW (i : Iss) (f : FAM)
  /-- `ST_D` (R120): st.d: stores two words. -/
  | stD (i : Iss) (f : FAM)
  /-- `ST_Q` (R120): st.q: stores four words. -/
  | stQ (i : Iss) (f : FAM)
  /-- `ST_A` (R120): st.a: stores an address register. -/
  | stA (i : Iss) (f : FAM)
  /-- `ST_ACC` (R120): st.acc: stores an accumulator sign-extended to 64 bits. -/
  | stAcc (i : Iss) (f : FAM)
  /-- `ST_M` (R120): st.m: stores a modifier register. -/
  | stM (i : Iss) (f : FAM)
  /-- `ADDI_A` (R120): addi.a: address register plus an immediate. -/
  | addiA (i : Iss) (f : FAI)
  /-- `ADDA` (R120): adda: address register plus an s register. -/
  | adda (i : Iss) (f : FAR)
  /-- `UPD` (R120): upd: updates an address by a modifier with no access. -/
  | upd (i : Iss) (f : FAU)
  /-- `CMAC` (R123): cmac: complex multiply-accumulate into an accumulator pair. -/
  | cmac (i : Iss) (f : FMM)
  /-- `CMACJ` (R123): cmacj: conjugate complex multiply-accumulate. -/
  | cmacj (i : Iss) (f : FMM)
  /-- `DMAC` (R123): dmac: dual multiply-accumulate. -/
  | dmac (i : Iss) (f : FMM)
  /-- `XMAC` (R123): xmac: cross multiply-accumulate. -/
  | xmac (i : Iss) (f : FMM)
  /-- `QMAC` (R123): qmac: four products into four accumulators. -/
  | qmac (i : Iss) (f : FMM)
  /-- `MAC` (R123): mac: real multiply-accumulate. -/
  | mac (i : Iss) (f : FMM)
  /-- `FIR` (R128): fir: one filter tap, an accumulate and a delay-line move. -/
  | fir (i : Iss) (f : FMF)
  /-- `EXTW` (R126): extw: extracts a 32-bit value from an accumulator with rounding and saturation. -/
  | extw (i : Iss) (f : FME)
  /-- `EXTH` (R126): exth: extracts a 16-bit value from an accumulator. -/
  | exth (i : Iss) (f : FME)
  /-- `EXTC` (R127): extc: extracts a complex 16-bit pair from an accumulator pair. -/
  | extc (i : Iss) (f : FME)
  /-- `CLRACC` (R127): clracc: clears an accumulator. -/
  | clracc (i : Iss) (f : FMA)
  /-- `CLRACC_P` (R127): clracc.p: clears an accumulator pair. -/
  | clraccP (i : Iss) (f : FMA)
  /-- `MOVSA` (R127): movsa: moves a shifted s register into an accumulator. -/
  | movsa (i : Iss) (f : FMA)
  /-- `ADDACC` (R127): addacc: adds two accumulators. -/
  | addacc (i : Iss) (f : FMA)
  /-- `SUBACC` (R127): subacc: subtracts two accumulators. -/
  | subacc (i : Iss) (f : FMA)
  /-- `SHACC` (R127): shacc: shifts an accumulator. -/
  | shacc (i : Iss) (f : FMA)
  /-- `MOVGA` (R127): movga: moves accumulator guard bits to an s register. -/
  | movga (i : Iss) (f : FMA)
  /-- `MOVLA` (R127): movla: moves the low 32 accumulator bits to an s register. -/
  | movla (i : Iss) (f : FMA)
  /-- `SVADD` (R130): svadd: short-vector wrapped add. -/
  | svadd (i : Iss) (f : FMV)
  /-- `SVADDS` (R130): svadds: short-vector saturated add. -/
  | svadds (i : Iss) (f : FMV)
  /-- `SVSUB` (R130): svsub: short-vector wrapped subtract. -/
  | svsub (i : Iss) (f : FMV)
  /-- `SVSUBS` (R130): svsubs: short-vector saturated subtract. -/
  | svsubs (i : Iss) (f : FMV)
  /-- `SVCONJ` (R130): svconj: short-vector conjugate. -/
  | svconj (i : Iss) (f : FMV)
  /-- `SVROTJ` (R130): svrotj: multiplies by j. -/
  | svrotj (i : Iss) (f : FMV)
  /-- `SVROTNJ` (R130): svrotnj: multiplies by minus j. -/
  | svrotnj (i : Iss) (f : FMV)
  /-- `SVSHR` (R130): svshr: rounded right shift of each part. -/
  | svshr (i : Iss) (f : FMV)
  /-- `SVCMUL` (R131): svcmul: short-vector complex multiply. -/
  | svcmul (i : Iss) (f : FMV)
  /-- `SVCMULJ` (R131): svcmulj: short-vector conjugate multiply. -/
  | svcmulj (i : Iss) (f : FMV)
  /-- `SVSWAP` (R130): svswap: swaps the real and imaginary parts. -/
  | svswap (i : Iss) (f : FMV)
  /-- `VADD` (R146): vadd: vector wrapped add. -/
  | vadd (i : Iss) (f : FVR)
  /-- `VADDS` (R146): vadds: vector saturated add. -/
  | vadds (i : Iss) (f : FVR)
  /-- `VSUB` (R146): vsub: vector wrapped subtract. -/
  | vsub (i : Iss) (f : FVR)
  /-- `VSUBS` (R146): vsubs: vector saturated subtract. -/
  | vsubs (i : Iss) (f : FVR)
  /-- `VAND` (R144): vand: vector bitwise AND. -/
  | vand (i : Iss) (f : FVR)
  /-- `VOR` (R144): vor: vector bitwise OR. -/
  | vor (i : Iss) (f : FVR)
  /-- `VXOR` (R144): vxor: vector bitwise XOR. -/
  | vxor (i : Iss) (f : FVR)
  /-- `VMIN` (R144): vmin: vector signed minimum. -/
  | vmin (i : Iss) (f : FVR)
  /-- `VMAX` (R144): vmax: vector signed maximum. -/
  | vmax (i : Iss) (f : FVR)
  /-- `VSHLI` (R146): vshli: vector left shift. -/
  | vshli (i : Iss) (f : FVI)
  /-- `VSHRI` (R146): vshri: vector logical right shift. -/
  | vshri (i : Iss) (f : FVI)
  /-- `VSARI` (R146): vsari: vector arithmetic right shift. -/
  | vsari (i : Iss) (f : FVI)
  /-- `VMOV` (R144): vmov: vector copy. -/
  | vmov (i : Iss) (f : FVR)
  /-- `VSEL` (R144): vsel: selects elements by the guard mask. -/
  | vsel (i : Iss) (f : FVR)
  /-- `VCONJ` (R144): vconj: vector conjugate. -/
  | vconj (i : Iss) (f : FVR)
  /-- `VCMP_EQ` (R146): vcmp.eq into a vector mask. -/
  | vcmpEq (i : Iss) (f : FVR)
  /-- `VCMP_NE` (R146): vcmp.ne into a vector mask. -/
  | vcmpNe (i : Iss) (f : FVR)
  /-- `VCMP_LT` (R146): vcmp.lt into a vector mask. -/
  | vcmpLt (i : Iss) (f : FVR)
  /-- `VCMP_LE` (R146): vcmp.le into a vector mask. -/
  | vcmpLe (i : Iss) (f : FVR)
  /-- `VCMP_GT` (R146): vcmp.gt into a vector mask. -/
  | vcmpGt (i : Iss) (f : FVR)
  /-- `VCMP_GE` (R146): vcmp.ge into a vector mask. -/
  | vcmpGe (i : Iss) (f : FVR)
  /-- `VCMUL` (R147): vcmul: vector complex multiply. -/
  | vcmul (i : Iss) (f : FVC)
  /-- `VCMULJ` (R147): vcmulj: vector conjugate multiply. -/
  | vcmulj (i : Iss) (f : FVC)
  /-- `VCMAC` (R147): vcmac: vector complex multiply-accumulate into ci32. -/
  | vcmac (i : Iss) (f : FVC)
  /-- `VCMACJ` (R147): vcmacj: vector conjugate multiply-accumulate. -/
  | vcmacj (i : Iss) (f : FVC)
  /-- `VCMAG2` (R147): vcmag2: vector magnitude squared. -/
  | vcmag2 (i : Iss) (f : FVC)
  /-- `VCROT_P` (R147): vcrot.p: multiplies by j. -/
  | vcrotP (i : Iss) (f : FVC)
  /-- `VCROT_N` (R147): vcrot.n: multiplies by minus j. -/
  | vcrotN (i : Iss) (f : FVC)
  /-- `VCDOT` (R148): vcdot: complex dot product into an accumulator pair. -/
  | vcdot (i : Iss) (f : FVD)
  /-- `VCDOTJ` (R148): vcdotj: conjugate dot product into an accumulator pair. -/
  | vcdotj (i : Iss) (f : FVD)
  /-- `VPACK` (R149): vpack: converts ci32 to ci16 with rounding and saturation. -/
  | vpack (i : Iss) (f : FVI)
  /-- `VUNPK` (R149): vunpk: converts ci16 to ci32 exactly. -/
  | vunpk (i : Iss) (f : FVI)
  /-- `VBFS` (R150): vbfs: block-floating-point shift. -/
  | vbfs (i : Iss) (f : FVR)
  /-- `VBFN` (R150): vbfn: block-floating-point normalise. -/
  | vbfn (i : Iss) (f : FVR)
  /-- `VLD` (R151): vld: unit-stride vector load. -/
  | vld (i : Iss) (f : FVM)
  /-- `VLDS` (R151): vlds: strided vector load. -/
  | vlds (i : Iss) (f : FVM)
  /-- `VGATHER` (R151): vgather: gather load. -/
  | vgather (i : Iss) (f : FVM)
  /-- `VLDFF` (R155): vldff: unit-stride first-fault load. -/
  | vldff (i : Iss) (f : FVM)
  /-- `VGATHERFF` (R155): vgatherff: first-fault gather. -/
  | vgatherff (i : Iss) (f : FVM)
  /-- `VST` (R151): vst: unit-stride vector store. -/
  | vst (i : Iss) (f : FVM)
  /-- `VSTS` (R151): vsts: strided vector store. -/
  | vsts (i : Iss) (f : FVM)
  /-- `VSCATTER` (R151): vscatter: scatter store. -/
  | vscatter (i : Iss) (f : FVM)
  /-- `VEXT` (R144): vext: extracts an element into an s register. -/
  | vext (i : Iss) (f : FVX)
  /-- `VINS` (R144): vins: inserts an s register into an element. -/
  | vins (i : Iss) (f : FVX)
  /-- `VBCAST` (R144): vbcast: broadcasts an s register to every element. -/
  | vbcast (i : Iss) (f : FVX)
  /-- `VSETVL` (R145): vsetvl: sets vl, clamped to 1 to 64. -/
  | vsetvl (i : Iss) (f : FVL)
  /-- `VGETVL` (R145): vgetvl: reads vl. -/
  | vgetvl (i : Iss) (f : FVL)
  /-- `VGETFF` (R145): vgetff: reads vff. -/
  | vgetff (i : Iss) (f : FVL)
  /-- `VSETFF` (R145): vsetff: writes vff. -/
  | vsetff (i : Iss) (f : FVL)
  /-- `VMAND` (R145): vmand: mask AND. -/
  | vmand (i : Iss) (f : FVK)
  /-- `VMOR` (R145): vmor: mask OR. -/
  | vmor (i : Iss) (f : FVK)
  /-- `VMXOR` (R145): vmxor: mask XOR. -/
  | vmxor (i : Iss) (f : FVK)
  /-- `VMANDN` (R145): vmandn: mask AND NOT. -/
  | vmandn (i : Iss) (f : FVK)
  /-- `VMNOT` (R145): vmnot: mask NOT. -/
  | vmnot (i : Iss) (f : FVK)
  /-- `VMSET` (R145): vmset: sets mask bits below vl. -/
  | vmset (i : Iss) (f : FVK)
  /-- `VMCLR` (R145): vmclr: clears a mask. -/
  | vmclr (i : Iss) (f : FVK)
  /-- `VMPOP` (R145): vmpop: counts mask bits below vl. -/
  | vmpop (i : Iss) (f : FVK)
  /-- `VMFIRST` (R145): vmfirst: index of the lowest set mask bit. -/
  | vmfirst (i : Iss) (f : FVK)
  /-- `VMTOS` (R145): vmtos: moves a mask to two s registers. -/
  | vmtos (i : Iss) (f : FVK)
  /-- `VMFRS` (R145): vmfrs: loads a mask from two s registers. -/
  | vmfrs (i : Iss) (f : FVK)
  /-- `INTERRUPT_ENTRY` (R95): At a boundary the core takes the chosen enabled pending source, switches bank, saves EPC, EST and EBT, and fetches the vector. -/
  | interruptEntry (c : Nat)
  /-- `PRECISE_EXCEPTION` (R98): A faulting bundle is cancelled before it commits and the core enters level 2 at VBASE + 0x800 with the cause. -/
  | preciseException (c : Nat) (code : Nat) (slot : Nat)
  /-- `DEFERRED_EXCEPTION` (R100): A REMOTE_ERR, LDM_CRC or BCP_FAULT that is owed to the running context is taken at the first allowed boundary. -/
  | deferredException (c : Nat)
  /-- `CCR_IRQ_RAISE` (R89): A write raises DOORBELL or SOFT sources 8 to 23 on a core. -/
  | ccrIrqRaise (c : Nat) (v : Word)
  /-- `DMA_GO` (R105): An 8-byte write enqueues a copy of the channel's descriptor with NOTIFY and TAG, or is refused when 16 transfers are held. -/
  | dmaGo (c : Nat) (v : BitVec 64)
  /-- `DMA_ABORT` (R108): A write of ABORT ends every queued transfer, and the running one after its current line, with ABORTED. -/
  | dmaAbort (c : Nat)
  /-- `DMA_TRANSFER_START` (R106): An idle channel begins its next transfer, checks it whole, and moves rows line by line or ends BAD_DESC. -/
  | dmaTransferStart (c : Nat)
  /-- `DMA_TRANSFER_END` (R107): A transfer ends; once its writes are acknowledged, the channel records the status, raises DMA_DONE or DMA_ERR and sends its notification. -/
  | dmaTransferEnd (c : Nat)
  /-- `GINIT` (R163): BCP GINIT: sets up a Gold-sequence state for c_init, positioned at bit k. -/
  | ginit (c : Nat)
  /-- `GSEQ` (R162): BCP GSEQ: outputs 128 sequence bits and advances the state. -/
  | gseq (c : Nat)
  /-- `GXOR` (R162): BCP GXOR: XORs n bits of a register with the sequence. -/
  | gxor (c : Nat)
  /-- `CRCU` (R164): BCP CRCU: updates a CRC state over n register bits. -/
  | crcu (c : Nat)
  /-- `GXORM` (R162): BCP GXORM: scrambles a bit or i8 stream in LDM. -/
  | gxorm (c : Nat)
  /-- `CRCM` (R162): BCP CRCM: computes a CRC state over a bit stream in LDM. -/
  | crcm (c : Nat)
  /-- `BILV` (R166): BCP BILV: bit interleaves or de-interleaves a stream. -/
  | bilv (c : Nat)
  /-- `RMSEL` (R165): BCP RMSEL: rate-matching bit selection from a record. -/
  | rmsel (c : Nat)
  /-- `RMREV` (R165): BCP RMREV: reverse rate matching into soft values. -/
  | rmrev (c : Nat)
  /-- `PACK` (R167): BCP PACK: bit-reverses bytes, or converts between bits and i8 values. -/
  | pack (c : Nat)
  /-- `STCLR` (R162): BCP STCLR: clears ERR and ERRCMD. -/
  | stclr (c : Nat)
  /-- `CPSAVE` (R173): BCP CPSAVE: writes the 272-byte save image and clears ERR. -/
  | cpsave (c : Nat)
  /-- `CPRST` (R173): BCP CPRST: restores the save image. -/
  | cprst (c : Nat)
  /-- `BCP_COMMAND_COMPLETE` (R162): A BCP command finishes after its cycles, writes CD and CS, and counts in DONE, or stops on LDM_CRC. -/
  | bcpCommandComplete (c : Nat)
  /-- `DESCRIPTOR_ACCEPT` (R179): Tansy takes a descriptor from a WORK queue and accepts it into its slot, or refuses it with a cause. -/
  | descriptorAccept
  /-- `RELEASE` (R182): Tansy-local air time reaches an item's release tick and the item leaves the delay lists. -/
  | release
  /-- `SIGNAL` (R184): A signal to an item lowers DEP, is held as a pre-count, or is dropped as stale or surplus, with any FAILED_INPUT mark. -/
  | signal
  /-- `TSY_SIGNAL` (R184): A write to TSY_SIGNAL sends a signal with its count to an item. -/
  | tsySignal (v : Word)
  /-- `TSY_EVENT_RAISE` (R186): A write adds a count to a Tansy event. -/
  | tsyEventRaise (v : Word)
  /-- `EVENT_RAISE` (R186): A unit's notification raises a Tansy event by 1 and may satisfy waits. -/
  | eventRaise
  /-- `WAIT_TIMEOUT` (R186): An item's wait time-out expires, the wait is abandoned, and TIMEOUT is set. -/
  | waitTimeout (id : Nat)
  /-- `DISPATCH` (R190): Tansy gives an idle core the chosen READY item and starts it at ENTRY with the bank-0 arguments. -/
  | dispatch
  /-- `DONE_REPORT` (R193): A core's done report reaches Tansy, which records the status, frees or retains the slot, signals successors and writes the completion record. -/
  | doneReport
  /-- `TSY_CANCEL` (R194): A write cancels an item according to its state. -/
  | tsyCancel (v : Word)
  /-- `TSY_MSG` (R195): An 8-byte write sends a message to a running item and raises TSY_MSG on its core. -/
  | tsyMsg (v : BitVec 64)
  /-- `DEADLINE` (R196): Air time reaches a running item's deadline and Tansy raises DEADLINE on its core. -/
  | deadline (id : Nat)
  /-- `WATCHDOG_KILL` (R197): TSY_WDOG_GRACE expires after DEADLINE with no done report; Tansy resets the core and ends the item KILLED. -/
  | watchdogKill (id : Nat)
  /-- `HALT_HOLD_EXPIRY` (R198): TSY_HALT_HOLD ticks after a double-fault halt, the core is reset and returns to dispatch. -/
  | haltHoldExpiry (c : Nat)
  /-- `RESUME` (R198): A write of RESUME resets a halted core and returns it to dispatch. -/
  | resume (c : Nat)
  /-- `TSY_RELEASE` (R199): A write records that one outside consumer of a retained item has finished, possibly ending retention. -/
  | tsyRelease (v : Word)
  /-- `LINEAGE_REPORT` (R201): The integrity unit reports a failing line in a retained item's output region; Tansy decides whether a recompute is in time, and starts or joins a re-run or declares it too late. -/
  | lineageReport
  /-- `QUEUE_CREATE` (R210): A write of EN = 1 to a DISABLED queue checks its configuration and makes it ACTIVE and empty, or refuses it. -/
  | queueCreate (q : Nat)
  /-- `QUEUE_DESTROY` (R211): A write of EN = 0 to an ACTIVE queue makes it DRAINING, voids its reservations and discards untaken entries. -/
  | queueDestroy (q : Nat)
  /-- `QUEUE_DISABLED` (R211): At most 2 µs after the destroy began, GEN advances and the queue becomes DISABLED. -/
  | queueDisabled (q : Nat)
  /-- `QDB_RESERVE` (R213): An 8-byte read reserves a slot, or returns the cause of refusal. -/
  | qdbReserve (who : Who) (q : Nat) (g : Nat)
  /-- `QDB_PUBLISH` (R215): A write publishes or voids a reserved slot, making entries visible in reservation order. -/
  | qdbPublish (who : Who) (q : Nat) (idx : Nat) (gen : Nat) (vd : Bool)
  /-- `RESERVATION_TIMEOUT` (R216): A slot left unpublished for RSV_TMO µs becomes void. -/
  | reservationTimeout
  /-- `HW_PRODUCE` (R214): A hardware producer writes an entry at TAIL and publishes it, or waits under back-pressure while the queue is full. -/
  | hwProduce (q : Nat)
  /-- `HW_CONSUME` (R218): A hardware consumer takes the entry at HEAD, or discards the entries of a line that answers with an error. -/
  | hwConsume (q : Nat)
  /-- `QDB_CONSUMED` (R219): A software consumer's write advances HEAD past the consumed entries. -/
  | qdbConsumed (q : Nat) (nm1 : Nat) (gen : Nat)
  /-- `QUEUE_NOTIFY` (R220): QMG sends the queue's notification for entries made visible: an event, a core doorbell or a host vector. -/
  | queueNotify (q : Nat)
  /-- `FFT` (R242): FFT job: frequency shift, window, transform and bin selection. -/
  | fft (j : Nat)
  /-- `IFFT` (R243): IFFT job with cyclic prefix insertion, windowing and tail slots. -/
  | ifft (j : Nat)
  /-- `DFT` (R239): DFT job of 12M points or a PRACH length. -/
  | dft (j : Nat)
  /-- `IDFT` (R239): IDFT job of 12M points. -/
  | idft (j : Nat)
  /-- `PRACH` (R244): PRACH job: cyclic prefix removal, shift, decimation and DFT. -/
  | prach (j : Nat)
  /-- `CHEST` (R250): Matrix channel estimation job. -/
  | chest (j : Nat)
  /-- `TCOMB` (R250): Matrix job that combines two channel estimates. -/
  | tcomb (j : Nat)
  /-- `EQ1` (R251): Single-layer equalisation job. -/
  | eq1 (j : Nat)
  /-- `MMSE` (R251): MMSE combining job. -/
  | mmse (j : Nat)
  /-- `ZF` (R251): Zero-forcing combining job. -/
  | zf (j : Nat)
  /-- `BFWEIGHT` (R252): Beamforming weight job. -/
  | bfweight (j : Nat)
  /-- `PRECODE` (R252): Precoding job. -/
  | precode (j : Nat)
  /-- `DEMAP` (R253): Soft demapping job. -/
  | demap (j : Nat)
  /-- `SCAN` (R267): Burst-finder scan job over samples in memory. -/
  | scan (b : Nat)
  /-- `LDPC_DECODE` (R280): LDPC decoder job with HARQ combining. -/
  | ldpcDecode (j : Nat)
  /-- `LDPC_ENCODE` (R286): LDPC encoder job with rate matching. -/
  | ldpcEncode (j : Nat)
  /-- `TURBO_DECODE` (R289): Turbo decoder job with rate dematching and HARQ. -/
  | turboDecode (j : Nat)
  /-- `POLAR_ENCODE` (R292): Polar encoder job. -/
  | polarEncode (j : Nat)
  /-- `POLAR_DECODE` (R293): Polar list decoder job. -/
  | polarDecode (j : Nat)
  /-- `JOB_COMPLETE` (R233): An engine job ends; once its outputs are acknowledged, the instance writes the completion record and sends the notification. -/
  | jobComplete (kind : Nat) (j : Nat)
  /-- `GAIN_UPDATE` (R257): At the end of a symbol, the gain loop measures the stream and sets the next code, unless a freeze discards the update. -/
  | gainUpdate (st : Nat)
  /-- `FREEZE_END` (R259): A gain-loop freeze reaches detection time plus FREEZE_LEN and ends. -/
  | freezeEnd (st : Nat)
  /-- `FEN_GL_UNFREEZE` (R260): A write ends every freeze of a stream at once. -/
  | fenGlUnfreeze (v : Word)
  /-- `ENERGY_TRIGGER` (R262): Mode E energy reaches ETHR, freezes gain and starts a qualification. -/
  | energyTrigger (b : Nat) (w : Nat)
  /-- `QUALIFIER_DONE` (R262): The qualifier finishes its correlation and accepts or rejects the detection. -/
  | qualifierDone (b : Nat) (w : Nat)
  /-- `WORD_MATCH` (R263): A mode S word match is detected within TOL errors. -/
  | wordMatch (b : Nat) (w : Nat)
  /-- `WINDOW_RESULT` (R264): A watch window has been evaluated and the finder writes its result set. -/
  | windowResult (b : Nat) (w : Nat)
  /-- `BF_GRACE_EXPIRY` (R264): Window end plus FEN_BF_GRACE passes before evaluation and the result is written with PART = 1. -/
  | bfGraceExpiry (b : Nat) (w : Nat)
  /-- `BF_SAMPLE_DROP` (R266): A finder falls 65,536 samples behind and drops the newest samples of its highest open entry. -/
  | bfSampleDrop (b : Nat) (n : Nat)
  /-- `FEN_BF_ACK` (R265): A write of the current SEQ clears READY in a result set; any other value is counted. -/
  | fenBfAck (b : Nat) (w : Nat) (v : Word)
  /-- `PA_EN_EDGE` (R302): Air time reaches the start or end of a PA_EN output's active span. -/
  | paEnEdge (n : Nat)
  /-- `TXS_PAEN_CLR` (R306): A write releases drop latches. -/
  | txsPaenClr (v : Word)
  /-- `YRW_SW_TRIG` (R308): A write triggers Yarrow sequences by software. -/
  | yrwSwTrig (v : Word)
  /-- `SEQ_TRIGGER` (R309): An air-time or PA_EN edge trigger arrives for a sequence, which becomes ARMED or overruns. -/
  | seqTrigger (q : Nat)
  /-- `SAMPLING_INSTANT` (R309): An armed sequence reaches its first sampling instant and runs, is held pending, or overruns. -/
  | samplingInstant (q : Nat)
  /-- `SEQUENCE_RESULT` (R314): A run ends and its calibrated results become visible, comparators are evaluated, and the record and notification are sent. -/
  | sequenceResult (raws : List Word)
  /-- `INJ_GO` (R310): A write of GO makes the injected request pending, or is refused with INJ_BUSY. -/
  | injGo
  /-- `INJ_CANCEL` (R310): A write of CANCEL ends a pending injected request that has not begun. -/
  | injCancel
  /-- `INJ_SAMPLING` (R310): The injected request's sampling instant comes and it converts, takes a step boundary, or waits for a calibration. -/
  | injSampling
  /-- `INJ_RESULT` (R314): The injected conversion completes and its result set is written. -/
  | injResult (raws : List Word)
  /-- `CAL_PHASE0` (R313): A YRW_CAL write with PHASE = 0 requests the zero-input phase of a calibration. -/
  | calPhase0 (ch : Nat)
  /-- `CAL_PHASE1` (R313): A YRW_CAL write with PHASE = 1 requests the known-voltage phase with TARGET. -/
  | calPhase1 (ch : Nat) (target : Nat)
  /-- `CAL_PHASE_START` (R313): A waiting calibration phase starts once no injected request is pending and Yarrow is free. -/
  | calPhaseStart
  /-- `CAL_PHASE_END` (R313): A phase's 64 conversions end; M0 is recorded, or GAIN and OFS16 are computed and written or refused. -/
  | calPhaseEnd (raws : List Word)
  /-- `YRW_RES_ACK` (R314): A write of the current SEQ releases a Yarrow result set. -/
  | yrwResAck (r : Nat) (v : Word)
  /-- `FRAME_RECEIVE` (R324): A received frame is stored in the FIFO, checked, parsed, classified by the flow table and window-checked. -/
  | frameReceive (m : Nat) (frame : List Byte) (pcsErr : Bool) (corr : Nat) (uncorr : Nat) (per : Nat)
  /-- `FRAME_DELIVERY` (R337): A frame with buffers and queue room is written to buffers, and its descriptors become visible and it notifies. -/
  | frameDelivery (m : Nat)
  /-- `RX_HOLD_EXPIRY` (R336): A waiting frame's RX_HOLD expires and it is dropped as RX_NOBUF. -/
  | rxHoldExpiry (m : Nat)
  /-- `MAC_BR_PROD` (R335): A write of PROD supplies buffers to a ring, or is ignored with BR_ERR. -/
  | macBrProd (g : Nat) (r : Nat) (v : Word)
  /-- `BR_ENABLE` (R335): A write of EN = 1 enables a buffer ring and sets PROD = CONS = 0. -/
  | brEnable (g : Nat) (r : Nat) (v : Word)
  /-- `FRAME_LAUNCH` (R341): The due head descriptor with the earliest launch time starts on the wire, or fails with a cause. -/
  | frameLaunch (m : Nat)
  /-- `FRAME_SENT` (R345): A frame's timestamp point leaves; a two-step timestamp is queued and the notification is sent. -/
  | frameSent (m : Nat)
  /-- `MAC_TXTS_POP` (R345): A write of POP removes the oldest transmit timestamp. -/
  | macTxtsPop (m : Nat)
  /-- `MAC_LINK_UP` (R322): A MAC's link comes up once the far end matches. -/
  | macLinkUp (m : Nat)
  /-- `MAC_LINK_DOWN` (R322): A MAC's link goes down and DOWN is set. -/
  | macLinkDown (m : Nat) (los : Bool)
  /-- `WAKE_MATCH` (R350): In Listen, a matching frame on a designated MAC records the wake and starts start-up. -/
  | wakeMatch (m : Nat) (frame : List Byte)
  /-- `READ` (R356): A READ packet reaches its destination stop, which tests its lines and answers with RDATA. -/
  | read (p : Pkt)
  /-- `WRITE` (R356): A WRITE packet reaches its destination stop, which performs it and answers with WACK. -/
  | write (p : Pkt)
  /-- `DOORBELL` (R356): A DOORBELL packet performs a write to the doorbell region and is answered with WACK. -/
  | doorbell (p : Pkt)
  /-- `RDATA` (R84): A read answer reaches its initiator and lands the data or an error. -/
  | rdata (who : Who) (tag : Nat)
  /-- `WACK` (R85): A write acknowledgement reaches its initiator. -/
  | wack (who : Who) (tag : Nat)
  /-- `IRQ` (R356): An IRQ packet raises an interrupt at a core or at the host link. -/
  | irq (c : Nat)
  /-- `STOP` (R356): A STOP packet reaches a stop's always-on part: ARM, CANCEL, snapshot, table write, flip or power control. -/
  | stop (what : StopOp) (stop : Nat)
  /-- `LINK_REPLAY` (R362): A bad beat is replayed from the sender's buffer, and the link may be marked failed. -/
  | linkReplay (kind : Nat) (id : Nat) (spent : Bool)
  /-- `HEARTBEAT_LOSS` (R362): A link's heartbeat is absent for 1 µs and it is marked failed. -/
  | heartbeatLoss (kind : Nat) (id : Nat)
  /-- `RECONF_MARK_FAILED` (R368): A FAB_RECONF write marks a segment, port or link failed and starts an epoch change. -/
  | reconfMarkFailed (kind : Nat) (id : Nat)
  /-- `RECONF_RETURN` (R368): A FAB_RECONF write returns a segment, port or link to service after retraining and test traffic. -/
  | reconfReturn (kind : Nat) (id : Nat)
  /-- `RTS_TEST_END` (R368): The 1 ms return-to-service test ends: the link stays failed with RTS_FAIL, or the epoch change proceeds. -/
  | rtsTestEnd (kind : Nat) (id : Nat)
  /-- `EPOCH_FLIP` (R366): Every stop has replied to the new tables and FAB sends FLIP. -/
  | epochFlip
  /-- `EPOCH_RELEASE` (R366): No old-epoch packet remains; FAB releases the old tables, toggles EPOCH and starts any queued change. -/
  | epochRelease
  /-- `REQUEST_TIMEOUT` (R370): An outstanding request would expire by its BORN, and its stop synthesises a TIMEOUT answer. -/
  | requestTimeout (who : Who) (tag : Nat)
  /-- `POWER_DOWN` (R373): A REQ = 1 write starts DRAIN of a switchable domain, draining cluster cores. -/
  | powerDown (p : Nat)
  /-- `POINT_OF_NO_RETURN` (R373): A draining domain has nothing outstanding and its stop closes ejection. -/
  | pointOfNoReturn (p : Nat)
  /-- `POWER_OFF` (R373): The domain reaches OFF, and a wake is requested at once if packets are held. -/
  | powerOff (p : Nat)
  /-- `POWER_DOWN_ABANDON` (R373): DRAIN has not reached the point of no return within 40 µs, and the power-down is abandoned. -/
  | powerDownAbandon (p : Nat)
  /-- `WAKE` (R423): A REQ = 2 write requests a wake and clears DRAIN on the cluster's cores. -/
  | wake (p : Nat)
  /-- `WAKE_ADMIT` (R424): The queue head is admitted to ramp because fewer than two domains are waking. -/
  | wakeAdmit
  /-- `WAKE_COMPLETE` (R424): 4 µs after admission the domain serves and its stop delivers the held packets. -/
  | wakeComplete (p : Nat)
  /-- `REFETCH_COMPLETE` (R386): A refetch writes the checked source line to the destination, or the destination goes on to lineage or poison. -/
  | refetchComplete (la : Nat)
  /-- `TEASEL_GO` (R394): A write of GO starts a Teasel pass, or is refused while one runs, or ends at once with BAD_RANGE. -/
  | teaselGo
  /-- `TEASEL_ABORT` (R394): A write of ABORT ends the pass after the current line. -/
  | teaselAbort
  /-- `TEASEL_LINE_READ` (R394): At its rate Teasel reads the next line and decides or counts a failure. -/
  | teaselLineRead
  /-- `READ_RAW` (R396): MEM_TEST_OP READ_RAW reads a line's data and check with no test. -/
  | readRaw
  /-- `WRITE_DATA` (R396): MEM_TEST_OP WRITE_DATA writes a line's data and leaves its check. -/
  | writeData
  /-- `WRITE_CHK` (R396): MEM_TEST_OP WRITE_CHK writes a line's check and leaves its data. -/
  | writeChk
  /-- `TEST_OP_DONE` (R396): A test operation completes and BUSY clears. -/
  | testOpDone
  /-- `REFETCH_WINDOW_ENABLE` (R385): A write of EN = 1 enables a refetch window, or leaves it off with CFG_ERR. -/
  | refetchWindowEnable (w : Nat)
  /-- `RD` (R404): Host RD is issued as a fabric READ and answered with RDATA. -/
  | rd (core : Nat) (tag : Nat) (addr : Nat) (len : Nat)
  /-- `WR` (R404): Host WR is issued as a WRITE or DOORBELL, with the check recomputed and coherent lines snooped. -/
  | wr (core : Nat) (tag : Nat) (addr : Nat) (data : List Byte) (mask : List Bool)
  /-- `RDC` (R407): Host RDC reads a line to cache shared; the directory records S. -/
  | rdc (core : Nat) (tag : Nat) (addr : Nat)
  /-- `RDX` (R407): Host RDX reads a line to own; the directory records O. -/
  | rdx (core : Nat) (tag : Nat) (addr : Nat)
  /-- `WB` (R407): Host WB writes a line back and sets it to I. -/
  | wb (core : Nat) (tag : Nat) (addr : Nat) (data : List Byte)
  /-- `CLN` (R407): Host CLN gives up a line and sets it to I. -/
  | cln (core : Nat) (tag : Nat) (addr : Nat)
  /-- `SNPACK` (R407): The host answers a snoop without data, and the waiting access proceeds. -/
  | snpack (tag : Nat)
  /-- `SNPDATA` (R407): The host answers a snoop with data, which is written to HBM before the waiting access proceeds. -/
  | snpdata (tag : Nat) (data : List Byte)
  /-- `HOST_BAD_PACKET` (R403): A host packet with an unknown OPC or bad zero field is discarded and counted. -/
  | hostBadPacket (h : BitVec 128)
  /-- `SNOOP_TIMEOUT` (R410): A snoop goes unanswered for SNP_TMO; the line is taken as I, or is poisoned if it was O. -/
  | snoopTimeout (tag : Nat)
  /-- `COH_ENABLE` (R406): A write of EN = 1 enables a coherent region, or sets CFG_ERR. -/
  | cohEnable (r : Nat)
  /-- `COH_DISABLE` (R406): A write of EN = 0 starts the flush of a coherent region. -/
  | cohDisable (r : Nat)
  /-- `FLUSH_DONE` (R406): The last held line of the region is snooped, and EN and FLUSHING clear. -/
  | flushDone (r : Nat)
  /-- `HLK_VEC_RAISE` (R413): A write raises host interrupt vectors and may send INT messages. -/
  | hlkVecRaise (v : BitVec 64)
  /-- `HLK_VEC_EN` (R413): A write of the enables sends INT for vectors now enabled and pending. -/
  | hlkVecEn (v : BitVec 64)
  /-- `MODULE_FAIL` (R401): A UCIe module narrows or goes down; its unacknowledged packets are re-sent on the other module and DEGRADED is set. -/
  | moduleFail (m : Nat) (down : Bool)
  /-- `HOST_LINK_DOWN` (R416): Both modules go down and host requests go unanswered. -/
  | hostLinkDown
  /-- `HOST_LINK_UP` (R416): The host link finishes training and serves, announcing pending vectors. -/
  | hostLinkUp (w0 : Nat) (w1 : Nat) (r0 : Nat) (r1 : Nat)
  /-- `HOST_RESET` (R417): The host's sideband reset resets the host side: it voids host reservations, discards requests and poisons O lines. -/
  | hostReset
  /-- `HOST_DOWN_TIMEOUT` (R417): The link stays down for 100 µs and the host side is reset as for a sideband reset. -/
  | hostDownTimeout
  /-- `TEMP_SAMPLE` (R429): Every 10 µs the temperature sensors are compared with WARN, THROT and TRIP. -/
  | tempSample (temps : List Byte)
  /-- `THROTTLE_START` (R427): Temperature or input power exceeds its limit and the clusters and accelerators are throttled. -/
  | throttleStart (vin : Nat) (pin : Nat)
  /-- `THROTTLE_END` (R427): The cause has stayed below its release level for 1 ms and throttling ends. -/
  | throttleEnd (vin : Nat) (pin : Nat)
  /-- `DROOP` (R430): A voltage monitor detects a droop below DROOP, counts it and asserts ALERT_N. -/
  | droop (v : Nat)
  /-- `MON_RESULT` (R428): At each 1 ms boundary MON writes the result set, with AGEING checked. -/
  | monResult (volts : List Word) (procs : List Word)
  /-- `MON_RES_ACK` (R415): A write of the current SEQ releases the monitor result set. -/
  | monResAck (v : Word)
  /-- `MON_FAULT` (R432): A write of GO with a core index fails that core. -/
  | monFault (c : Nat)
  /-- `CORE_FAIL` (R433): A core is taken OUT, its item ends CORE_LOST or re-runs, and substitution by a spare starts if one is free. -/
  | coreFail (c : Nat)
  /-- `SPARE_SUBSTITUTE` (R433): The spare has been cleared and refetched and takes the logical index; the repair map and reason are updated. -/
  | spareSubstitute (c : Nat)
  /-- `LISTEN_ENTRY` (R437): A PWR_LISTEN GO write is refused with a cause, or stops Tansy and powers down every switchable domain. -/
  | listenEntry
  /-- `LISTEN_ALL_OFF` (R437): Every domain is OFF; HBM self-refreshes, the host link is held down and the Listen state is entered. -/
  | listenAllOff
  /-- `LOAD_FW` (R446): SRL_CMD LOAD_FW checks an image in HBM and writes it to a firmware bank. -/
  | loadFw
  /-- `PERSIST` (R445): SRL_CMD PERSIST, or a commit with PERSIST = 1, copies the values in effect to a configuration bank. -/
  | persist
  /-- `ERASE_CFG` (R445): SRL_CMD ERASE_CFG invalidates both configuration banks. -/
  | eraseCfg
  /-- `SORREL_WRITE_DONE` (R443): A Sorrel bank write reads back and checks; DONE and RESULT are set, it is logged and source 7 is raised. -/
  | sorrelWriteDone
  /-- `RUN` (R451): A write of RUN releases Tansy, PA_EN and MAC transmit after the restore. -/
  | run
  /-- `VIN_RISE` (R476): VIN exceeds the rising threshold and the power stage starts. -/
  | vinRise
  /-- `VIN_FALL` (R476): VIN falls below the falling threshold and every rail stops. -/
  | vinFall
  /-- `PORST_N` (R450): PORST_N resets the whole package and runs start-up from step 1 with BOOTSEL sampled. -/
  | porstN (bootsel : Nat)
  /-- `RESET_N` (R450): RESET_N resets the baseband die except air time, Sorrel, fuses and monitors, and runs start-up from step 3. -/
  | resetN (bootsel : Nat)
  /-- `START_UP_STEP` (R452): A power-on step completes and the next one begins, or start-up fails and goes to step 8. -/
  | startUpStep (fail : Bool) (rmap : Bool) (cal : Bool) (cores : List Nat) (spares : List Nat)
  /-- `FREEZE_N` (R454): FREEZE_N held low with PIN_EN = 1 starts a freeze. -/
  | freezeN (ns : Nat)
  /-- `CPN_FREEZE` (R454): A write of the freeze key with FRZ_EN = 1 starts a freeze. -/
  | cpnFreeze (v : Word)
  /-- `BYPASS` (R461): 1149.1 BYPASS instruction. -/
  | bypass
  /-- `SAMPLE_PRELOAD` (R461): 1149.1 SAMPLE/PRELOAD instruction. -/
  | samplePreload (pins : Nat) (v : Nat)
  /-- `EXTEST` (R461): 1149.1 EXTEST instruction. -/
  | extest (pins : Nat) (v : Nat)
  /-- `IDCODE` (R461): 1149.1 IDCODE instruction. -/
  | idcode
  /-- `CPN_STATUS` (R461): The Campion instruction that shifts out the freeze and lock status. -/
  | cpnStatus
  /-- `CPN_UNLOCK` (R462): Shifts out a nonce and the serial, and takes a slot, key and signature for verification. -/
  | cpnUnlock (slot : Nat) (key : List Byte) (sig : List Byte)
  /-- `UNLOCK_VERIFY_DONE` (R462): Signature verification ends and sets UNLOCKED or counts a failure. -/
  | unlockVerifyDone
  /-- `CPN_SEL` (R461): Selects a segment, lines and port for readout, ending any running request. -/
  | cpnSel (v : BitVec 96)
  /-- `CPN_DATA` (R464): Streams readout frames on TDO. -/
  | cpnData
  /-- `HALT` (R467): A write of HALT to CPN_DBG_CTL raises DBG_HALT on a core. -/
  | halt (c : Nat)
  /-- `BKPT_MATCH` (R466): A program breakpoint or watchpoint matches and BKPT is raised. -/
  | bkptMatch (c : Nat)
  /-- `SPI_READ` (R480): SPI command 0x03 reads a 4-byte register at a die address. -/
  | spiRead (addr : BitVec 48) (lost : Bool)
  /-- `SPI_WRITE` (R480): SPI command 0x02 writes a 4-byte register at a die address. -/
  | spiWrite (addr : BitVec 48) (v : Word) (got : Nat) (lost : Bool)
  /-- `SPI_BAD_COMMAND` (R480): An unknown SPI command returns 0xFF bytes until CS_N rises. -/
  | spiBadCommand (cmd : BitVec 8) (n : Nat)
  /-- `SOURCE_RETURN` (R44): The selected discipline source (SyncE clock or PPS_IN) becomes present again, SRC_LOST clears and the PLL enters ACQUIRE. -/
  | sourceReturn
  /-- `REFCLK_RETURN` (R421): CLKREF_A returns or a PLL fed from it regains lock, so the REFCLK cause of ALERT_N ends. -/
  | refclkReturn
  /-- `HBM_HOT` (R379): A stack's temperature crosses 85 °C, and the controller starts or stops doubling its refresh rate and sets or clears HBM_STATUS.HOT. -/
  | hbmHot (c : Nat) (t : Byte)
  /-- `ADAPTER_REPLAY` (R400): The UCIe die-to-die adapter finds a bad flit and replays it, counting HLK_CNT_RETRY. -/
  | adapterReplay (m : Nat)
  /-- `AUTORUN_RELEASE` (R451): With AUTORUN = 1, the first commit-grid boundary after the host link is ready releases Tansy, PA_EN and MAC transmit. -/
  | autorunRelease
  /-- `READOUT_REQUEST_END` (R464): A readout request on CAPD sends its LAST frame and ends, and CAPCLK and CAPD return low. -/
  | readoutRequestEnd
  deriving DecidableEq, Repr

end Sys2Proof
end

