-- ==== Sys2Proof/Config.lean ====
section
/-! DEFINITION. What an implementation fixes and the spec leaves open: every value here is opaque, so that a claim
holds whatever it is. `free` is the one source of values the spec states as undefined, unstated or chosen by the
part: `site` says which open point asks, `n` is the free-value counter that State holds and each use advances. -/

namespace Sys2Proof.Config

/-- The free values: open point `site`, use number `n`. No body can be seen, and the counter advances at each use. -/
opaque free (site n : Nat) : Nat

/-- Whether an ECDSA P-384 signature of a bank or an unlock request verifies: the key slot and the signed bytes
(R442, R462). The curve arithmetic stands outside the spec, in the standard it names. -/
opaque sigOk (slot : Nat) (bytes : List Byte) : Bool

/-- The nonce that CPN_UNLOCK shifts out (R462): `n` counts the requests. -/
opaque nonce (n : Nat) : Nat

/-- The NR LDPC base graphs of TS 38.212 (tables 5.3.2-2 and 5.3.2-3), which the spec cites and does not print:
for base graph `bg`, set index `ils`, row and column, the shift of the circulant, or none for a zero block. -/
opaque ldpcShift (bg ils row col : Nat) : Option Nat

/-- What an engine job computes where the spec fixes no exact value (R237, R245, R251): a function of the descriptor
bytes, the input bytes it read and an index, so that the same job with the same input gives the same bits. -/
opaque job (desc input : List Byte) (i : Nat) : Int

/-- The half-band cascade of R244, given by its ripple and rejection only: decimated sample m by 2^k of the samples of
one symbol, each part in units of 2^-40. -/
opaque decim (k : Nat) (samples : List (Int × Int)) (m : Nat) : Int × Int

/-- The matrix engine's inverse in floating point (R247, R251): entry i of the inverse of an n-row complex matrix given
row by row. The order of its operations, so its rounding, is not stated. -/
opaque mxInv (n : Nat) (a : List (Rat × Rat)) (i : Nat) : Rat × Rat

/-- Whether that inversion meets a pivot below 2^-40 of the trace (R251). -/
opaque mxSmallPivot (n : Nat) (a : List (Rat × Rat)) : Bool

/-- The parity bits of TS 38.212 clause 5.3.2 for base graph `bg`, lifting size `zc` and the K systematic bits. The
clause is cited and not printed. -/
opaque ldpcParity (bg zc : Nat) (info : List Bool) (i : Nat) : Bool

/-- Turbo decoding in max-log-MAP (R289): hard decision i after `it` full iterations, from the parameters K, F, SCALE,
NCB and the channel values. The arithmetic widths and the schedule are not stated. -/
opaque turboBit (params : List Nat) (soft : List Int) (it i : Nat) : Bool

/-- Whether the hard decisions of two successive half-iterations agree in iteration `it` (R288). -/
opaque turboAgree (params : List Nat) (soft : List Int) (it : Nat) : Bool

/-- Polar encoding and rate matching of TS 38.212 clauses 5.3.1 and 5.4.1, cited and not printed: output bit i for the
parameters N, E, IIL, IBIL and the K bits with their CRC. -/
opaque polarEnc (params : List Nat) (info : List Bool) (i : Nat) : Bool

/-- Successive-cancellation list decoding (R293): bit i of path l in order of metric, from the E channel values. -/
opaque polarBit (params : List Nat) (soft : List Int) (l i : Nat) : Bool

/-- The metric of path l, in units of 1/16. -/
opaque polarMetric (params : List Nat) (soft : List Int) (l : Nat) : Nat

/-- The set of the coherence directory that tracks a line (R408): 65,536 sets of 16 ways; how a line selects its set is
not stated. -/
opaque dirSet (line : Nat) : Nat

/-- The event within its family in an event-log record (R449): bits [7:0] of CODE, which the spec gives for family 2 only. -/
opaque evLow (fam kind : Nat) : Nat

/-- The event data of a record whose data the spec does not state (R449). -/
opaque evInfo (fam kind : Nat) : Nat

/-- The device key's public half, and the signature that its private half gives a message (R442); slot 15. -/
opaque devPub (i : Nat) : Byte
opaque devSig (msg : List Byte) (i : Nat) : Byte

/-- The 16-byte device serial (R462), as a number. -/
opaque serial : Nat

/-- The coding-engine cycles per millisecond that the baseline firmware finds for a carrier (R296), by engine kind
(0 LDPC decoding, 1 LDPC encoding, 2 polar encoding, 3 turbo decoding, 4 polar decoding) and profile. -/
opaque codingCycles (kind : Nat) (profile : List Nat) : Nat

end Sys2Proof.Config
end

