-- ==== Sys2Proof/Machine/RegAddr.lean ====
section
/-! DEFINITION. The die address of every control register, written from the register tables of spec/
(R37 block bases; R102, R109, R205, R226 to R228, R268 to R270, R297, R317, R318, R322 to R350, R376, R397 to
R399, R419, R438, R439, R453, R468). One definition per register, its indices as arguments. -/

namespace Sys2Proof.Reg

def AIR_NOW : Nat := 0x3000000000
def AIR_VIEW_CFG : Nat := 0x3000000008
def AIR_VIEW : Nat := 0x3000000010
def AIR_EPOCH : Nat := 0x3000000018
def AIR_CTRL : Nat := 0x3000000020
def AIR_STATUS : Nat := 0x3000000024
def AIR_FREQ_ADJ : Nat := 0x3000000028
def AIR_PHASE_ADJ : Nat := 0x300000002C
def AIR_STEP : Nat := 0x3000000030
def AIR_PPS_TS : Nat := 0x3000000038
def AIR_COMMIT_GRID : Nat := 0x3000000040
def AIR_COMMIT_REQ : Nat := 0x3000000044
def AIR_COMMIT_TARGET : Nat := 0x3000000048
def AIR_COMMIT_AT : Nat := 0x3000000050
def AIR_COMMIT_STATUS : Nat := 0x3000000058
def AIR_SNAP_REQ : Nat := 0x300000005C
def AIR_SNAP_TARGET : Nat := 0x3000000060
def AIR_SNAP_AT : Nat := 0x3000000068
def AIR_SNAP_STATUS : Nat := 0x3000000070
def AIR_PPS_ERR : Nat := 0x3000000078
def AIR_TOUT_CTRL (n : Nat) : Nat := 0x3000000100 + n * 0x10
def AIR_TOUT_PERIOD (n : Nat) : Nat := 0x3000000104 + n * 0x10
def AIR_TOUT_OFFSET (n : Nat) : Nat := 0x3000000108 + n * 0x10
def AIR_TOUT_WIDTH (n : Nat) : Nat := 0x300000010C + n * 0x10
def AIR_PPSO_CFG : Nat := 0x3000000180
def CCR_ID (n : Nat) (k : Nat) : Nat := 0x3004010000 + n * 0x100000 + k * 0x1000
def CCR_STATE (n : Nat) (k : Nat) : Nat := 0x3004010004 + n * 0x100000 + k * 0x1000
def CCR_VBASE (n : Nat) (k : Nat) : Nat := 0x3004010008 + n * 0x100000 + k * 0x1000
def CCR_IRQ_PEND (n : Nat) (k : Nat) : Nat := 0x3004010010 + n * 0x100000 + k * 0x1000
def CCR_IRQ_EN (n : Nat) (k : Nat) : Nat := 0x3004010014 + n * 0x100000 + k * 0x1000
def CCR_IRQ_LVL (n : Nat) (k : Nat) : Nat := 0x3004010018 + n * 0x100000 + k * 0x1000
def CCR_IRQ_RAISE (n : Nat) (k : Nat) : Nat := 0x300401001C + n * 0x100000 + k * 0x1000
def CCR_EPC (n : Nat) (k : Nat) (l : Nat) : Nat := 0x3004010020 + n * 0x100000 + k * 0x1000 + l * 0x10
def CCR_EST (n : Nat) (k : Nat) (l : Nat) : Nat := 0x3004010024 + n * 0x100000 + k * 0x1000 + l * 0x10
def CCR_EBT (n : Nat) (k : Nat) (l : Nat) : Nat := 0x3004010028 + n * 0x100000 + k * 0x1000 + l * 0x10
def CCR_ECAUSE (n : Nat) (k : Nat) (l : Nat) : Nat := 0x300401002C + n * 0x100000 + k * 0x1000 + l * 0x10
def CCR_EADDR (n : Nat) (k : Nat) : Nat := 0x3004010040 + n * 0x100000 + k * 0x1000
def CCR_EDADDR (n : Nat) (k : Nat) : Nat := 0x3004010048 + n * 0x100000 + k * 0x1000
def CCR_WIN (n : Nat) (k : Nat) (l : Nat) : Nat := 0x3004010050 + n * 0x100000 + k * 0x1000 + l * 0x4
def CCR_RMT (n : Nat) (k : Nat) : Nat := 0x3004010058 + n * 0x100000 + k * 0x1000
def CCR_CYCLES (n : Nat) (k : Nat) : Nat := 0x3004010060 + n * 0x100000 + k * 0x1000
def CCR_BUNDLES (n : Nat) (k : Nat) : Nat := 0x3004010068 + n * 0x100000 + k * 0x1000
def CCR_STALLS (n : Nat) (k : Nat) : Nat := 0x3004010070 + n * 0x100000 + k * 0x1000
def CCR_DMA_D (n : Nat) (k : Nat) (i : Nat) : Nat := 0x3004010100 + n * 0x100000 + k * 0x1000 + i * 0x4
def CCR_DMA_GO (n : Nat) (k : Nat) : Nat := 0x3004010120 + n * 0x100000 + k * 0x1000
def CCR_DMA_STAT (n : Nat) (k : Nat) : Nat := 0x3004010128 + n * 0x100000 + k * 0x1000
def CCR_DMA_CTL (n : Nat) (k : Nat) : Nat := 0x300401012C + n * 0x100000 + k * 0x1000
def CCR_DMA_LAST (n : Nat) (k : Nat) : Nat := 0x3004010130 + n * 0x100000 + k * 0x1000
def CCR_DMA_ERRADDR (n : Nat) (k : Nat) : Nat := 0x3004010138 + n * 0x100000 + k * 0x1000
def CLU_MAP (n : Nat) : Nat := 0x3004000000 + n * 0x100000
def CLU_CNT_DMA_XFER (n : Nat) : Nat := 0x3004000008 + n * 0x100000
def CLU_CNT_DMA_BYTES (n : Nat) : Nat := 0x3004000010 + n * 0x100000
def CLU_CNT_DMA_ERR (n : Nat) : Nat := 0x3004000018 + n * 0x100000
def CLU_CNT_DMA_POISON (n : Nat) : Nat := 0x3004000020 + n * 0x100000
def CLU_CNT_DMA_REF (n : Nat) : Nat := 0x3004000028 + n * 0x100000
def TSY_CTRL : Nat := 0x3000100000
def TSY_STATUS : Nat := 0x3000100004
def TSY_WDOG_GRACE : Nat := 0x3000100008
def TSY_HALT_HOLD : Nat := 0x300010000C
def TSY_SIGNAL : Nat := 0x3000100020
def TSY_EVENT_RAISE : Nat := 0x3000100024
def TSY_CANCEL : Nat := 0x3000100028
def TSY_RELEASE : Nat := 0x300010002C
def TSY_MSG : Nat := 0x3000100030
def TSY_QUERY : Nat := 0x3000100040
def TSY_QUERY_INFO : Nat := 0x3000100048
def TSY_CNT_SUBMIT : Nat := 0x3000100050
def TSY_CNT_DISPATCH : Nat := 0x3000100058
def TSY_CNT_COMPLETE : Nat := 0x3000100060
def TSY_CNT_STALE : Nat := 0x3000100068
def TSY_CNT_SURPLUS : Nat := 0x3000100070
def TSY_CNT_REFUSED : Nat := 0x3000100078
def TSY_CNT_RECOMP : Nat := 0x3000100080
def TSY_CNT_RCFAIL : Nat := 0x3000100088
def TSY_CNT_DLMISS : Nat := 0x3000100090
def TSY_CNT_TIMEOUT : Nat := 0x3000100098
def TSY_OCC : Nat := 0x30001000A0
def TSY_RETAINED : Nat := 0x30001000A4
def TSY_RCLOG_ITEM : Nat := 0x30001000B0
def TSY_RCLOG_ADDR : Nat := 0x30001000B8
def TSY_RCLOG_TIME : Nat := 0x30001000C0
def TSY_POOL_MASK (p : Nat) (w : Nat) : Nat := 0x3000100200 + p * 0x20 + w * 0x4
def TSY_POOL_CFG (p : Nat) : Nat := 0x3000100A00 + p * 0x4
def TSY_POOL_READY (p : Nat) : Nat := 0x3000100B00 + p * 0x4
def TSY_CORE_STATE (c : Nat) : Nat := 0x3000100C00 + c * 0x4
def TSY_CORE_CTL (c : Nat) : Nat := 0x3000101000 + c * 0x4
def TSY_CORE_MSG (c : Nat) : Nat := 0x3000101400 + c * 0x4
def TSY_EVENT_CNT (e : Nat) : Nat := 0x3000110000 + e * 0x4
def QMG_CTRL : Nat := 0x3000200000
def QMG_STATUS : Nat := 0x3000200004
def QMG_CRC_LOG : Nat := 0x3000200008
def QMG_CNT_RESERVE : Nat := 0x3000200010
def QMG_CNT_FULL : Nat := 0x3000200018
def QMG_CNT_STALE : Nat := 0x3000200020
def QMG_CNT_VOID : Nat := 0x3000200028
def QMG_CNT_DISCARD : Nat := 0x3000200030
def QMG_CNT_BADOP : Nat := 0x3000200038
def QMG_CNT_BPRESS : Nat := 0x3000200040
def QMG_CNT_CRC : Nat := 0x3000200048
def QMG_CNT_SIZE : Nat := 0x3000200050
def QMG_ACTIVE : Nat := 0x3000200060
def QMG_QBASE (q : Nat) : Nat := 0x30002C0000 + q * 0x10
def QMG_QCFG (q : Nat) : Nat := 0x30002C0008 + q * 0x10
def QMG_QBIND (q : Nat) : Nat := 0x30002C000C + q * 0x10
def QDB_STATE (q : Nat) : Nat := 0x4000000000 + q * 0x1000
def QDB_PUBLISH (q : Nat) : Nat := 0x4000000008 + q * 0x1000
def QDB_CONSUMED (q : Nat) : Nat := 0x400000000C + q * 0x1000
def QDB_OCC (q : Nat) : Nat := 0x4000000010 + q * 0x1000
def QDB_CNT_STALE (q : Nat) : Nat := 0x4000000018 + q * 0x1000
def QDB_CNT_FULL (q : Nat) : Nat := 0x4000000020 + q * 0x1000
def QDB_RESERVE (q : Nat) (g : Nat) : Nat := 0x4000000400 + q * 0x1000 + g * 0x8
def FFT_STATUS : Nat := 0x3000C00000
def MXE_STATUS : Nat := 0x3000D00000
def FFT_INST_CFG (j : Nat) : Nat := 0x3000C00100 + j * 0x4
def MXE_INST_CFG (j : Nat) : Nat := 0x3000D00100 + j * 0x4
def FFT_INST_STATE (j : Nat) : Nat := 0x3000C00200 + j * 0x4
def MXE_INST_STATE (j : Nat) : Nat := 0x3000D00200 + j * 0x4
def FFT_CNT_JOBS (j : Nat) : Nat := 0x3000C01000 + j * 0x20
def MXE_CNT_JOBS (j : Nat) : Nat := 0x3000D01000 + j * 0x20
def FFT_CNT_BAD (j : Nat) : Nat := 0x3000C01008 + j * 0x20
def MXE_CNT_BAD (j : Nat) : Nat := 0x3000D01008 + j * 0x20
def FFT_CNT_ERR (j : Nat) : Nat := 0x3000C01010 + j * 0x20
def MXE_CNT_ERR (j : Nat) : Nat := 0x3000D01010 + j * 0x20
def FFT_CNT_BUSY (j : Nat) : Nat := 0x3000C01018 + j * 0x20
def MXE_CNT_BUSY (j : Nat) : Nat := 0x3000D01018 + j * 0x20
def FEN_CTRL : Nat := 0x3000B00000
def FEN_STATUS : Nat := 0x3000B00004
def FEN_GL_UNFREEZE : Nat := 0x3000B00008
def FEN_BF_GRACE : Nat := 0x3000B0000C
def FEN_CNT_SAMPLES : Nat := 0x3000B00010
def FEN_CNT_CLIP : Nat := 0x3000B00018
def FEN_CNT_DET : Nat := 0x3000B00020
def FEN_CNT_REJ : Nat := 0x3000B00028
def FEN_CNT_SKIP : Nat := 0x3000B00030
def FEN_CNT_RESOVR : Nat := 0x3000B00038
def FEN_CNT_ACKBAD : Nat := 0x3000B00040
def FEN_CNT_SCAN : Nat := 0x3000B00048
def FEN_GL_PROF (p : Nat) : Nat := 0x3000B00100 + p * 0x4
def FEN_GL_CFG (s : Nat) : Nat := 0x3000B10000 + s * 0x4
def FEN_GL_STATE (s : Nat) : Nat := 0x3000B20000 + s * 0x4
def FEN_BF_CTL (b : Nat) (w : Nat) : Nat := 0x3000B30000 + b * 0x1000 + w * 0x40
def FEN_BF_WSTART (b : Nat) (w : Nat) : Nat := 0x3000B30004 + b * 0x1000 + w * 0x40
def FEN_BF_WPERIOD (b : Nat) (w : Nat) : Nat := 0x3000B30008 + b * 0x1000 + w * 0x40
def FEN_BF_WLEN (b : Nat) (w : Nat) : Nat := 0x3000B3000C + b * 0x1000 + w * 0x40
def FEN_BF_REGION (b : Nat) (w : Nat) : Nat := 0x3000B30010 + b * 0x1000 + w * 0x40
def FEN_BF_FREEZE (b : Nat) (w : Nat) : Nat := 0x3000B30014 + b * 0x1000 + w * 0x40
def FEN_BF_P0 (b : Nat) (w : Nat) : Nat := 0x3000B30018 + b * 0x1000 + w * 0x40
def FEN_BF_P1 (b : Nat) (w : Nat) : Nat := 0x3000B3001C + b * 0x1000 + w * 0x40
def FEN_BF_P2 (b : Nat) (w : Nat) : Nat := 0x3000B30020 + b * 0x1000 + w * 0x40
def FEN_BF_REF (b : Nat) (w : Nat) : Nat := 0x3000B30024 + b * 0x1000 + w * 0x40
def FEN_BF_NT (b : Nat) (w : Nat) : Nat := 0x3000B30028 + b * 0x1000 + w * 0x40
def FEN_BF_RES0 (b : Nat) (w : Nat) : Nat := 0x3000B30800 + b * 0x1000 + w * 0x20
def FEN_BF_RES_TIME (b : Nat) (w : Nat) : Nat := 0x3000B30808 + b * 0x1000 + w * 0x20
def FEN_BF_RES_PEAK (b : Nat) (w : Nat) : Nat := 0x3000B30810 + b * 0x1000 + w * 0x20
def FEN_BF_ACK (b : Nat) (w : Nat) : Nat := 0x3000B30818 + b * 0x1000 + w * 0x20
def LDD_STATUS : Nat := 0x3000E00000
def ENC_STATUS : Nat := 0x3000F00000
def TPD_STATUS : Nat := 0x3001000000
def LDD_INST_CFG (j : Nat) : Nat := 0x3000E00100 + j * 0x4
def ENC_INST_CFG (j : Nat) : Nat := 0x3000F00100 + j * 0x4
def TPD_INST_CFG (j : Nat) : Nat := 0x3001000100 + j * 0x4
def LDD_INST_STATE (j : Nat) : Nat := 0x3000E00200 + j * 0x4
def ENC_INST_STATE (j : Nat) : Nat := 0x3000F00200 + j * 0x4
def TPD_INST_STATE (j : Nat) : Nat := 0x3001000200 + j * 0x4
def LDD_CNT_JOBS (j : Nat) : Nat := 0x3000E01000 + j * 0x20
def ENC_CNT_JOBS (j : Nat) : Nat := 0x3000F01000 + j * 0x20
def TPD_CNT_JOBS (j : Nat) : Nat := 0x3001001000 + j * 0x20
def LDD_CNT_BAD (j : Nat) : Nat := 0x3000E01008 + j * 0x20
def ENC_CNT_BAD (j : Nat) : Nat := 0x3000F01008 + j * 0x20
def TPD_CNT_BAD (j : Nat) : Nat := 0x3001001008 + j * 0x20
def LDD_CNT_ERR (j : Nat) : Nat := 0x3000E01010 + j * 0x20
def ENC_CNT_ERR (j : Nat) : Nat := 0x3000F01010 + j * 0x20
def TPD_CNT_ERR (j : Nat) : Nat := 0x3001001010 + j * 0x20
def LDD_CNT_BUSY (j : Nat) : Nat := 0x3000E01018 + j * 0x20
def ENC_CNT_BUSY (j : Nat) : Nat := 0x3000F01018 + j * 0x20
def TPD_CNT_BUSY (j : Nat) : Nat := 0x3001001018 + j * 0x20
def LDD_CNT_DECFAIL (j : Nat) : Nat := 0x3000E02000 + j * 0x10
def ENC_CNT_DECFAIL (j : Nat) : Nat := 0x3000F02000 + j * 0x10
def TPD_CNT_DECFAIL (j : Nat) : Nat := 0x3001002000 + j * 0x10
def LDD_CNT_ITER (j : Nat) : Nat := 0x3000E02008 + j * 0x10
def ENC_CNT_ITER (j : Nat) : Nat := 0x3000F02008 + j * 0x10
def TPD_CNT_ITER (j : Nat) : Nat := 0x3001002008 + j * 0x10
def TXS_CTRL : Nat := 0x3000A00000
def TXS_STATUS : Nat := 0x3000A00004
def TXS_PAEN_DROP : Nat := 0x3000A00008
def TXS_PAEN_CLR : Nat := 0x3000A0000C
def TXS_PAEN_LEVEL : Nat := 0x3000A00010
def TXS_CNT_DROP : Nat := 0x3000A00018
def TXS_CNT_SAMPLES : Nat := 0x3000A00020
def TXS_CNT_MUTED : Nat := 0x3000A00028
def TXS_PAEN_CFG (n : Nat) : Nat := 0x3000A00100 + n * 0x8
def TXS_PAEN_TIM (n : Nat) : Nat := 0x3000A00104 + n * 0x8
def TXS_STR_CFG (s : Nat) : Nat := 0x3000A00400 + s * 0x4
def YRW_CTRL : Nat := 0x3000900000
def YRW_STATUS : Nat := 0x3000900004
def YRW_WIN_STAT : Nat := 0x3000900008
def YRW_SW_TRIG : Nat := 0x3000900010
def YRW_INJ_CFG : Nat := 0x3000900018
def YRW_INJ_AT : Nat := 0x3000900020
def YRW_INJ_GO : Nat := 0x3000900024
def YRW_CAL : Nat := 0x3000900028
def YRW_CAL_STATUS : Nat := 0x300090002C
def YRW_CNT_CONV : Nat := 0x3000900040
def YRW_CNT_OVR : Nat := 0x3000900048
def YRW_CNT_LATE : Nat := 0x3000900050
def YRW_CNT_WIN : Nat := 0x3000900058
def YRW_CNT_ACKBAD : Nat := 0x3000900060
def YRW_CNT_RESOVR : Nat := 0x3000900068
def YRW_CNT_INJREF : Nat := 0x3000900070
def YRW_WIN_LIM (c : Nat) : Nat := 0x3000900400 + c * 0x8
def YRW_WIN_DROP (c : Nat) : Nat := 0x3000900404 + c * 0x8
def YRW_CAL_CH (c : Nat) : Nat := 0x3000900600 + c * 0x4
def YRW_RES0 (r : Nat) : Nat := 0x3000902000 + r * 0x80
def YRW_RES_TIME (r : Nat) : Nat := 0x3000902008 + r * 0x80
def YRW_RES_Y (r : Nat) (w : Nat) : Nat := 0x3000902010 + r * 0x80 + w * 0x4
def YRW_RES_ACK (r : Nat) : Nat := 0x3000902050 + r * 0x80
def MACG_CTRL (g : Nat) : Nat := 0x3002000000 + g * 0x100000
def MACG_STATUS (g : Nat) : Nat := 0x3002000004 + g * 0x100000
def MACG_LANE (g : Nat) : Nat := 0x3002000008 + g * 0x100000
def MAC_CFG (g : Nat) (i : Nat) : Nat := 0x3002000010 + g * 0x100000 + i * 0x4
def MAC_LINK (g : Nat) (i : Nat) : Nat := 0x3002000040 + g * 0x100000 + i * 0x4
def MAC_DEFQ (g : Nat) (i : Nat) : Nat := 0x3002000050 + g * 0x100000 + i * 0x4
def MAC_WIN_TIM (g : Nat) (w : Nat) : Nat := 0x3002000200 + g * 0x100000 + w * 0x8
def MAC_WIN_CFG (g : Nat) (w : Nat) : Nat := 0x3002000204 + g * 0x100000 + w * 0x8
def MAC_BR_BASE (g : Nat) (r : Nat) : Nat := 0x3002000400 + g * 0x100000 + r * 0x20
def MAC_BR_CFG (g : Nat) (r : Nat) : Nat := 0x3002000408 + g * 0x100000 + r * 0x20
def MAC_BR_PROD (g : Nat) (r : Nat) : Nat := 0x300200040C + g * 0x100000 + r * 0x20
def MAC_BR_CONS (g : Nat) (r : Nat) : Nat := 0x3002000410 + g * 0x100000 + r * 0x20
def MAC_TXLATE (g : Nat) (i : Nat) : Nat := 0x3002000070 + g * 0x100000 + i * 0x4
def MAC_TXERR (g : Nat) (i : Nat) : Nat := 0x3002000080 + g * 0x100000 + i * 0x8
def MAC_PTP_DLY (g : Nat) (i : Nat) : Nat := 0x3002000060 + g * 0x100000 + i * 0x4
def MAC_TXTS (g : Nat) (i : Nat) : Nat := 0x30020000A0 + g * 0x100000 + i * 0x10
def MAC_TXTS_INFO (g : Nat) (i : Nat) : Nat := 0x30020000A8 + g * 0x100000 + i * 0x10
def MAC_TXTS_POP (g : Nat) (i : Nat) : Nat := 0x30020000AC + g * 0x100000 + i * 0x10
def MAC_SYNCE (n : Nat) : Nat := 0x30020C1000 + n * 0x4
def MAC_RX_FRAMES (g : Nat) (i : Nat) : Nat := 0x3002030000 + g * 0x100000 + i * 0x200
def MAC_RX_BYTES (g : Nat) (i : Nat) : Nat := 0x3002030008 + g * 0x100000 + i * 0x200
def MAC_RX_RUNT (g : Nat) (i : Nat) : Nat := 0x3002030010 + g * 0x100000 + i * 0x200
def MAC_RX_OVERSIZE (g : Nat) (i : Nat) : Nat := 0x3002030018 + g * 0x100000 + i * 0x200
def MAC_RX_FCS (g : Nat) (i : Nat) : Nat := 0x3002030020 + g * 0x100000 + i * 0x200
def MAC_RX_CTRL (g : Nat) (i : Nat) : Nat := 0x3002030028 + g * 0x100000 + i * 0x200
def MAC_RX_FIFO (g : Nat) (i : Nat) : Nat := 0x3002030030 + g * 0x100000 + i * 0x200
def MAC_RX_MISS (g : Nat) (i : Nat) : Nat := 0x3002030038 + g * 0x100000 + i * 0x200
def MAC_RX_BADQ (g : Nat) (i : Nat) : Nat := 0x3002030040 + g * 0x100000 + i * 0x200
def MAC_RX_WINDROP (g : Nat) (i : Nat) : Nat := 0x3002030048 + g * 0x100000 + i * 0x200
def MAC_RX_NOBUF (g : Nat) (i : Nat) : Nat := 0x3002030050 + g * 0x100000 + i * 0x200
def MAC_RX_INCOMPLETE (g : Nat) (i : Nat) : Nat := 0x3002030058 + g * 0x100000 + i * 0x200
def MAC_RX_BADHDR (g : Nat) (i : Nat) : Nat := 0x3002030060 + g * 0x100000 + i * 0x200
def MAC_RX_BADBUF (g : Nat) (i : Nat) : Nat := 0x3002030068 + g * 0x100000 + i * 0x200
def MAC_TX_FRAMES (g : Nat) (i : Nat) : Nat := 0x3002030070 + g * 0x100000 + i * 0x200
def MAC_TX_BYTES (g : Nat) (i : Nat) : Nat := 0x3002030078 + g * 0x100000 + i * 0x200
def MAC_TX_PAD (g : Nat) (i : Nat) : Nat := 0x3002030080 + g * 0x100000 + i * 0x200
def MAC_TX_DESCERR (g : Nat) (i : Nat) : Nat := 0x3002030088 + g * 0x100000 + i * 0x200
def MAC_TX_LATE (g : Nat) (i : Nat) : Nat := 0x3002030090 + g * 0x100000 + i * 0x200
def MAC_TX_TSOVF (g : Nat) (i : Nat) : Nat := 0x3002030098 + g * 0x100000 + i * 0x200
def MAC_FEC_CORR (g : Nat) (i : Nat) : Nat := 0x30020300A0 + g * 0x100000 + i * 0x200
def MAC_FEC_UNCORR (g : Nat) (i : Nat) : Nat := 0x30020300A8 + g * 0x100000 + i * 0x200
def MAC_LINK_DOWN (g : Nat) (i : Nat) : Nat := 0x30020300B0 + g * 0x100000 + i * 0x200
def MAC_WIN_ONTIME (g : Nat) (w : Nat) : Nat := 0x3002031000 + g * 0x100000 + w * 0x20
def MAC_WIN_EARLY (g : Nat) (w : Nat) : Nat := 0x3002031008 + g * 0x100000 + w * 0x20
def MAC_WIN_LATE (g : Nat) (w : Nat) : Nat := 0x3002031010 + g * 0x100000 + w * 0x20
def MAC_LISTEN_PORTS : Nat := 0x30020C0000
def MAC_LISTEN_CFG : Nat := 0x30020C0008
def MAC_WAKE_STATUS : Nat := 0x30020C000C
def MAC_WAKE_TIME : Nat := 0x30020C0010
def MAC_WAKE_FRAME (w : Nat) : Nat := 0x30020C0100 + w * 0x4
def MAC_WAKE_PAT (p : Nat) (w : Nat) : Nat := 0x30020C0400 + p * 0x100 + w * 0x4
def MAC_WAKE_MASK (p : Nat) (w : Nat) : Nat := 0x30020C0480 + p * 0x100 + w * 0x4
def FAB_CTRL : Nat := 0x3000300000
def FAB_STATUS : Nat := 0x3000300004
def FAB_TMO : Nat := 0x3000300008
def FAB_SEG_FAIL : Nat := 0x3000300010
def FAB_STOP_FAIL : Nat := 0x3000300018
def FAB_TOR_FAIL (w : Nat) : Nat := 0x3000300020 + w * 0x4
def FAB_RECONF : Nat := 0x3000300030
def FAB_LOG : Nat := 0x3000300038
def FAB_CNT_REPLAY : Nat := 0x3000300040
def FAB_CNT_HDRERR : Nat := 0x3000300048
def FAB_CNT_TMO_REQ : Nat := 0x3000300050
def FAB_CNT_TMO_PST : Nat := 0x3000300058
def FAB_CNT_TMO_CTL : Nat := 0x3000300060
def FAB_CNT_EXPIRED : Nat := 0x3000300068
def FAB_CNT_UNREACH : Nat := 0x3000300070
def FAB_CNT_TORUS : Nat := 0x3000300078
def FAB_CNT_EPOCH : Nat := 0x3000300080
def FAB_CNT_WAKEHOLD : Nat := 0x3000300088
def FAB_CNT_PDABORT : Nat := 0x3000300090
def FAB_CNT_CIRC : Nat := 0x3000300098
def MEM_CTRL : Nat := 0x3001300000
def MEM_STATUS : Nat := 0x3001300004
def MEM_LAST : Nat := 0x3001300008
def MEM_LAST_INFO : Nat := 0x3001300010
def MEM_LAST_TIME : Nat := 0x3001300018
def MEM_HARD_LAST : Nat := 0x3001300020
def MEM_PEND : Nat := 0x3001300028
def MEM_CNT_ERR : Nat := 0x3001300040
def MEM_CNT_REFETCH : Nat := 0x3001300048
def MEM_CNT_RECOMP : Nat := 0x3001300050
def MEM_CNT_POISON : Nat := 0x3001300058
def MEM_CNT_POISONREAD : Nat := 0x3001300060
def MEM_CNT_INFLIGHT : Nat := 0x3001300068
def MEM_CNT_PENDFULL : Nat := 0x3001300070
def MEM_CNT_UNWRITTEN : Nat := 0x3001300078
def MEM_CNT_HARD : Nat := 0x3001300080
def MEM_CNT_TEST : Nat := 0x3001300088
def MEM_RFW_DST (w : Nat) : Nat := 0x3001301000 + w * 0x20
def MEM_RFW_SRC (w : Nat) : Nat := 0x3001301008 + w * 0x20
def MEM_RFW_LEN (w : Nat) : Nat := 0x3001301010 + w * 0x20
def MEM_RFW_CFG (w : Nat) : Nat := 0x3001301014 + w * 0x20
def MEM_TEST_CTRL : Nat := 0x3001302000
def MEM_TEST_BASE : Nat := 0x3001302008
def MEM_TEST_LEN : Nat := 0x3001302010
def MEM_TEST_ADDR : Nat := 0x3001302018
def MEM_TEST_OP : Nat := 0x3001302020
def MEM_TEST_STAT : Nat := 0x3001302024
def MEM_TEST_CHK : Nat := 0x3001302028
def MEM_TEST_DATA (w : Nat) : Nat := 0x3001302040 + w * 0x4
def TSL_CTRL : Nat := 0x3000700000
def TSL_GO : Nat := 0x3000700004
def TSL_START : Nat := 0x3000700008
def TSL_END : Nat := 0x3000700010
def TSL_SUMADDR : Nat := 0x3000700018
def TSL_STATUS : Nat := 0x3000700020
def TSL_POS : Nat := 0x3000700028
def TSL_CNT_PASSES : Nat := 0x3000700030
def HBM_ID (c : Nat) : Nat := 0x3001200000 + c * 0x1000
def HBM_STATUS (c : Nat) : Nat := 0x3001200004 + c * 0x1000
def HBM_TEMP (c : Nat) : Nat := 0x3001200008 + c * 0x1000
def HBM_CNT_RD (c : Nat) : Nat := 0x3001200010 + c * 0x1000
def HBM_CNT_WR (c : Nat) : Nat := 0x3001200018 + c * 0x1000
def HBM_CNT_CORR (c : Nat) : Nat := 0x3001200020 + c * 0x1000
def HBM_CNT_UNCORR (c : Nat) : Nat := 0x3001200028 + c * 0x1000
def HBM_CNT_LINEERR (c : Nat) : Nat := 0x3001200030 + c * 0x1000
def HBM_CNT_PARTIAL (c : Nat) : Nat := 0x3001200038 + c * 0x1000
def HBM_SPARE (c : Nat) : Nat := 0x3001200040 + c * 0x1000
def HLK_ID0 : Nat := 0x3001100000
def HLK_ID1 : Nat := 0x3001100004
def HLK_ID2 : Nat := 0x3001100008
def HLK_CTRL : Nat := 0x3001100010
def HLK_STATUS : Nat := 0x3001100014
def HLK_MOD (m : Nat) : Nat := 0x3001100018 + m * 0x4
def HLK_DIR_OCC : Nat := 0x3001100020
def HLK_COH_BASE (r : Nat) : Nat := 0x3001100100 + r * 0x10
def HLK_COH_LEN (r : Nat) : Nat := 0x3001100108 + r * 0x10
def HLK_COH_CFG (r : Nat) : Nat := 0x300110010C + r * 0x10
def HLK_VEC_PEND : Nat := 0x3001100200
def HLK_VEC_EN : Nat := 0x3001100208
def HLK_VEC_RAISE : Nat := 0x3001100210
def HLK_VEC_TGT (v : Nat) : Nat := 0x3001100300 + v * 0x4
def HLK_SRC_VEC (i : Nat) : Nat := 0x3001100400 + i * 0x4
def HLK_CNT_RETRY : Nat := 0x3001100800
def HLK_CNT_BADPKT : Nat := 0x3001100808
def HLK_CNT_TMO : Nat := 0x3001100810
def HLK_CNT_SNP : Nat := 0x3001100818
def HLK_CNT_SNPTMO : Nat := 0x3001100820
def HLK_CNT_LATE : Nat := 0x3001100828
def HLK_CNT_DIREVICT : Nat := 0x3001100830
def HLK_CNT_WBSTRAY : Nat := 0x3001100838
def HLK_CNT_HOSTLOST : Nat := 0x3001100840
def HLK_CNT_RAISE : Nat := 0x3001100848
def HLK_CNT_INT : Nat := 0x3001100850
def PWR_CTRL : Nat := 0x3000400000
def PWR_STATUS : Nat := 0x3000400004
def PWR_LISTEN : Nat := 0x3000400008
def PWR_VIN : Nat := 0x3000400010
def PWR_ENV : Nat := 0x3000400014
def PWR_DOM_CTL (p : Nat) : Nat := 0x3000400100 + p * 0x4
def PWR_DOM_STATE (p : Nat) : Nat := 0x3000400200 + p * 0x4
def PWR_CLU_FREQ (n : Nat) : Nat := 0x3000400300 + n * 0x4
def PWR_CNT_WAKE : Nat := 0x3000400400
def PWR_CNT_WAKEPKT : Nat := 0x3000400408
def PWR_CNT_OFF : Nat := 0x3000400410
def PWR_CNT_THROT : Nat := 0x3000400418
def PWR_CNT_THROT_US : Nat := 0x3000400420
def MON_CTRL : Nat := 0x3000500000
def MON_CTRL2 : Nat := 0x3000500004
def MON_STATUS : Nat := 0x3000500008
def MON_ALERT : Nat := 0x300050000C
def MON_REPLACE : Nat := 0x3000500010
def MON_REASON_LAST : Nat := 0x3000500018
def MON_FAULT : Nat := 0x3000500020
def MON_SPARE : Nat := 0x3000500024
def MON_CORE_OUT (w : Nat) : Nat := 0x3000500040 + w * 0x4
def MON_CNT_DROOP : Nat := 0x3000500100
def MON_CNT_WARN : Nat := 0x3000500108
def MON_CNT_FAULT : Nat := 0x3000500110
def MON_RES0 : Nat := 0x3000501000
def MON_RES_TIME : Nat := 0x3000501008
def MON_RES_ACK : Nat := 0x3000501018
def MON_RES_TEMP (t : Nat) : Nat := 0x3000501100 + t * 0x4
def MON_RES_VOLT (v : Nat) : Nat := 0x3000501200 + v * 0x4
def MON_RES_PROC (p : Nat) : Nat := 0x3000501300 + p * 0x4
def SRL_CTRL : Nat := 0x3000600000
def SRL_STATUS : Nat := 0x3000600004
def SRL_BOOT : Nat := 0x3000600008
def SRL_RUN : Nat := 0x300060000C
def SRL_CMD : Nat := 0x3000600010
def SRL_SRC : Nat := 0x3000600018
def SRL_LEN : Nat := 0x3000600020
def SRL_CFG_SEQ : Nat := 0x3000600028
def SRL_FW_SEQ : Nat := 0x3000600030
def SRL_LOG_HEAD : Nat := 0x3000600038
def SRL_KEYS : Nat := 0x300060003C
def SRL_CNT_PERSIST : Nat := 0x3000600040
def SRL_CNT_LOG : Nat := 0x3000600048
def SRL_RMAP : Nat := 0x3000600050
def CPN_CTRL : Nat := 0x3000800000
def CPN_STATUS : Nat := 0x3000800004
def CPN_FREEZE : Nat := 0x3000800008
def CPN_DBG_CTL (c : Nat) : Nat := 0x3000810000 + c * 0x40
def CPN_DBG_STAT (c : Nat) : Nat := 0x3000810004 + c * 0x40
def CPN_BP (c : Nat) (i : Nat) : Nat := 0x3000810010 + c * 0x40 + i * 0x4
def CPN_WP_ADDR (c : Nat) (i : Nat) : Nat := 0x3000810020 + c * 0x40 + i * 0x10
def CPN_WP_MASK (c : Nat) (i : Nat) : Nat := 0x3000810024 + c * 0x40 + i * 0x10
def CPN_WP_CFG (c : Nat) (i : Nat) : Nat := 0x3000810028 + c * 0x40 + i * 0x10
def TXS_BANK (b : Nat) (w : Nat) : Nat := 0x3000A10000 + b * 0x4000 + w * 0x4
def YRW_BANK (b : Nat) (w : Nat) : Nat := 0x3000901000 + b * 0x400 + w * 0x4
def MAC_FLOW (g : Nat) (b : Nat) (w : Nat) : Nat := 0x3002010000 + g * 0x100000 + b * 0x10000 + w * 0x4

end Sys2Proof.Reg
end

