-- ==== Sys2Proof/Machine/Store.lean ====
section
/-! DEFINITION. Reading and writing a sparse map in its one canonical form: keys strictly rising, and no entry
equal to the default, so that equal contents are equal data. Memory, registers and every table use it. -/

namespace Sys2Proof.Machine

/-- The value at key `k`; `dflt` is what an unlisted key reads as. -/
def mget {α : Type} (dflt : α) : Map α → Nat → α
  | [], _ => dflt
  | (j, v) :: m, k => if j = k then v else mget dflt m k

/-- The map with key `k` set to `v`; writing the default removes the entry. On a map in any other form it still sets what
`k` reads as, and nothing else. -/
def mput {α : Type} [DecidableEq α] (dflt : α) : Map α → Nat → α → Map α
  | [], k, v => if v = dflt then [] else [(k, v)]
  | (j, w) :: m, k, v =>
    if v = dflt then (if j = k then mput dflt m k v else (j, w) :: mput dflt m k v)
    else if k < j then (k, v) :: (j, w) :: m
    else if j = k then (k, v) :: m
    else (j, w) :: mput dflt m k v

/-- The map with the value at `k` changed by `f`. -/
def mmod {α : Type} [DecidableEq α] (dflt : α) (m : Map α) (k : Nat) (f : α → α) : Map α :=
  mput dflt m k (f (mget dflt m k))

/-- Keys strictly rising, all above `lo`. -/
def rising {α : Type} : Option Nat → Map α → Bool
  | _, [] => true
  | lo, (k, _) :: m => (match lo with | none => true | some b => decide (b < k)) && rising (some k) m

/-- The canonical form: strictly rising keys and no entry equal to the default. -/
def mwf {α : Type} [DecidableEq α] (dflt : α) (m : Map α) : Bool :=
  rising none m && m.all (fun e => decide (e.2 ≠ dflt))

end Sys2Proof.Machine
end

