-- ==== Sys2Proof/Machine/Bits.lean ====
section
/-! DEFINITION. Bit fields, sign extension, saturation and little-endian byte helpers (R16, R17), on plain numbers. -/

namespace Sys2Proof.Machine

/-- Bits [hi:lo] of a number (R16). -/
def bits (x hi lo : Nat) : Nat := x / 2 ^ lo % 2 ^ (hi + 1 - lo)

/-- Bit `i` of a number. -/
def bit (x i : Nat) : Bool := x.testBit i

/-- `x` with bits [hi:lo] replaced by the low bits of `v`. -/
def setBits (x hi lo v : Nat) : Nat :=
  x % 2 ^ lo + v % 2 ^ (hi + 1 - lo) * 2 ^ lo + x / 2 ^ (hi + 1) * 2 ^ (hi + 1)

/-- 1 for true, 0 for false. -/
def b2n (b : Bool) : Nat := if b then 1 else 0

/-- The signed value of an `n`-bit two's-complement number (R17). -/
def sx (n x : Nat) : Int :=
  let y := x % 2 ^ n
  if y < 2 ^ (n - 1) then (y : Int) else (y : Int) - (2 ^ n : Nat)

/-- The `n`-bit two's-complement pattern of an integer (R17). -/
def pat (n : Nat) (i : Int) : Nat := (i % (2 ^ n : Nat)).toNat

/-- An integer saturated to `n` bits, signed. -/
def sat (n : Nat) (i : Int) : Int :=
  let hi : Int := (2 ^ (n - 1) : Nat) - 1
  let lo : Int := - (2 ^ (n - 1) : Nat)
  if i > hi then hi else if i < lo then lo else i

/-- The word of a number, modulo 2^32. -/
def word (n : Nat) : Word := BitVec.ofNat 32 n

/-- Ceiling of a / b for b > 0. -/
def ceilDiv (a b : Nat) : Nat := (a + b - 1) / b

/-- The list 0, 1, …, n − 1. -/
def upTo (n : Nat) : List Nat := List.range n

/-- `n` bytes of a number, the lowest first (R16). -/
def toBytes (n x : Nat) : List Byte := (List.range n).map (fun i => BitVec.ofNat 8 (x / 2 ^ (8 * i)))

/-- The number that bytes spell, the lowest first (R16). -/
def ofBytes : List Byte → Nat
  | [] => 0
  | b :: bs => b.toNat + 256 * ofBytes bs

/-- Consecutive chunks of `n` elements; a shorter last chunk is kept. -/
def chunks {α : Type} (n : Nat) (l : List α) : List (List α) :=
  (List.range ((l.length + n - 1) / n)).map (fun i => (l.drop (i * n)).take n)

/-- The element at `i`, or the default. -/
def at0 {α : Type} (dflt : α) (l : List α) (i : Nat) : α := l.getD i dflt

/-- Round half away from zero at bit `s` then drop it: the value x / 2^s rounded to nearest, ties upwards. -/
def rshRound (x : Int) (s : Nat) : Int :=
  if s = 0 then x else (x + (2 ^ (s - 1) : Nat)) / (2 ^ s : Nat)

/-- The CRC of a bit list (first bit first) with generator `poly` of degree `n`, initial value `init`. -/
def crcBits (n poly : Nat) (init : Nat) : List Bool → Nat
  | [] => init
  | b :: bs =>
    let f := xor b (init.testBit (n - 1))
    let s := init * 2 % 2 ^ n
    crcBits n poly (if f then s ^^^ poly else s) bs

/-- The bits of a byte, bit 7 first. -/
def msbFirst (b : Byte) : List Bool := (List.range 8).map (fun i => b.toNat.testBit (7 - i))

/-- The bits of a byte, bit 0 first. -/
def lsbFirst (b : Byte) : List Bool := (List.range 8).map (fun i => b.toNat.testBit i)

/-- Insert into a list at the right place by key, after equal keys. -/
def insertBy {α : Type} (key : α → Nat) (x : α) : List α → List α
  | [] => [x]
  | y :: ys => if key x < key y then x :: y :: ys else y :: insertBy key x ys

/-- The list with its first element that satisfies `p` removed. -/
def eraseFirst {α : Type} (p : α → Bool) : List α → List α
  | [] => []
  | x :: xs => if p x then xs else x :: eraseFirst p xs

end Sys2Proof.Machine
end

