-- ==== Sys2Proof/Machine/RegTypes.lean ====
section
/-! DEFINITION. How a control register is described: access codes (R20), fields, and a register row with the
repetitions of its address (R18, R19). The rows themselves stand in RegTable.lean. -/

namespace Sys2Proof.Machine

/-- The access codes of R20. -/
inductive Acc where
  | rw | ro | wo | w1c | w1s | rc | stg | rsv
  deriving DecidableEq, Repr

/-- One field: bits [hi:lo] of its register, access, value after PORST_N, and whether it is restored (`ret`). -/
structure Fld where
  hi : Nat
  lo : Nat
  acc : Acc
  rst : Nat
  ret : Bool
  deriving DecidableEq, Repr

/-- One register row: first die address, repetitions (count, stride) with the largest stride first, size in bytes,
whether its RO and RC fields are snapshot-capable (R58), and its fields. -/
structure RegRow where
  name : String
  base : Nat
  reps : List (Nat × Nat)
  size : Nat
  snap : Bool
  flds : List Fld
  deriving DecidableEq, Repr

/-- Strip the repetitions from an offset; `none` when an index is out of its range. -/
def stripReps : List (Nat × Nat) → Nat → Option Nat
  | [], off => some off
  | (count, stride) :: rs, off =>
    let i := off / stride
    if i < count then stripReps rs (off % stride) else stripReps rs (off - (count - 1) * stride)

/-- The byte offset of `a` inside this register (0 or 4 for a word of it), if it lies on it. -/
def RegRow.hit (r : RegRow) (a : Nat) : Option Nat :=
  if a < r.base then none
  else match stripReps r.reps (a - r.base) with
    | some o => if o < r.size then some o else none
    | none => none

/-- The mask, within the word at byte offset `o` of a register, of the fields whose access satisfies `p`. -/
def maskOf (p : Fld → Bool) (flds : List Fld) (o : Nat) : Nat :=
  let full := flds.foldl (fun acc f =>
    if p f then acc ||| ((2 ^ (f.hi + 1 - f.lo) - 1) * 2 ^ f.lo) else acc) 0
  full / 2 ^ (8 * o) % 2 ^ 32

/-- The Reset column's value of the word at byte offset `o` of a register. -/
def resetOf (flds : List Fld) (o : Nat) : Nat :=
  let full := flds.foldl (fun acc f => acc ||| (f.rst * 2 ^ f.lo)) 0
  full / 2 ^ (8 * o) % 2 ^ 32

end Sys2Proof.Machine
end

