-- ==== Sys2Proof/Machine/RegTable.lean ====
section
/-! DEFINITION. The register tables of spec/ as data: one row per register (its first address, the repetitions of
that address, its size in bytes, whether its fields are snapshot-capable, and its fields with access code and
Reset value), written from the tables of the files 02 to 18 (R18 to R22 give what the codes mean). -/

namespace Sys2Proof.Machine

def rowsAIR0 : List RegRow := [
  ⟨"AIR_NOW", 0x3000000000, [], 8, true,
    [⟨63, 0, .ro, 0, false⟩]⟩,
  ⟨"AIR_VIEW_CFG", 0x3000000008, [], 4, true,
    [⟨1, 0, .rw, 0x1, false⟩, ⟨2, 2, .rw, 0, false⟩, ⟨31, 3, .rsv, 0, false⟩]⟩,
  ⟨"AIR_VIEW", 0x3000000010, [], 8, true,
    [⟨3, 0, .ro, 0, false⟩, ⟨6, 4, .ro, 0, false⟩, ⟨10, 7, .ro, 0, false⟩, ⟨20, 11, .ro, 0, false⟩, ⟨30, 21, .ro, 0, false⟩, ⟨49, 32, .ro, 0, false⟩, ⟨63, 50, .rsv, 0, false⟩, ⟨31, 31, .rsv, 0, false⟩]⟩,
  ⟨"AIR_EPOCH", 0x3000000018, [], 8, true,
    [⟨63, 0, .rw, 0x12D53D93, true⟩]⟩,
  ⟨"AIR_CTRL", 0x3000000020, [], 4, true,
    [⟨1, 0, .rw, 0, true⟩, ⟨7, 2, .rw, 0, true⟩, ⟨8, 8, .rw, 0, true⟩, ⟨9, 9, .rw, 0, true⟩, ⟨10, 10, .rw, 0, false⟩, ⟨11, 11, .rw, 0, true⟩, ⟨31, 12, .rsv, 0, false⟩]⟩,
  ⟨"AIR_STATUS", 0x3000000024, [], 4, true,
    [⟨1, 0, .ro, 0, false⟩, ⟨2, 2, .w1c, 0, false⟩, ⟨3, 3, .w1c, 0, false⟩, ⟨4, 4, .ro, 0, false⟩, ⟨31, 5, .rsv, 0, false⟩]⟩,
  ⟨"AIR_FREQ_ADJ", 0x3000000028, [], 4, true,
    [⟨31, 0, .rw, 0, false⟩]⟩,
  ⟨"AIR_PHASE_ADJ", 0x300000002C, [], 4, true,
    [⟨31, 0, .rw, 0, false⟩]⟩,
  ⟨"AIR_STEP", 0x3000000030, [], 8, true,
    [⟨63, 0, .wo, 0, false⟩]⟩,
  ⟨"AIR_PPS_TS", 0x3000000038, [], 8, true,
    [⟨63, 0, .ro, 0, false⟩]⟩,
  ⟨"AIR_COMMIT_GRID", 0x3000000040, [], 4, true,
    [⟨1, 0, .rw, 0, true⟩, ⟨31, 2, .rsv, 0, false⟩]⟩,
  ⟨"AIR_COMMIT_REQ", 0x3000000044, [], 4, true,
    [⟨1, 0, .wo, 0, false⟩, ⟨2, 2, .wo, 0, false⟩, ⟨3, 3, .wo, 0, false⟩, ⟨4, 4, .wo, 0, false⟩, ⟨8, 8, .wo, 0, false⟩, ⟨31, 9, .rsv, 0, false⟩, ⟨7, 5, .rsv, 0, false⟩]⟩,
  ⟨"AIR_COMMIT_TARGET", 0x3000000048, [], 8, true,
    [⟨63, 0, .rw, 0, false⟩]⟩,
  ⟨"AIR_COMMIT_AT", 0x3000000050, [], 8, true,
    [⟨63, 0, .ro, 0, false⟩]⟩]

def rowsAIR1 : List RegRow := [
  ⟨"AIR_COMMIT_STATUS", 0x3000000058, [], 4, true,
    [⟨1, 0, .ro, 0, false⟩, ⟨2, 2, .ro, 0, false⟩, ⟨3, 3, .w1c, 0, false⟩, ⟨7, 4, .ro, 0, false⟩, ⟨13, 8, .ro, 0, false⟩, ⟨15, 14, .rsv, 0, false⟩, ⟨31, 16, .ro, 0, false⟩]⟩,
  ⟨"AIR_SNAP_REQ", 0x300000005C, [], 4, true,
    [⟨1, 0, .wo, 0, false⟩, ⟨4, 4, .wo, 0, false⟩, ⟨31, 5, .rsv, 0, false⟩, ⟨3, 2, .rsv, 0, false⟩]⟩,
  ⟨"AIR_SNAP_TARGET", 0x3000000060, [], 8, true,
    [⟨63, 0, .rw, 0, false⟩]⟩,
  ⟨"AIR_SNAP_AT", 0x3000000068, [], 8, true,
    [⟨63, 0, .ro, 0, false⟩]⟩,
  ⟨"AIR_SNAP_STATUS", 0x3000000070, [], 4, true,
    [⟨1, 0, .ro, 0, false⟩, ⟨7, 4, .ro, 0, false⟩, ⟨15, 8, .rsv, 0, false⟩, ⟨3, 2, .rsv, 0, false⟩, ⟨31, 16, .ro, 0, false⟩]⟩,
  ⟨"AIR_PPS_ERR", 0x3000000078, [], 4, true,
    [⟨31, 0, .ro, 0, false⟩]⟩,
  ⟨"AIR_TOUT_CTRL", 0x3000000100, [(8, 0x10)], 4, true,
    [⟨0, 0, .stg, 0, true⟩, ⟨31, 1, .rsv, 0, false⟩]⟩,
  ⟨"AIR_TOUT_PERIOD", 0x3000000104, [(8, 0x10)], 4, true,
    [⟨31, 0, .stg, 0, true⟩]⟩,
  ⟨"AIR_TOUT_OFFSET", 0x3000000108, [(8, 0x10)], 4, true,
    [⟨31, 0, .stg, 0, true⟩]⟩,
  ⟨"AIR_TOUT_WIDTH", 0x300000010C, [(8, 0x10)], 4, true,
    [⟨31, 0, .stg, 0, true⟩]⟩,
  ⟨"AIR_PPSO_CFG", 0x3000000180, [], 4, true,
    [⟨0, 0, .stg, 0x1, true⟩, ⟨7, 1, .stg, 0x64, true⟩, ⟨31, 8, .stg, 0, true⟩]⟩]

def rowsAIR : List RegRow := rowsAIR0 ++ rowsAIR1

def rowsTSY0 : List RegRow := [
  ⟨"TSY_CTRL", 0x3000100000, [], 4, true,
    [⟨0, 0, .rw, 0, true⟩, ⟨3, 1, .rsv, 0, false⟩, ⟨7, 4, .rw, 0xF, true⟩, ⟨9, 8, .rw, 0x2, true⟩, ⟨10, 10, .rw, 0, true⟩, ⟨31, 11, .rsv, 0, false⟩]⟩,
  ⟨"TSY_STATUS", 0x3000100004, [], 4, true,
    [⟨0, 0, .ro, 0, false⟩, ⟨1, 1, .w1c, 0, false⟩, ⟨2, 2, .w1c, 0, false⟩, ⟨3, 3, .w1c, 0, false⟩, ⟨4, 4, .w1c, 0, false⟩, ⟨7, 5, .rsv, 0, false⟩, ⟨15, 8, .ro, 0, false⟩, ⟨31, 16, .rsv, 0, false⟩]⟩,
  ⟨"TSY_WDOG_GRACE", 0x3000100008, [], 4, true,
    [⟨23, 0, .rw, 0x12C, true⟩, ⟨31, 24, .rsv, 0, false⟩]⟩,
  ⟨"TSY_HALT_HOLD", 0x300010000C, [], 4, true,
    [⟨31, 0, .rw, 0x7800, true⟩]⟩,
  ⟨"TSY_SIGNAL", 0x3000100020, [], 4, true,
    [⟨23, 0, .wo, 0, false⟩, ⟨31, 24, .wo, 0, false⟩]⟩,
  ⟨"TSY_EVENT_RAISE", 0x3000100024, [], 4, true,
    [⟨11, 0, .wo, 0, false⟩, ⟨15, 12, .rsv, 0, false⟩, ⟨31, 16, .wo, 0, false⟩]⟩,
  ⟨"TSY_CANCEL", 0x3000100028, [], 4, true,
    [⟨23, 0, .wo, 0, false⟩, ⟨31, 24, .rsv, 0, false⟩]⟩,
  ⟨"TSY_RELEASE", 0x300010002C, [], 4, true,
    [⟨23, 0, .wo, 0, false⟩, ⟨31, 24, .rsv, 0, false⟩]⟩,
  ⟨"TSY_MSG", 0x3000100030, [], 8, true,
    [⟨23, 0, .wo, 0, false⟩, ⟨31, 24, .rsv, 0, false⟩, ⟨63, 32, .wo, 0, false⟩]⟩,
  ⟨"TSY_QUERY", 0x3000100040, [], 4, false,
    [⟨16, 0, .rw, 0, false⟩, ⟨31, 17, .rsv, 0, false⟩]⟩,
  ⟨"TSY_QUERY_INFO", 0x3000100048, [], 8, false,
    [⟨3, 0, .ro, 0, false⟩, ⟨7, 4, .ro, 0, false⟩, ⟨23, 8, .ro, 0, false⟩, ⟨31, 24, .ro, 0, false⟩, ⟨35, 32, .ro, 0, false⟩, ⟨37, 36, .ro, 0, false⟩, ⟨63, 38, .rsv, 0, false⟩]⟩,
  ⟨"TSY_CNT_SUBMIT", 0x3000100050, [], 8, true,
    [⟨63, 0, .rc, 0, false⟩]⟩,
  ⟨"TSY_CNT_DISPATCH", 0x3000100058, [], 8, true,
    [⟨63, 0, .rc, 0, false⟩]⟩,
  ⟨"TSY_CNT_COMPLETE", 0x3000100060, [], 8, true,
    [⟨63, 0, .rc, 0, false⟩]⟩]

def rowsTSY1 : List RegRow := [
  ⟨"TSY_CNT_STALE", 0x3000100068, [], 8, true,
    [⟨63, 0, .rc, 0, false⟩]⟩,
  ⟨"TSY_CNT_SURPLUS", 0x3000100070, [], 8, true,
    [⟨63, 0, .rc, 0, false⟩]⟩,
  ⟨"TSY_CNT_REFUSED", 0x3000100078, [], 8, true,
    [⟨63, 0, .rc, 0, false⟩]⟩,
  ⟨"TSY_CNT_RECOMP", 0x3000100080, [], 8, true,
    [⟨63, 0, .rc, 0, false⟩]⟩,
  ⟨"TSY_CNT_RCFAIL", 0x3000100088, [], 8, true,
    [⟨63, 0, .rc, 0, false⟩]⟩,
  ⟨"TSY_CNT_DLMISS", 0x3000100090, [], 8, true,
    [⟨63, 0, .rc, 0, false⟩]⟩,
  ⟨"TSY_CNT_TIMEOUT", 0x3000100098, [], 8, true,
    [⟨63, 0, .rc, 0, false⟩]⟩,
  ⟨"TSY_OCC", 0x30001000A0, [], 4, true,
    [⟨17, 0, .ro, 0, false⟩, ⟨31, 18, .rsv, 0, false⟩]⟩,
  ⟨"TSY_RETAINED", 0x30001000A4, [], 4, true,
    [⟨17, 0, .ro, 0, false⟩, ⟨31, 18, .rsv, 0, false⟩]⟩,
  ⟨"TSY_RCLOG_ITEM", 0x30001000B0, [], 4, true,
    [⟨23, 0, .ro, 0, false⟩, ⟨31, 24, .rsv, 0, false⟩]⟩,
  ⟨"TSY_RCLOG_ADDR", 0x30001000B8, [], 8, true,
    [⟨47, 0, .ro, 0, false⟩, ⟨63, 48, .rsv, 0, false⟩]⟩,
  ⟨"TSY_RCLOG_TIME", 0x30001000C0, [], 8, true,
    [⟨63, 0, .ro, 0, false⟩]⟩,
  ⟨"TSY_POOL_MASK", 0x3000100200, [(64, 0x20), (8, 0x4)], 4, true,
    [⟨31, 0, .stg, 0, true⟩]⟩,
  ⟨"TSY_POOL_CFG", 0x3000100A00, [(64, 0x4)], 4, true,
    [⟨0, 0, .stg, 0, true⟩, ⟨31, 1, .rsv, 0, false⟩]⟩]

def rowsTSY2 : List RegRow := [
  ⟨"TSY_POOL_READY", 0x3000100B00, [(64, 0x4)], 4, true,
    [⟨17, 0, .ro, 0, false⟩, ⟨31, 18, .rsv, 0, false⟩]⟩,
  ⟨"TSY_CORE_STATE", 0x3000100C00, [(256, 0x4)], 4, true,
    [⟨2, 0, .ro, 0, false⟩, ⟨3, 3, .rsv, 0, false⟩, ⟨27, 4, .ro, 0, false⟩, ⟨31, 28, .rsv, 0, false⟩]⟩,
  ⟨"TSY_CORE_CTL", 0x3000101000, [(256, 0x4)], 4, true,
    [⟨0, 0, .rw, 0, false⟩, ⟨1, 1, .wo, 0, false⟩, ⟨31, 2, .rsv, 0, false⟩]⟩,
  ⟨"TSY_CORE_MSG", 0x3000101400, [(256, 0x4)], 4, false,
    [⟨31, 0, .ro, 0, false⟩]⟩,
  ⟨"TSY_EVENT_CNT", 0x3000110000, [(4096, 0x4)], 4, true,
    [⟨15, 0, .rw, 0, false⟩, ⟨31, 16, .rsv, 0, false⟩]⟩]

def rowsTSY : List RegRow := rowsTSY0 ++ rowsTSY1 ++ rowsTSY2

def rowsQMG0 : List RegRow := [
  ⟨"QMG_CTRL", 0x3000200000, [], 4, true,
    [⟨15, 0, .rw, 0x64, true⟩, ⟨31, 16, .rsv, 0, false⟩]⟩,
  ⟨"QMG_STATUS", 0x3000200004, [], 4, true,
    [⟨0, 0, .w1c, 0, false⟩, ⟨1, 1, .w1c, 0, false⟩, ⟨2, 2, .w1c, 0, false⟩, ⟨7, 3, .rsv, 0, false⟩, ⟨15, 8, .ro, 0, false⟩, ⟨29, 16, .ro, 0, false⟩, ⟨31, 30, .rsv, 0, false⟩]⟩,
  ⟨"QMG_CRC_LOG", 0x3000200008, [], 8, true,
    [⟨19, 0, .ro, 0, false⟩, ⟨31, 20, .rsv, 0, false⟩, ⟨47, 32, .ro, 0, false⟩, ⟨63, 48, .rsv, 0, false⟩]⟩,
  ⟨"QMG_CNT_RESERVE", 0x3000200010, [], 8, true,
    [⟨63, 0, .rc, 0, false⟩]⟩,
  ⟨"QMG_CNT_FULL", 0x3000200018, [], 8, true,
    [⟨63, 0, .rc, 0, false⟩]⟩,
  ⟨"QMG_CNT_STALE", 0x3000200020, [], 8, true,
    [⟨63, 0, .rc, 0, false⟩]⟩,
  ⟨"QMG_CNT_VOID", 0x3000200028, [], 8, true,
    [⟨63, 0, .rc, 0, false⟩]⟩,
  ⟨"QMG_CNT_DISCARD", 0x3000200030, [], 8, true,
    [⟨63, 0, .rc, 0, false⟩]⟩,
  ⟨"QMG_CNT_BADOP", 0x3000200038, [], 8, true,
    [⟨63, 0, .rc, 0, false⟩]⟩,
  ⟨"QMG_CNT_BPRESS", 0x3000200040, [], 8, true,
    [⟨63, 0, .rc, 0, false⟩]⟩,
  ⟨"QMG_CNT_CRC", 0x3000200048, [], 8, true,
    [⟨63, 0, .rc, 0, false⟩]⟩,
  ⟨"QMG_CNT_SIZE", 0x3000200050, [], 8, true,
    [⟨63, 0, .rc, 0, false⟩]⟩,
  ⟨"QMG_ACTIVE", 0x3000200060, [], 4, true,
    [⟨14, 0, .ro, 0, false⟩, ⟨31, 15, .rsv, 0, false⟩]⟩,
  ⟨"QMG_QBASE", 0x30002C0000, [(16384, 0x10)], 8, false,
    [⟨5, 0, .rsv, 0, false⟩, ⟨47, 6, .rw, 0, true⟩, ⟨63, 48, .rsv, 0, false⟩]⟩]

def rowsQMG1 : List RegRow := [
  ⟨"QMG_QCFG", 0x30002C0008, [(16384, 0x10)], 4, false,
    [⟨0, 0, .rw, 0, true⟩, ⟨3, 1, .rw, 0, true⟩, ⟨5, 4, .rw, 0, true⟩, ⟨10, 6, .rw, 0x3, true⟩, ⟨13, 11, .rw, 0x6, true⟩, ⟨15, 14, .rw, 0, true⟩, ⟨31, 16, .rw, 0, true⟩]⟩,
  ⟨"QMG_QBIND", 0x30002C000C, [(16384, 0x10)], 4, false,
    [⟨7, 0, .rw, 0, true⟩, ⟨23, 8, .rsv, 0, false⟩, ⟨29, 24, .ro, 0, false⟩, ⟨31, 30, .rsv, 0, false⟩]⟩]

def rowsQMG : List RegRow := rowsQMG0 ++ rowsQMG1

def rowsQDB : List RegRow := [
  ⟨"QDB_STATE", 0x4000000000, [(16384, 0x1000)], 8, false,
    [⟨15, 0, .ro, 0, false⟩, ⟨31, 16, .ro, 0, false⟩, ⟨48, 32, .ro, 0, false⟩, ⟨50, 49, .ro, 0, false⟩, ⟨56, 51, .ro, 0, false⟩, ⟨63, 57, .rsv, 0, false⟩]⟩,
  ⟨"QDB_PUBLISH", 0x4000000008, [(16384, 0x1000)], 4, false,
    [⟨15, 0, .wo, 0, false⟩, ⟨21, 16, .wo, 0, false⟩, ⟨22, 22, .wo, 0, false⟩, ⟨31, 23, .rsv, 0, false⟩]⟩,
  ⟨"QDB_CONSUMED", 0x400000000C, [(16384, 0x1000)], 4, false,
    [⟨15, 0, .wo, 0, false⟩, ⟨21, 16, .wo, 0, false⟩, ⟨31, 22, .rsv, 0, false⟩]⟩,
  ⟨"QDB_OCC", 0x4000000010, [(16384, 0x1000)], 4, false,
    [⟨16, 0, .ro, 0, false⟩, ⟨31, 17, .rsv, 0, false⟩]⟩,
  ⟨"QDB_CNT_STALE", 0x4000000018, [(16384, 0x1000)], 8, false,
    [⟨63, 0, .rc, 0, false⟩]⟩,
  ⟨"QDB_CNT_FULL", 0x4000000020, [(16384, 0x1000)], 8, false,
    [⟨63, 0, .rc, 0, false⟩]⟩,
  ⟨"QDB_RESERVE", 0x4000000400, [(16384, 0x1000), (64, 0x8)], 8, false,
    [⟨15, 0, .ro, 0, false⟩, ⟨16, 16, .ro, 0, false⟩, ⟨19, 17, .ro, 0, false⟩, ⟨25, 20, .ro, 0, false⟩, ⟨63, 26, .rsv, 0, false⟩]⟩]

def rowsFAB0 : List RegRow := [
  ⟨"FAB_CTRL", 0x3000300000, [], 4, true,
    [⟨0, 0, .rw, 0x1, true⟩, ⟨1, 1, .rw, 0, true⟩, ⟨7, 2, .rsv, 0, false⟩, ⟨15, 8, .rw, 0x40, true⟩, ⟨31, 16, .rsv, 0, false⟩]⟩,
  ⟨"FAB_STATUS", 0x3000300004, [], 4, true,
    [⟨0, 0, .ro, 0, false⟩, ⟨1, 1, .ro, 0, false⟩, ⟨2, 2, .ro, 0, false⟩, ⟨3, 3, .w1c, 0, false⟩, ⟨4, 4, .w1c, 0, false⟩, ⟨5, 5, .w1c, 0, false⟩, ⟨6, 6, .w1c, 0, false⟩, ⟨7, 7, .w1c, 0, false⟩, ⟨8, 8, .w1c, 0, false⟩, ⟨31, 9, .rsv, 0, false⟩]⟩,
  ⟨"FAB_TMO", 0x3000300008, [], 4, true,
    [⟨7, 0, .rw, 0x26, true⟩, ⟨15, 8, .rw, 0x26, true⟩, ⟨23, 16, .rw, 0x26, true⟩, ⟨31, 24, .rsv, 0, false⟩]⟩,
  ⟨"FAB_SEG_FAIL", 0x3000300010, [], 8, true,
    [⟨59, 0, .ro, 0, true⟩, ⟨63, 60, .rsv, 0, false⟩]⟩,
  ⟨"FAB_STOP_FAIL", 0x3000300018, [], 8, true,
    [⟨55, 0, .ro, 0, true⟩, ⟨63, 56, .rsv, 0, false⟩]⟩,
  ⟨"FAB_TOR_FAIL", 0x3000300020, [(4, 0x4)], 4, true,
    [⟨31, 0, .ro, 0, true⟩]⟩,
  ⟨"FAB_RECONF", 0x3000300030, [], 4, true,
    [⟨6, 0, .wo, 0, false⟩, ⟨8, 7, .wo, 0, false⟩, ⟨9, 9, .wo, 0, false⟩, ⟨31, 10, .rsv, 0, false⟩]⟩,
  ⟨"FAB_LOG", 0x3000300038, [], 8, true,
    [⟨6, 0, .ro, 0, false⟩, ⟨8, 7, .ro, 0, false⟩, ⟨11, 9, .ro, 0, false⟩, ⟨31, 12, .rsv, 0, false⟩, ⟨63, 32, .ro, 0, false⟩]⟩,
  ⟨"FAB_CNT_REPLAY", 0x3000300040, [], 8, true,
    [⟨63, 0, .rc, 0, false⟩]⟩,
  ⟨"FAB_CNT_HDRERR", 0x3000300048, [], 8, true,
    [⟨63, 0, .rc, 0, false⟩]⟩,
  ⟨"FAB_CNT_TMO_REQ", 0x3000300050, [], 8, true,
    [⟨63, 0, .rc, 0, false⟩]⟩,
  ⟨"FAB_CNT_TMO_PST", 0x3000300058, [], 8, true,
    [⟨63, 0, .rc, 0, false⟩]⟩,
  ⟨"FAB_CNT_TMO_CTL", 0x3000300060, [], 8, true,
    [⟨63, 0, .rc, 0, false⟩]⟩,
  ⟨"FAB_CNT_EXPIRED", 0x3000300068, [], 8, true,
    [⟨63, 0, .rc, 0, false⟩]⟩]

def rowsFAB1 : List RegRow := [
  ⟨"FAB_CNT_UNREACH", 0x3000300070, [], 8, true,
    [⟨63, 0, .rc, 0, false⟩]⟩,
  ⟨"FAB_CNT_TORUS", 0x3000300078, [], 8, true,
    [⟨63, 0, .rc, 0, false⟩]⟩,
  ⟨"FAB_CNT_EPOCH", 0x3000300080, [], 8, true,
    [⟨63, 0, .rc, 0, false⟩]⟩,
  ⟨"FAB_CNT_WAKEHOLD", 0x3000300088, [], 8, true,
    [⟨63, 0, .rc, 0, false⟩]⟩,
  ⟨"FAB_CNT_PDABORT", 0x3000300090, [], 8, true,
    [⟨63, 0, .rc, 0, false⟩]⟩,
  ⟨"FAB_CNT_CIRC", 0x3000300098, [], 8, true,
    [⟨63, 0, .rc, 0, false⟩]⟩]

def rowsFAB : List RegRow := rowsFAB0 ++ rowsFAB1

def rowsPWR : List RegRow := [
  ⟨"PWR_CTRL", 0x3000400000, [], 4, true,
    [⟨0, 0, .rw, 0x1, true⟩, ⟨3, 1, .rw, 0x6, true⟩, ⟨7, 4, .rsv, 0, false⟩, ⟨16, 8, .rw, 0x159, true⟩, ⟨31, 17, .rsv, 0, false⟩]⟩,
  ⟨"PWR_STATUS", 0x3000400004, [], 4, true,
    [⟨0, 0, .ro, 0, false⟩, ⟨1, 1, .ro, 0, false⟩, ⟨2, 2, .w1c, 0, false⟩, ⟨3, 3, .w1c, 0, false⟩, ⟨7, 4, .ro, 0, false⟩, ⟨10, 8, .ro, 0, false⟩, ⟨16, 11, .ro, 0, false⟩, ⟨31, 17, .rsv, 0, false⟩]⟩,
  ⟨"PWR_LISTEN", 0x3000400008, [], 4, true,
    [⟨0, 0, .wo, 0, false⟩, ⟨31, 1, .rsv, 0, false⟩]⟩,
  ⟨"PWR_VIN", 0x3000400010, [], 4, true,
    [⟨15, 0, .ro, 0, false⟩, ⟨31, 16, .ro, 0, false⟩]⟩,
  ⟨"PWR_ENV", 0x3000400014, [], 4, true,
    [⟨8, 0, .ro, 0x159, false⟩, ⟨31, 9, .rsv, 0, false⟩]⟩,
  ⟨"PWR_DOM_CTL", 0x3000400100, [(45, 0x4)], 4, true,
    [⟨1, 0, .wo, 0, false⟩, ⟨31, 2, .rsv, 0, false⟩]⟩,
  ⟨"PWR_DOM_STATE", 0x3000400200, [(45, 0x4)], 4, true,
    [⟨2, 0, .ro, 0, false⟩, ⟨3, 3, .ro, 0, false⟩, ⟨31, 4, .rsv, 0, false⟩]⟩,
  ⟨"PWR_CLU_FREQ", 0x3000400300, [(32, 0x4)], 4, true,
    [⟨2, 0, .stg, 0x1, true⟩, ⟨31, 3, .rsv, 0, false⟩]⟩,
  ⟨"PWR_CNT_WAKE", 0x3000400400, [], 8, true,
    [⟨63, 0, .rc, 0, false⟩]⟩,
  ⟨"PWR_CNT_WAKEPKT", 0x3000400408, [], 8, true,
    [⟨63, 0, .rc, 0, false⟩]⟩,
  ⟨"PWR_CNT_OFF", 0x3000400410, [], 8, true,
    [⟨63, 0, .rc, 0, false⟩]⟩,
  ⟨"PWR_CNT_THROT", 0x3000400418, [], 8, true,
    [⟨63, 0, .rc, 0, false⟩]⟩,
  ⟨"PWR_CNT_THROT_US", 0x3000400420, [], 8, true,
    [⟨63, 0, .rc, 0, false⟩]⟩]

def rowsMON0 : List RegRow := [
  ⟨"MON_CTRL", 0x3000500000, [], 4, true,
    [⟨0, 0, .rw, 0, true⟩, ⟨7, 1, .rsv, 0, false⟩, ⟨15, 8, .rw, 0x69, true⟩, ⟨23, 16, .rw, 0x6E, true⟩, ⟨31, 24, .rw, 0x78, true⟩]⟩,
  ⟨"MON_CTRL2", 0x3000500004, [], 4, true,
    [⟨3, 0, .rw, 0x5, true⟩, ⟨11, 4, .rw, 0xA, true⟩, ⟨19, 12, .rw, 0x5, true⟩, ⟨31, 20, .rsv, 0, false⟩]⟩,
  ⟨"MON_STATUS", 0x3000500008, [], 4, true,
    [⟨0, 0, .w1c, 0, false⟩, ⟨1, 1, .ro, 0, false⟩, ⟨2, 2, .w1c, 0, false⟩, ⟨3, 3, .w1c, 0, false⟩, ⟨4, 4, .ro, 0, false⟩, ⟨5, 5, .ro, 0, false⟩, ⟨31, 6, .rsv, 0, false⟩]⟩,
  ⟨"MON_ALERT", 0x300050000C, [], 4, true,
    [⟨5, 0, .w1c, 0, false⟩, ⟨31, 6, .rsv, 0, false⟩]⟩,
  ⟨"MON_REPLACE", 0x3000500010, [], 4, true,
    [⟨8, 1, .w1c, 0, true⟩, ⟨0, 0, .rsv, 0, false⟩, ⟨31, 9, .rsv, 0, false⟩]⟩,
  ⟨"MON_REASON_LAST", 0x3000500018, [], 8, true,
    [⟨7, 0, .ro, 0, true⟩, ⟨15, 8, .ro, 0, true⟩, ⟨31, 16, .rsv, 0, false⟩, ⟨63, 32, .ro, 0, true⟩]⟩,
  ⟨"MON_FAULT", 0x3000500020, [], 4, true,
    [⟨7, 0, .wo, 0, false⟩, ⟨8, 8, .wo, 0, false⟩, ⟨31, 9, .rsv, 0, false⟩]⟩,
  ⟨"MON_SPARE", 0x3000500024, [], 4, true,
    [⟨31, 0, .ro, 0, true⟩]⟩,
  ⟨"MON_CORE_OUT", 0x3000500040, [(8, 0x4)], 4, true,
    [⟨31, 0, .ro, 0, true⟩]⟩,
  ⟨"MON_CNT_DROOP", 0x3000500100, [], 8, true,
    [⟨63, 0, .rc, 0, false⟩]⟩,
  ⟨"MON_CNT_WARN", 0x3000500108, [], 8, true,
    [⟨63, 0, .rc, 0, false⟩]⟩,
  ⟨"MON_CNT_FAULT", 0x3000500110, [], 8, true,
    [⟨63, 0, .rc, 0, false⟩]⟩,
  ⟨"MON_RES0", 0x3000501000, [], 4, true,
    [⟨0, 0, .ro, 0, false⟩, ⟨15, 1, .rsv, 0, false⟩, ⟨31, 16, .ro, 0, false⟩]⟩,
  ⟨"MON_RES_TIME", 0x3000501008, [], 8, true,
    [⟨63, 0, .ro, 0, false⟩]⟩]

def rowsMON1 : List RegRow := [
  ⟨"MON_RES_ACK", 0x3000501018, [], 4, true,
    [⟨15, 0, .wo, 0, false⟩, ⟨31, 16, .rsv, 0, false⟩]⟩,
  ⟨"MON_RES_TEMP", 0x3000501100, [(48, 0x4)], 4, true,
    [⟨7, 0, .ro, 0, false⟩, ⟨15, 8, .ro, 0, false⟩, ⟨31, 16, .rsv, 0, false⟩]⟩,
  ⟨"MON_RES_VOLT", 0x3000501200, [(64, 0x4)], 4, true,
    [⟨15, 0, .ro, 0, false⟩, ⟨31, 16, .ro, 0, false⟩]⟩,
  ⟨"MON_RES_PROC", 0x3000501300, [(32, 0x4)], 4, true,
    [⟨15, 0, .ro, 0, false⟩, ⟨23, 16, .ro, 0, false⟩, ⟨31, 24, .rsv, 0, false⟩]⟩]

def rowsMON : List RegRow := rowsMON0 ++ rowsMON1

def rowsSRL : List RegRow := [
  ⟨"SRL_CTRL", 0x3000600000, [], 4, true,
    [⟨0, 0, .rw, 0, true⟩, ⟨1, 1, .rw, 0, true⟩, ⟨31, 2, .rsv, 0, false⟩]⟩,
  ⟨"SRL_STATUS", 0x3000600004, [], 4, true,
    [⟨0, 0, .ro, 0, false⟩, ⟨1, 1, .w1c, 0, false⟩, ⟨2, 2, .w1c, 0, false⟩, ⟨3, 3, .ro, 0, false⟩, ⟨7, 4, .ro, 0, false⟩, ⟨31, 8, .rsv, 0, false⟩]⟩,
  ⟨"SRL_BOOT", 0x3000600008, [], 4, true,
    [⟨3, 0, .ro, 0, false⟩, ⟨5, 4, .ro, 0, false⟩, ⟨7, 6, .ro, 0, false⟩, ⟨9, 8, .ro, 0, false⟩, ⟨10, 10, .ro, 0, false⟩, ⟨14, 11, .ro, 0, false⟩, ⟨15, 15, .ro, 0, false⟩, ⟨23, 16, .ro, 0, false⟩, ⟨24, 24, .ro, 0, false⟩, ⟨25, 25, .ro, 0, false⟩, ⟨31, 26, .rsv, 0, false⟩]⟩,
  ⟨"SRL_RUN", 0x300060000C, [], 4, true,
    [⟨0, 0, .wo, 0, false⟩, ⟨31, 1, .rsv, 0, false⟩]⟩,
  ⟨"SRL_CMD", 0x3000600010, [], 4, true,
    [⟨1, 0, .wo, 0, false⟩, ⟨31, 2, .rsv, 0, false⟩]⟩,
  ⟨"SRL_SRC", 0x3000600018, [], 8, true,
    [⟨5, 0, .rsv, 0, false⟩, ⟨47, 6, .rw, 0, false⟩, ⟨63, 48, .rsv, 0, false⟩]⟩,
  ⟨"SRL_LEN", 0x3000600020, [], 4, true,
    [⟨31, 0, .rw, 0, false⟩]⟩,
  ⟨"SRL_CFG_SEQ", 0x3000600028, [], 8, true,
    [⟨31, 0, .ro, 0, false⟩, ⟨63, 32, .ro, 0, false⟩]⟩,
  ⟨"SRL_FW_SEQ", 0x3000600030, [], 8, true,
    [⟨31, 0, .ro, 0, false⟩, ⟨63, 32, .ro, 0, false⟩]⟩,
  ⟨"SRL_LOG_HEAD", 0x3000600038, [], 4, false,
    [⟨16, 0, .ro, 0, false⟩, ⟨31, 17, .rsv, 0, false⟩]⟩,
  ⟨"SRL_KEYS", 0x300060003C, [], 4, true,
    [⟨3, 0, .ro, 0, false⟩, ⟨7, 4, .ro, 0, false⟩, ⟨9, 8, .ro, 0, false⟩, ⟨11, 10, .ro, 0, false⟩, ⟨31, 12, .rsv, 0, false⟩]⟩,
  ⟨"SRL_CNT_PERSIST", 0x3000600040, [], 8, true,
    [⟨63, 0, .rc, 0, false⟩]⟩,
  ⟨"SRL_CNT_LOG", 0x3000600048, [], 8, true,
    [⟨63, 0, .rc, 0, false⟩]⟩,
  ⟨"SRL_RMAP", 0x3000600050, [], 8, false,
    [⟨47, 0, .rw, 0, false⟩, ⟨63, 48, .rsv, 0, false⟩]⟩]

def rowsTSL : List RegRow := [
  ⟨"TSL_CTRL", 0x3000700000, [], 4, true,
    [⟨0, 0, .rw, 0, true⟩, ⟨1, 1, .rw, 0, true⟩, ⟨2, 2, .rw, 0, true⟩, ⟨4, 3, .rw, 0, true⟩, ⟨7, 5, .rsv, 0, false⟩, ⟨15, 8, .rw, 0x10, true⟩, ⟨27, 16, .rw, 0, true⟩, ⟨31, 28, .rsv, 0, false⟩]⟩,
  ⟨"TSL_GO", 0x3000700004, [], 4, true,
    [⟨0, 0, .wo, 0, false⟩, ⟨1, 1, .wo, 0, false⟩, ⟨31, 2, .rsv, 0, false⟩]⟩,
  ⟨"TSL_START", 0x3000700008, [], 8, true,
    [⟨47, 6, .rw, 0, false⟩, ⟨5, 0, .rsv, 0, false⟩, ⟨63, 48, .rsv, 0, false⟩]⟩,
  ⟨"TSL_END", 0x3000700010, [], 8, true,
    [⟨47, 6, .rw, 0, false⟩, ⟨5, 0, .rsv, 0, false⟩, ⟨63, 48, .rsv, 0, false⟩]⟩,
  ⟨"TSL_SUMADDR", 0x3000700018, [], 8, true,
    [⟨47, 6, .rw, 0, true⟩, ⟨5, 0, .rsv, 0, false⟩, ⟨63, 48, .rsv, 0, false⟩]⟩,
  ⟨"TSL_STATUS", 0x3000700020, [], 4, true,
    [⟨0, 0, .ro, 0, false⟩, ⟨1, 1, .w1c, 0, false⟩, ⟨2, 2, .w1c, 0, false⟩, ⟨3, 3, .w1c, 0, false⟩, ⟨7, 4, .ro, 0, false⟩, ⟨15, 8, .rsv, 0, false⟩, ⟨31, 16, .ro, 0, false⟩]⟩,
  ⟨"TSL_POS", 0x3000700028, [], 8, false,
    [⟨47, 0, .ro, 0, false⟩, ⟨63, 48, .rsv, 0, false⟩]⟩,
  ⟨"TSL_CNT_PASSES", 0x3000700030, [], 8, true,
    [⟨63, 0, .rc, 0, false⟩]⟩]

def rowsCPN : List RegRow := [
  ⟨"CPN_CTRL", 0x3000800000, [], 4, false,
    [⟨0, 0, .rw, 0x1, true⟩, ⟨1, 1, .rw, 0, true⟩, ⟨2, 2, .rw, 0, true⟩, ⟨3, 3, .rw, 0, true⟩, ⟨31, 4, .rsv, 0, false⟩]⟩,
  ⟨"CPN_STATUS", 0x3000800004, [], 4, false,
    [⟨0, 0, .ro, 0, false⟩, ⟨1, 1, .ro, 0, false⟩, ⟨31, 2, .rsv, 0, false⟩]⟩,
  ⟨"CPN_FREEZE", 0x3000800008, [], 4, false,
    [⟨31, 0, .wo, 0, false⟩]⟩,
  ⟨"CPN_DBG_CTL", 0x3000810000, [(256, 0x40)], 4, false,
    [⟨0, 0, .rw, 0, false⟩, ⟨1, 1, .rw, 0, false⟩, ⟨2, 2, .wo, 0, false⟩, ⟨6, 3, .rw, 0, false⟩, ⟨8, 7, .rw, 0, false⟩, ⟨31, 9, .rsv, 0, false⟩]⟩,
  ⟨"CPN_DBG_STAT", 0x3000810004, [(256, 0x40)], 4, false,
    [⟨5, 0, .w1c, 0, false⟩, ⟨31, 6, .rsv, 0, false⟩]⟩,
  ⟨"CPN_BP", 0x3000810010, [(256, 0x40), (4, 0x4)], 4, false,
    [⟨1, 0, .rsv, 0, false⟩, ⟨31, 2, .rw, 0, false⟩]⟩,
  ⟨"CPN_WP_ADDR", 0x3000810020, [(256, 0x40), (2, 0x10)], 4, false,
    [⟨31, 0, .rw, 0, false⟩]⟩,
  ⟨"CPN_WP_MASK", 0x3000810024, [(256, 0x40), (2, 0x10)], 4, false,
    [⟨31, 0, .rw, 0, false⟩]⟩,
  ⟨"CPN_WP_CFG", 0x3000810028, [(256, 0x40), (2, 0x10)], 4, false,
    [⟨1, 0, .rw, 0, false⟩, ⟨31, 2, .rsv, 0, false⟩]⟩]

def rowsYRW0 : List RegRow := [
  ⟨"YRW_CTRL", 0x3000900000, [], 4, true,
    [⟨0, 0, .stg, 0, true⟩, ⟨1, 1, .stg, 0, true⟩, ⟨2, 2, .rw, 0, true⟩, ⟨31, 3, .rsv, 0, false⟩]⟩,
  ⟨"YRW_STATUS", 0x3000900004, [], 4, true,
    [⟨0, 0, .w1c, 0, false⟩, ⟨1, 1, .w1c, 0, false⟩, ⟨2, 2, .w1c, 0, false⟩, ⟨3, 3, .ro, 0, false⟩, ⟨31, 4, .rsv, 0, false⟩]⟩,
  ⟨"YRW_WIN_STAT", 0x3000900008, [], 4, true,
    [⟨31, 0, .w1c, 0, false⟩]⟩,
  ⟨"YRW_SW_TRIG", 0x3000900010, [], 4, true,
    [⟨7, 0, .wo, 0, false⟩, ⟨31, 8, .rsv, 0, false⟩]⟩,
  ⟨"YRW_INJ_CFG", 0x3000900018, [], 8, true,
    [⟨15, 0, .rw, 0, false⟩, ⟨17, 16, .rw, 0, false⟩, ⟨22, 18, .rw, 0, false⟩, ⟨31, 23, .rsv, 0, false⟩, ⟨47, 32, .rw, 0, false⟩, ⟨63, 48, .rsv, 0, false⟩]⟩,
  ⟨"YRW_INJ_AT", 0x3000900020, [], 4, true,
    [⟨31, 0, .rw, 0, false⟩]⟩,
  ⟨"YRW_INJ_GO", 0x3000900024, [], 4, true,
    [⟨0, 0, .wo, 0, false⟩, ⟨1, 1, .wo, 0, false⟩, ⟨31, 2, .rsv, 0, false⟩]⟩,
  ⟨"YRW_CAL", 0x3000900028, [], 4, true,
    [⟨4, 0, .wo, 0, false⟩, ⟨5, 5, .wo, 0, false⟩, ⟨17, 6, .wo, 0, false⟩, ⟨31, 18, .rsv, 0, false⟩]⟩,
  ⟨"YRW_CAL_STATUS", 0x300090002C, [], 4, true,
    [⟨1, 0, .ro, 0, false⟩, ⟨4, 2, .ro, 0, false⟩, ⟨9, 5, .ro, 0, false⟩, ⟨31, 10, .rsv, 0, false⟩]⟩,
  ⟨"YRW_CNT_CONV", 0x3000900040, [], 8, true,
    [⟨63, 0, .rc, 0, false⟩]⟩,
  ⟨"YRW_CNT_OVR", 0x3000900048, [], 8, true,
    [⟨63, 0, .rc, 0, false⟩]⟩,
  ⟨"YRW_CNT_LATE", 0x3000900050, [], 8, true,
    [⟨63, 0, .rc, 0, false⟩]⟩,
  ⟨"YRW_CNT_WIN", 0x3000900058, [], 8, true,
    [⟨63, 0, .rc, 0, false⟩]⟩,
  ⟨"YRW_CNT_ACKBAD", 0x3000900060, [], 8, true,
    [⟨63, 0, .rc, 0, false⟩]⟩]

def rowsYRW1 : List RegRow := [
  ⟨"YRW_CNT_RESOVR", 0x3000900068, [], 8, true,
    [⟨63, 0, .rc, 0, false⟩]⟩,
  ⟨"YRW_CNT_INJREF", 0x3000900070, [], 8, true,
    [⟨63, 0, .rc, 0, false⟩]⟩,
  ⟨"YRW_WIN_LIM", 0x3000900400, [(32, 0x8)], 4, true,
    [⟨11, 0, .stg, 0, true⟩, ⟨15, 12, .rsv, 0, false⟩, ⟨27, 16, .stg, 0xFFF, true⟩, ⟨29, 28, .stg, 0, true⟩, ⟨30, 30, .stg, 0, true⟩, ⟨31, 31, .stg, 0, true⟩]⟩,
  ⟨"YRW_WIN_DROP", 0x3000900404, [(32, 0x8)], 4, true,
    [⟨31, 0, .stg, 0, true⟩]⟩,
  ⟨"YRW_CAL_CH", 0x3000900600, [(32, 0x4)], 4, true,
    [⟨11, 0, .rw, 0, true⟩, ⟨15, 12, .rsv, 0, false⟩, ⟨31, 16, .rw, 0x4000, true⟩]⟩,
  ⟨"YRW_RES0", 0x3000902000, [(9, 0x80)], 4, true,
    [⟨0, 0, .ro, 0, false⟩, ⟨1, 1, .ro, 0, false⟩, ⟨2, 2, .ro, 0, false⟩, ⟨3, 3, .ro, 0, false⟩, ⟨4, 4, .ro, 0, false⟩, ⟨5, 5, .ro, 0, false⟩, ⟨15, 6, .rsv, 0, false⟩, ⟨31, 16, .ro, 0, false⟩]⟩,
  ⟨"YRW_RES_TIME", 0x3000902008, [(9, 0x80)], 8, true,
    [⟨63, 0, .ro, 0, false⟩]⟩,
  ⟨"YRW_RES_Y", 0x3000902010, [(9, 0x80), (16, 0x4)], 4, true,
    [⟨11, 0, .ro, 0, false⟩, ⟨15, 12, .rsv, 0, false⟩, ⟨27, 16, .ro, 0, false⟩, ⟨31, 28, .rsv, 0, false⟩]⟩,
  ⟨"YRW_RES_ACK", 0x3000902050, [(9, 0x80)], 4, true,
    [⟨15, 0, .wo, 0, false⟩, ⟨31, 16, .rsv, 0, false⟩]⟩,
  ⟨"YRW_BANK", 0x3000901000, [(2, 0x400), (256, 0x4)], 4, false,
    [⟨31, 0, .rw, 0, true⟩]⟩]

def rowsYRW : List RegRow := rowsYRW0 ++ rowsYRW1

def rowsTXS : List RegRow := [
  ⟨"TXS_CTRL", 0x3000A00000, [], 4, true,
    [⟨0, 0, .stg, 0, true⟩, ⟨1, 1, .stg, 0, true⟩, ⟨31, 2, .rsv, 0, false⟩]⟩,
  ⟨"TXS_STATUS", 0x3000A00004, [], 4, true,
    [⟨0, 0, .w1c, 0, false⟩, ⟨1, 1, .w1c, 0, false⟩, ⟨31, 2, .rsv, 0, false⟩]⟩,
  ⟨"TXS_PAEN_DROP", 0x3000A00008, [], 4, true,
    [⟨31, 0, .ro, 0, false⟩]⟩,
  ⟨"TXS_PAEN_CLR", 0x3000A0000C, [], 4, true,
    [⟨31, 0, .wo, 0, false⟩]⟩,
  ⟨"TXS_PAEN_LEVEL", 0x3000A00010, [], 4, true,
    [⟨31, 0, .ro, 0, false⟩]⟩,
  ⟨"TXS_CNT_DROP", 0x3000A00018, [], 8, true,
    [⟨63, 0, .rc, 0, false⟩]⟩,
  ⟨"TXS_CNT_SAMPLES", 0x3000A00020, [], 8, true,
    [⟨63, 0, .rc, 0, false⟩]⟩,
  ⟨"TXS_CNT_MUTED", 0x3000A00028, [], 8, true,
    [⟨63, 0, .rc, 0, false⟩]⟩,
  ⟨"TXS_PAEN_CFG", 0x3000A00100, [(32, 0x8)], 4, true,
    [⟨3, 0, .stg, 0, true⟩, ⟨4, 4, .stg, 0, true⟩, ⟨5, 5, .stg, 0, true⟩, ⟨7, 6, .stg, 0, true⟩, ⟨8, 8, .stg, 0, true⟩, ⟨31, 9, .rsv, 0, false⟩]⟩,
  ⟨"TXS_PAEN_TIM", 0x3000A00104, [(32, 0x8)], 4, true,
    [⟨11, 0, .stg, 0, true⟩, ⟨15, 12, .rsv, 0, false⟩, ⟨27, 16, .stg, 0, true⟩, ⟨31, 28, .rsv, 0, false⟩]⟩,
  ⟨"TXS_STR_CFG", 0x3000A00400, [(384, 0x4)], 4, true,
    [⟨0, 0, .stg, 0, true⟩, ⟨4, 1, .stg, 0, true⟩, ⟨6, 5, .stg, 0, true⟩, ⟨11, 7, .stg, 0, true⟩, ⟨12, 12, .stg, 0, true⟩, ⟨31, 13, .rsv, 0, false⟩]⟩,
  ⟨"TXS_BANK", 0x3000A10000, [(2, 0x4000), (4096, 0x4)], 4, false,
    [⟨31, 0, .rw, 0, true⟩]⟩]

def rowsFEN0 : List RegRow := [
  ⟨"FEN_CTRL", 0x3000B00000, [], 4, true,
    [⟨0, 0, .stg, 0, true⟩, ⟨1, 1, .stg, 0, true⟩, ⟨31, 2, .rsv, 0, false⟩]⟩,
  ⟨"FEN_STATUS", 0x3000B00004, [], 4, true,
    [⟨0, 0, .w1c, 0, false⟩, ⟨1, 1, .w1c, 0, false⟩, ⟨2, 2, .w1c, 0, false⟩, ⟨3, 3, .w1c, 0, false⟩, ⟨31, 4, .rsv, 0, false⟩]⟩,
  ⟨"FEN_GL_UNFREEZE", 0x3000B00008, [], 4, true,
    [⟨10, 0, .wo, 0, false⟩, ⟨31, 11, .rsv, 0, false⟩]⟩,
  ⟨"FEN_BF_GRACE", 0x3000B0000C, [], 4, true,
    [⟨23, 0, .stg, 0x600, true⟩, ⟨31, 24, .rsv, 0, false⟩]⟩,
  ⟨"FEN_CNT_SAMPLES", 0x3000B00010, [], 8, true,
    [⟨63, 0, .rc, 0, false⟩]⟩,
  ⟨"FEN_CNT_CLIP", 0x3000B00018, [], 8, true,
    [⟨63, 0, .rc, 0, false⟩]⟩,
  ⟨"FEN_CNT_DET", 0x3000B00020, [], 8, true,
    [⟨63, 0, .rc, 0, false⟩]⟩,
  ⟨"FEN_CNT_REJ", 0x3000B00028, [], 8, true,
    [⟨63, 0, .rc, 0, false⟩]⟩,
  ⟨"FEN_CNT_SKIP", 0x3000B00030, [], 8, true,
    [⟨63, 0, .rc, 0, false⟩]⟩,
  ⟨"FEN_CNT_RESOVR", 0x3000B00038, [], 8, true,
    [⟨63, 0, .rc, 0, false⟩]⟩,
  ⟨"FEN_CNT_ACKBAD", 0x3000B00040, [], 8, true,
    [⟨63, 0, .rc, 0, false⟩]⟩,
  ⟨"FEN_CNT_SCAN", 0x3000B00048, [], 8, true,
    [⟨63, 0, .rc, 0, false⟩]⟩,
  ⟨"FEN_GL_PROF", 0x3000B00100, [(16, 0x4)], 4, true,
    [⟨7, 0, .stg, 0xDC, true⟩, ⟨11, 8, .stg, 0x2, true⟩, ⟨15, 12, .stg, 0x2, true⟩, ⟨21, 16, .stg, 0xC, true⟩, ⟨31, 22, .rsv, 0, false⟩]⟩,
  ⟨"FEN_GL_CFG", 0x3000B10000, [(1536, 0x4)], 4, true,
    [⟨0, 0, .stg, 0, true⟩, ⟨1, 1, .stg, 0, true⟩, ⟨8, 2, .stg, 0x3C, true⟩, ⟨12, 9, .stg, 0, true⟩, ⟨14, 13, .stg, 0x1, true⟩, ⟨31, 15, .rsv, 0, false⟩]⟩]

def rowsFEN1 : List RegRow := [
  ⟨"FEN_GL_STATE", 0x3000B20000, [(1536, 0x4)], 4, true,
    [⟨6, 0, .ro, 0x3C, false⟩, ⟨7, 7, .ro, 0, false⟩, ⟨15, 8, .ro, 0, false⟩, ⟨31, 16, .ro, 0, false⟩]⟩,
  ⟨"FEN_BF_CTL", 0x3000B30000, [(4, 0x1000), (16, 0x40)], 4, true,
    [⟨0, 0, .stg, 0, true⟩, ⟨1, 1, .stg, 0, true⟩, ⟨2, 2, .stg, 0, true⟩, ⟨3, 3, .stg, 0, true⟩, ⟨14, 4, .stg, 0, true⟩, ⟨20, 15, .stg, 0, true⟩, ⟨31, 21, .rsv, 0, false⟩]⟩,
  ⟨"FEN_BF_WSTART", 0x3000B30004, [(4, 0x1000), (16, 0x40)], 4, true,
    [⟨31, 0, .stg, 0, true⟩]⟩,
  ⟨"FEN_BF_WPERIOD", 0x3000B30008, [(4, 0x1000), (16, 0x40)], 4, true,
    [⟨31, 0, .stg, 0, true⟩]⟩,
  ⟨"FEN_BF_WLEN", 0x3000B3000C, [(4, 0x1000), (16, 0x40)], 4, true,
    [⟨31, 0, .stg, 0, true⟩]⟩,
  ⟨"FEN_BF_REGION", 0x3000B30010, [(4, 0x1000), (16, 0x40)], 4, true,
    [⟨15, 0, .stg, 0, true⟩, ⟨31, 16, .stg, 0, true⟩]⟩,
  ⟨"FEN_BF_FREEZE", 0x3000B30014, [(4, 0x1000), (16, 0x40)], 4, true,
    [⟨23, 0, .stg, 0, true⟩, ⟨31, 24, .rsv, 0, false⟩]⟩,
  ⟨"FEN_BF_P0", 0x3000B30018, [(4, 0x1000), (16, 0x40)], 4, true,
    [⟨31, 0, .stg, 0, true⟩]⟩,
  ⟨"FEN_BF_P1", 0x3000B3001C, [(4, 0x1000), (16, 0x40)], 4, true,
    [⟨31, 0, .stg, 0, true⟩]⟩,
  ⟨"FEN_BF_P2", 0x3000B30020, [(4, 0x1000), (16, 0x40)], 4, true,
    [⟨31, 0, .stg, 0, true⟩]⟩,
  ⟨"FEN_BF_REF", 0x3000B30024, [(4, 0x1000), (16, 0x40)], 4, true,
    [⟨15, 0, .stg, 0, true⟩, ⟨31, 16, .rsv, 0, false⟩]⟩,
  ⟨"FEN_BF_NT", 0x3000B30028, [(4, 0x1000), (16, 0x40)], 4, true,
    [⟨11, 0, .stg, 0, true⟩, ⟨31, 12, .rsv, 0, false⟩]⟩,
  ⟨"FEN_BF_RES0", 0x3000B30800, [(4, 0x1000), (16, 0x20)], 4, true,
    [⟨0, 0, .ro, 0, false⟩, ⟨1, 1, .ro, 0, false⟩, ⟨2, 2, .ro, 0, false⟩, ⟨3, 3, .ro, 0, false⟩, ⟨4, 4, .ro, 0, false⟩, ⟨7, 5, .rsv, 0, false⟩, ⟨15, 8, .ro, 0, false⟩, ⟨31, 16, .ro, 0, false⟩]⟩,
  ⟨"FEN_BF_RES_TIME", 0x3000B30808, [(4, 0x1000), (16, 0x20)], 8, true,
    [⟨63, 0, .ro, 0, false⟩]⟩]

def rowsFEN2 : List RegRow := [
  ⟨"FEN_BF_RES_PEAK", 0x3000B30810, [(4, 0x1000), (16, 0x20)], 8, true,
    [⟨63, 0, .ro, 0, false⟩]⟩,
  ⟨"FEN_BF_ACK", 0x3000B30818, [(4, 0x1000), (16, 0x20)], 4, true,
    [⟨15, 0, .wo, 0, false⟩, ⟨31, 16, .rsv, 0, false⟩]⟩]

def rowsFEN : List RegRow := rowsFEN0 ++ rowsFEN1 ++ rowsFEN2

def rowsFFT : List RegRow := [
  ⟨"FFT_STATUS", 0x3000C00000, [], 4, true,
    [⟨0, 0, .w1c, 0, false⟩, ⟨1, 1, .w1c, 0, false⟩, ⟨7, 2, .rsv, 0, false⟩, ⟨11, 8, .ro, 0, false⟩, ⟨15, 12, .rsv, 0, false⟩, ⟨23, 16, .ro, 0, false⟩, ⟨31, 24, .rsv, 0, false⟩]⟩,
  ⟨"FFT_INST_CFG", 0x3000C00100, [(16, 0x4)], 4, true,
    [⟨0, 0, .stg, 0, true⟩, ⟨31, 1, .rsv, 0, false⟩]⟩,
  ⟨"FFT_INST_STATE", 0x3000C00200, [(16, 0x4)], 4, true,
    [⟨1, 0, .ro, 0, false⟩, ⟨7, 2, .rsv, 0, false⟩, ⟨31, 8, .ro, 0, false⟩]⟩,
  ⟨"FFT_CNT_JOBS", 0x3000C01000, [(16, 0x20)], 8, true,
    [⟨63, 0, .rc, 0, false⟩]⟩,
  ⟨"FFT_CNT_BAD", 0x3000C01008, [(16, 0x20)], 8, true,
    [⟨63, 0, .rc, 0, false⟩]⟩,
  ⟨"FFT_CNT_ERR", 0x3000C01010, [(16, 0x20)], 8, true,
    [⟨63, 0, .rc, 0, false⟩]⟩,
  ⟨"FFT_CNT_BUSY", 0x3000C01018, [(16, 0x20)], 8, true,
    [⟨63, 0, .rc, 0, false⟩]⟩]

def rowsMXE : List RegRow := [
  ⟨"MXE_STATUS", 0x3000D00000, [], 4, true,
    [⟨0, 0, .w1c, 0, false⟩, ⟨1, 1, .w1c, 0, false⟩, ⟨7, 2, .rsv, 0, false⟩, ⟨11, 8, .ro, 0, false⟩, ⟨15, 12, .rsv, 0, false⟩, ⟨23, 16, .ro, 0, false⟩, ⟨31, 24, .rsv, 0, false⟩]⟩,
  ⟨"MXE_INST_CFG", 0x3000D00100, [(16, 0x4)], 4, true,
    [⟨0, 0, .stg, 0, true⟩, ⟨31, 1, .rsv, 0, false⟩]⟩,
  ⟨"MXE_INST_STATE", 0x3000D00200, [(16, 0x4)], 4, true,
    [⟨1, 0, .ro, 0, false⟩, ⟨7, 2, .rsv, 0, false⟩, ⟨31, 8, .ro, 0, false⟩]⟩,
  ⟨"MXE_CNT_JOBS", 0x3000D01000, [(16, 0x20)], 8, true,
    [⟨63, 0, .rc, 0, false⟩]⟩,
  ⟨"MXE_CNT_BAD", 0x3000D01008, [(16, 0x20)], 8, true,
    [⟨63, 0, .rc, 0, false⟩]⟩,
  ⟨"MXE_CNT_ERR", 0x3000D01010, [(16, 0x20)], 8, true,
    [⟨63, 0, .rc, 0, false⟩]⟩,
  ⟨"MXE_CNT_BUSY", 0x3000D01018, [(16, 0x20)], 8, true,
    [⟨63, 0, .rc, 0, false⟩]⟩]

def rowsLDD : List RegRow := [
  ⟨"LDD_STATUS", 0x3000E00000, [], 4, true,
    [⟨0, 0, .w1c, 0, false⟩, ⟨1, 1, .w1c, 0, false⟩, ⟨2, 2, .w1c, 0, false⟩, ⟨7, 3, .rsv, 0, false⟩, ⟨12, 8, .ro, 0, false⟩, ⟨15, 13, .rsv, 0, false⟩, ⟨23, 16, .ro, 0, false⟩, ⟨31, 24, .rsv, 0, false⟩]⟩,
  ⟨"LDD_INST_CFG", 0x3000E00100, [(24, 0x4)], 4, true,
    [⟨0, 0, .stg, 0, true⟩, ⟨31, 1, .rsv, 0, false⟩]⟩,
  ⟨"LDD_INST_STATE", 0x3000E00200, [(24, 0x4)], 4, true,
    [⟨1, 0, .ro, 0, false⟩, ⟨7, 2, .rsv, 0, false⟩, ⟨31, 8, .ro, 0, false⟩]⟩,
  ⟨"LDD_CNT_JOBS", 0x3000E01000, [(24, 0x20)], 8, true,
    [⟨63, 0, .rc, 0, false⟩]⟩,
  ⟨"LDD_CNT_BAD", 0x3000E01008, [(24, 0x20)], 8, true,
    [⟨63, 0, .rc, 0, false⟩]⟩,
  ⟨"LDD_CNT_ERR", 0x3000E01010, [(24, 0x20)], 8, true,
    [⟨63, 0, .rc, 0, false⟩]⟩,
  ⟨"LDD_CNT_BUSY", 0x3000E01018, [(24, 0x20)], 8, true,
    [⟨63, 0, .rc, 0, false⟩]⟩,
  ⟨"LDD_CNT_DECFAIL", 0x3000E02000, [(24, 0x10)], 8, true,
    [⟨63, 0, .rc, 0, false⟩]⟩,
  ⟨"LDD_CNT_ITER", 0x3000E02008, [(24, 0x10)], 8, true,
    [⟨63, 0, .rc, 0, false⟩]⟩]

def rowsENC : List RegRow := [
  ⟨"ENC_STATUS", 0x3000F00000, [], 4, true,
    [⟨0, 0, .w1c, 0, false⟩, ⟨1, 1, .w1c, 0, false⟩, ⟨2, 2, .w1c, 0, false⟩, ⟨7, 3, .rsv, 0, false⟩, ⟨12, 8, .ro, 0, false⟩, ⟨15, 13, .rsv, 0, false⟩, ⟨23, 16, .ro, 0, false⟩, ⟨31, 24, .rsv, 0, false⟩]⟩,
  ⟨"ENC_INST_CFG", 0x3000F00100, [(24, 0x4)], 4, true,
    [⟨0, 0, .stg, 0, true⟩, ⟨31, 1, .rsv, 0, false⟩]⟩,
  ⟨"ENC_INST_STATE", 0x3000F00200, [(24, 0x4)], 4, true,
    [⟨1, 0, .ro, 0, false⟩, ⟨7, 2, .rsv, 0, false⟩, ⟨31, 8, .ro, 0, false⟩]⟩,
  ⟨"ENC_CNT_JOBS", 0x3000F01000, [(24, 0x20)], 8, true,
    [⟨63, 0, .rc, 0, false⟩]⟩,
  ⟨"ENC_CNT_BAD", 0x3000F01008, [(24, 0x20)], 8, true,
    [⟨63, 0, .rc, 0, false⟩]⟩,
  ⟨"ENC_CNT_ERR", 0x3000F01010, [(24, 0x20)], 8, true,
    [⟨63, 0, .rc, 0, false⟩]⟩,
  ⟨"ENC_CNT_BUSY", 0x3000F01018, [(24, 0x20)], 8, true,
    [⟨63, 0, .rc, 0, false⟩]⟩,
  ⟨"ENC_CNT_DECFAIL", 0x3000F02000, [(24, 0x10)], 8, true,
    [⟨63, 0, .rc, 0, false⟩]⟩,
  ⟨"ENC_CNT_ITER", 0x3000F02008, [(24, 0x10)], 8, true,
    [⟨63, 0, .rc, 0, false⟩]⟩]

def rowsTPD : List RegRow := [
  ⟨"TPD_STATUS", 0x3001000000, [], 4, true,
    [⟨0, 0, .w1c, 0, false⟩, ⟨1, 1, .w1c, 0, false⟩, ⟨2, 2, .w1c, 0, false⟩, ⟨7, 3, .rsv, 0, false⟩, ⟨12, 8, .ro, 0, false⟩, ⟨15, 13, .rsv, 0, false⟩, ⟨23, 16, .ro, 0, false⟩, ⟨31, 24, .rsv, 0, false⟩]⟩,
  ⟨"TPD_INST_CFG", 0x3001000100, [(24, 0x4)], 4, true,
    [⟨0, 0, .stg, 0, true⟩, ⟨31, 1, .rsv, 0, false⟩]⟩,
  ⟨"TPD_INST_STATE", 0x3001000200, [(24, 0x4)], 4, true,
    [⟨1, 0, .ro, 0, false⟩, ⟨7, 2, .rsv, 0, false⟩, ⟨31, 8, .ro, 0, false⟩]⟩,
  ⟨"TPD_CNT_JOBS", 0x3001001000, [(24, 0x20)], 8, true,
    [⟨63, 0, .rc, 0, false⟩]⟩,
  ⟨"TPD_CNT_BAD", 0x3001001008, [(24, 0x20)], 8, true,
    [⟨63, 0, .rc, 0, false⟩]⟩,
  ⟨"TPD_CNT_ERR", 0x3001001010, [(24, 0x20)], 8, true,
    [⟨63, 0, .rc, 0, false⟩]⟩,
  ⟨"TPD_CNT_BUSY", 0x3001001018, [(24, 0x20)], 8, true,
    [⟨63, 0, .rc, 0, false⟩]⟩,
  ⟨"TPD_CNT_DECFAIL", 0x3001002000, [(24, 0x10)], 8, true,
    [⟨63, 0, .rc, 0, false⟩]⟩,
  ⟨"TPD_CNT_ITER", 0x3001002008, [(24, 0x10)], 8, true,
    [⟨63, 0, .rc, 0, false⟩]⟩]

def rowsHLK0 : List RegRow := [
  ⟨"HLK_ID0", 0x3001100000, [], 4, true,
    [⟨7, 0, .ro, 0x1, false⟩, ⟨15, 8, .ro, 0, false⟩, ⟨31, 16, .ro, 0x960, false⟩]⟩,
  ⟨"HLK_ID1", 0x3001100004, [], 4, true,
    [⟨5, 0, .ro, 0x20, false⟩, ⟨14, 6, .ro, 0x100, false⟩, ⟨19, 15, .ro, 0x18, false⟩, ⟨26, 20, .ro, 0x60, false⟩, ⟨31, 27, .ro, 0xC, false⟩]⟩,
  ⟨"HLK_ID2", 0x3001100008, [], 4, true,
    [⟨5, 0, .ro, 0x30, false⟩, ⟨12, 6, .ro, 0x20, false⟩, ⟨15, 13, .rsv, 0, false⟩, ⟨24, 16, .ro, 0, false⟩, ⟨31, 25, .rsv, 0, false⟩]⟩,
  ⟨"HLK_CTRL", 0x3001100010, [], 4, true,
    [⟨0, 0, .rw, 0, true⟩, ⟨2, 1, .rw, 0x1, true⟩, ⟨7, 3, .rsv, 0, false⟩, ⟨15, 8, .rw, 0xA, true⟩, ⟨31, 16, .rsv, 0, false⟩]⟩,
  ⟨"HLK_STATUS", 0x3001100014, [], 4, true,
    [⟨1, 0, .ro, 0, false⟩, ⟨2, 2, .ro, 0, false⟩, ⟨3, 3, .ro, 0, false⟩, ⟨4, 4, .w1c, 0, false⟩, ⟨5, 5, .w1c, 0, false⟩, ⟨6, 6, .w1c, 0, false⟩, ⟨7, 7, .w1c, 0, false⟩, ⟨8, 8, .w1c, 0, false⟩, ⟨9, 9, .w1c, 0, false⟩, ⟨31, 10, .rsv, 0, false⟩]⟩,
  ⟨"HLK_MOD", 0x3001100018, [(2, 0x4)], 4, true,
    [⟨1, 0, .ro, 0, false⟩, ⟨7, 2, .ro, 0, false⟩, ⟨31, 8, .rsv, 0, false⟩]⟩,
  ⟨"HLK_DIR_OCC", 0x3001100020, [], 4, false,
    [⟨20, 0, .ro, 0, false⟩, ⟨31, 21, .rsv, 0, false⟩]⟩,
  ⟨"HLK_COH_BASE", 0x3001100100, [(16, 0x10)], 8, true,
    [⟨20, 0, .rsv, 0, false⟩, ⟨47, 21, .rw, 0, true⟩, ⟨63, 48, .rsv, 0, false⟩]⟩,
  ⟨"HLK_COH_LEN", 0x3001100108, [(16, 0x10)], 4, true,
    [⟨15, 0, .rw, 0, true⟩, ⟨31, 16, .rsv, 0, false⟩]⟩,
  ⟨"HLK_COH_CFG", 0x300110010C, [(16, 0x10)], 4, true,
    [⟨0, 0, .rw, 0, true⟩, ⟨1, 1, .ro, 0, false⟩, ⟨31, 2, .rsv, 0, false⟩]⟩,
  ⟨"HLK_VEC_PEND", 0x3001100200, [], 8, false,
    [⟨63, 0, .w1c, 0, false⟩]⟩,
  ⟨"HLK_VEC_EN", 0x3001100208, [], 8, true,
    [⟨63, 0, .rw, 0, true⟩]⟩,
  ⟨"HLK_VEC_RAISE", 0x3001100210, [], 8, true,
    [⟨63, 0, .wo, 0, false⟩]⟩,
  ⟨"HLK_VEC_TGT", 0x3001100300, [(64, 0x4)], 4, true,
    [⟨3, 0, .rw, 0, true⟩, ⟨31, 4, .rsv, 0, false⟩]⟩]

def rowsHLK1 : List RegRow := [
  ⟨"HLK_SRC_VEC", 0x3001100400, [(8, 0x4)], 4, true,
    [⟨5, 0, .rw, 0x38, true⟩, ⟨31, 6, .rsv, 0, false⟩]⟩,
  ⟨"HLK_CNT_RETRY", 0x3001100800, [], 8, true,
    [⟨63, 0, .rc, 0, false⟩]⟩,
  ⟨"HLK_CNT_BADPKT", 0x3001100808, [], 8, true,
    [⟨63, 0, .rc, 0, false⟩]⟩,
  ⟨"HLK_CNT_TMO", 0x3001100810, [], 8, true,
    [⟨63, 0, .rc, 0, false⟩]⟩,
  ⟨"HLK_CNT_SNP", 0x3001100818, [], 8, true,
    [⟨63, 0, .rc, 0, false⟩]⟩,
  ⟨"HLK_CNT_SNPTMO", 0x3001100820, [], 8, true,
    [⟨63, 0, .rc, 0, false⟩]⟩,
  ⟨"HLK_CNT_LATE", 0x3001100828, [], 8, true,
    [⟨63, 0, .rc, 0, false⟩]⟩,
  ⟨"HLK_CNT_DIREVICT", 0x3001100830, [], 8, true,
    [⟨63, 0, .rc, 0, false⟩]⟩,
  ⟨"HLK_CNT_WBSTRAY", 0x3001100838, [], 8, true,
    [⟨63, 0, .rc, 0, false⟩]⟩,
  ⟨"HLK_CNT_HOSTLOST", 0x3001100840, [], 8, true,
    [⟨63, 0, .rc, 0, false⟩]⟩,
  ⟨"HLK_CNT_RAISE", 0x3001100848, [], 8, true,
    [⟨63, 0, .rc, 0, false⟩]⟩,
  ⟨"HLK_CNT_INT", 0x3001100850, [], 8, true,
    [⟨63, 0, .rc, 0, false⟩]⟩]

def rowsHLK : List RegRow := rowsHLK0 ++ rowsHLK1

def rowsHBM : List RegRow := [
  ⟨"HBM_ID", 0x3001200000, [(2, 0x1000)], 4, true,
    [⟨7, 0, .ro, 0x10, false⟩, ⟨12, 8, .ro, 0x10, false⟩, ⟨31, 13, .rsv, 0, false⟩]⟩,
  ⟨"HBM_STATUS", 0x3001200004, [(2, 0x1000)], 4, true,
    [⟨0, 0, .ro, 0, false⟩, ⟨1, 1, .ro, 0, false⟩, ⟨2, 2, .w1c, 0, false⟩, ⟨31, 3, .rsv, 0, false⟩]⟩,
  ⟨"HBM_TEMP", 0x3001200008, [(2, 0x1000)], 4, true,
    [⟨7, 0, .ro, 0, false⟩, ⟨31, 8, .rsv, 0, false⟩]⟩,
  ⟨"HBM_CNT_RD", 0x3001200010, [(2, 0x1000)], 8, true,
    [⟨63, 0, .rc, 0, false⟩]⟩,
  ⟨"HBM_CNT_WR", 0x3001200018, [(2, 0x1000)], 8, true,
    [⟨63, 0, .rc, 0, false⟩]⟩,
  ⟨"HBM_CNT_CORR", 0x3001200020, [(2, 0x1000)], 8, true,
    [⟨63, 0, .rc, 0, false⟩]⟩,
  ⟨"HBM_CNT_UNCORR", 0x3001200028, [(2, 0x1000)], 8, true,
    [⟨63, 0, .rc, 0, false⟩]⟩,
  ⟨"HBM_CNT_LINEERR", 0x3001200030, [(2, 0x1000)], 8, true,
    [⟨63, 0, .rc, 0, false⟩]⟩,
  ⟨"HBM_CNT_PARTIAL", 0x3001200038, [(2, 0x1000)], 8, true,
    [⟨63, 0, .rc, 0, false⟩]⟩,
  ⟨"HBM_SPARE", 0x3001200040, [(2, 0x1000)], 4, true,
    [⟨7, 0, .ro, 0, false⟩, ⟨23, 8, .ro, 0, false⟩, ⟨31, 24, .rsv, 0, false⟩]⟩]

def rowsMEM0 : List RegRow := [
  ⟨"MEM_CTRL", 0x3001300000, [], 4, true,
    [⟨0, 0, .rw, 0, true⟩, ⟨1, 1, .rw, 0x1, true⟩, ⟨7, 2, .rsv, 0, false⟩, ⟨15, 8, .rw, 0x3, true⟩, ⟨31, 16, .rw, 0x3E8, true⟩]⟩,
  ⟨"MEM_STATUS", 0x3001300004, [], 4, true,
    [⟨0, 0, .w1c, 0, false⟩, ⟨1, 1, .w1c, 0, false⟩, ⟨2, 2, .w1c, 0, false⟩, ⟨3, 3, .w1c, 0, false⟩, ⟨4, 4, .w1c, 0, false⟩, ⟨31, 5, .rsv, 0, false⟩]⟩,
  ⟨"MEM_LAST", 0x3001300008, [], 8, true,
    [⟨47, 0, .ro, 0, false⟩, ⟨50, 48, .ro, 0, false⟩, ⟨63, 51, .rsv, 0, false⟩]⟩,
  ⟨"MEM_LAST_INFO", 0x3001300010, [], 4, true,
    [⟨15, 0, .ro, 0, false⟩, ⟨16, 16, .ro, 0, false⟩, ⟨31, 17, .rsv, 0, false⟩]⟩,
  ⟨"MEM_LAST_TIME", 0x3001300018, [], 8, true,
    [⟨63, 0, .ro, 0, false⟩]⟩,
  ⟨"MEM_HARD_LAST", 0x3001300020, [], 8, true,
    [⟨47, 0, .ro, 0, false⟩, ⟨63, 48, .rsv, 0, false⟩]⟩,
  ⟨"MEM_PEND", 0x3001300028, [], 4, false,
    [⟨10, 0, .ro, 0, false⟩, ⟨31, 11, .rsv, 0, false⟩]⟩,
  ⟨"MEM_CNT_ERR", 0x3001300040, [], 8, true,
    [⟨63, 0, .rc, 0, false⟩]⟩,
  ⟨"MEM_CNT_REFETCH", 0x3001300048, [], 8, true,
    [⟨63, 0, .rc, 0, false⟩]⟩,
  ⟨"MEM_CNT_RECOMP", 0x3001300050, [], 8, true,
    [⟨63, 0, .rc, 0, false⟩]⟩,
  ⟨"MEM_CNT_POISON", 0x3001300058, [], 8, true,
    [⟨63, 0, .rc, 0, false⟩]⟩,
  ⟨"MEM_CNT_POISONREAD", 0x3001300060, [], 8, true,
    [⟨63, 0, .rc, 0, false⟩]⟩,
  ⟨"MEM_CNT_INFLIGHT", 0x3001300068, [], 8, true,
    [⟨63, 0, .rc, 0, false⟩]⟩,
  ⟨"MEM_CNT_PENDFULL", 0x3001300070, [], 8, true,
    [⟨63, 0, .rc, 0, false⟩]⟩]

def rowsMEM1 : List RegRow := [
  ⟨"MEM_CNT_UNWRITTEN", 0x3001300078, [], 8, true,
    [⟨63, 0, .rc, 0, false⟩]⟩,
  ⟨"MEM_CNT_HARD", 0x3001300080, [], 8, true,
    [⟨63, 0, .rc, 0, false⟩]⟩,
  ⟨"MEM_CNT_TEST", 0x3001300088, [], 8, true,
    [⟨63, 0, .rc, 0, false⟩]⟩,
  ⟨"MEM_RFW_DST", 0x3001301000, [(64, 0x20)], 8, true,
    [⟨5, 0, .rsv, 0, false⟩, ⟨47, 6, .rw, 0, true⟩, ⟨63, 48, .rsv, 0, false⟩]⟩,
  ⟨"MEM_RFW_SRC", 0x3001301008, [(64, 0x20)], 8, true,
    [⟨5, 0, .rsv, 0, false⟩, ⟨47, 6, .rw, 0, true⟩, ⟨63, 48, .rsv, 0, false⟩]⟩,
  ⟨"MEM_RFW_LEN", 0x3001301010, [(64, 0x20)], 4, true,
    [⟨31, 0, .rw, 0, true⟩]⟩,
  ⟨"MEM_RFW_CFG", 0x3001301014, [(64, 0x20)], 4, true,
    [⟨0, 0, .rw, 0, true⟩, ⟨31, 1, .rsv, 0, false⟩]⟩,
  ⟨"MEM_TEST_CTRL", 0x3001302000, [], 4, true,
    [⟨0, 0, .rw, 0, false⟩, ⟨31, 1, .rsv, 0, false⟩]⟩,
  ⟨"MEM_TEST_BASE", 0x3001302008, [], 8, true,
    [⟨5, 0, .rsv, 0, false⟩, ⟨47, 6, .rw, 0, false⟩, ⟨63, 48, .rsv, 0, false⟩]⟩,
  ⟨"MEM_TEST_LEN", 0x3001302010, [], 4, true,
    [⟨31, 0, .rw, 0, false⟩]⟩,
  ⟨"MEM_TEST_ADDR", 0x3001302018, [], 8, true,
    [⟨5, 0, .rsv, 0, false⟩, ⟨47, 6, .rw, 0, false⟩, ⟨63, 48, .rsv, 0, false⟩]⟩,
  ⟨"MEM_TEST_OP", 0x3001302020, [], 4, true,
    [⟨1, 0, .wo, 0, false⟩, ⟨31, 2, .rsv, 0, false⟩]⟩,
  ⟨"MEM_TEST_STAT", 0x3001302024, [], 4, true,
    [⟨0, 0, .ro, 0, false⟩, ⟨1, 1, .w1c, 0, false⟩, ⟨31, 2, .rsv, 0, false⟩]⟩,
  ⟨"MEM_TEST_CHK", 0x3001302028, [], 4, true,
    [⟨15, 0, .rw, 0, false⟩, ⟨31, 16, .ro, 0, false⟩]⟩]

def rowsMEM2 : List RegRow := [
  ⟨"MEM_TEST_DATA", 0x3001302040, [(16, 0x4)], 4, true,
    [⟨31, 0, .rw, 0, false⟩]⟩]

def rowsMEM : List RegRow := rowsMEM0 ++ rowsMEM1 ++ rowsMEM2

def rowsMAC0 : List RegRow := [
  ⟨"MACG_CTRL", 0x3002000000, [(12, 0x100000)], 4, true,
    [⟨2, 0, .stg, 0, true⟩, ⟨3, 3, .stg, 0, true⟩, ⟨31, 4, .rsv, 0, false⟩]⟩,
  ⟨"MACG_STATUS", 0x3002000004, [(12, 0x100000)], 4, true,
    [⟨0, 0, .w1c, 0, false⟩, ⟨1, 1, .w1c, 0, false⟩, ⟨2, 2, .w1c, 0, false⟩, ⟨3, 3, .w1c, 0, false⟩, ⟨4, 4, .w1c, 0, false⟩, ⟨31, 5, .rsv, 0, false⟩]⟩,
  ⟨"MACG_LANE", 0x3002000008, [(12, 0x100000)], 4, true,
    [⟨7, 0, .stg, 0, true⟩, ⟨15, 8, .stg, 0, true⟩, ⟨31, 16, .rsv, 0, false⟩]⟩,
  ⟨"MAC_CFG", 0x3002000010, [(12, 0x100000), (4, 0x4)], 4, true,
    [⟨0, 0, .stg, 0, true⟩, ⟨2, 1, .stg, 0x1, true⟩, ⟨4, 3, .stg, 0x3, true⟩, ⟨18, 5, .stg, 0x2580, true⟩, ⟨19, 19, .stg, 0, true⟩, ⟨27, 20, .stg, 0x10, true⟩, ⟨31, 28, .rsv, 0, false⟩]⟩,
  ⟨"MAC_LINK", 0x3002000040, [(12, 0x100000), (4, 0x4)], 4, true,
    [⟨0, 0, .ro, 0, false⟩, ⟨1, 1, .ro, 0, false⟩, ⟨2, 2, .ro, 0, false⟩, ⟨3, 3, .w1c, 0, false⟩, ⟨31, 4, .rsv, 0, false⟩]⟩,
  ⟨"MAC_DEFQ", 0x3002000050, [(12, 0x100000), (4, 0x4)], 4, true,
    [⟨19, 0, .stg, 0, true⟩, ⟨25, 20, .stg, 0, true⟩, ⟨31, 26, .rsv, 0, false⟩]⟩,
  ⟨"MAC_WIN_TIM", 0x3002000200, [(12, 0x100000), (16, 0x8)], 4, true,
    [⟨15, 0, .stg, 0, true⟩, ⟨31, 16, .stg, 0, true⟩]⟩,
  ⟨"MAC_WIN_CFG", 0x3002000204, [(12, 0x100000), (16, 0x8)], 4, true,
    [⟨1, 0, .stg, 0x1, true⟩, ⟨2, 2, .stg, 0, true⟩, ⟨31, 3, .rsv, 0, false⟩]⟩,
  ⟨"MAC_BR_BASE", 0x3002000400, [(12, 0x100000), (64, 0x20)], 8, true,
    [⟨5, 0, .rsv, 0, false⟩, ⟨47, 6, .rw, 0, true⟩, ⟨63, 48, .rsv, 0, false⟩]⟩,
  ⟨"MAC_BR_CFG", 0x3002000408, [(12, 0x100000), (64, 0x20)], 4, true,
    [⟨0, 0, .rw, 0, true⟩, ⟨5, 1, .rw, 0x3, true⟩, ⟨13, 6, .rw, 0, true⟩, ⟨31, 14, .rsv, 0, false⟩]⟩,
  ⟨"MAC_BR_PROD", 0x300200040C, [(12, 0x100000), (64, 0x20)], 4, true,
    [⟨16, 0, .rw, 0, false⟩, ⟨31, 17, .rsv, 0, false⟩]⟩,
  ⟨"MAC_BR_CONS", 0x3002000410, [(12, 0x100000), (64, 0x20)], 4, false,
    [⟨16, 0, .ro, 0, false⟩, ⟨31, 17, .rsv, 0, false⟩]⟩,
  ⟨"MAC_TXLATE", 0x3002000070, [(12, 0x100000), (4, 0x4)], 4, true,
    [⟨23, 0, .stg, 0x1F, true⟩, ⟨31, 24, .rsv, 0, false⟩]⟩,
  ⟨"MAC_TXERR", 0x3002000080, [(12, 0x100000), (4, 0x8)], 8, true,
    [⟨7, 0, .ro, 0, false⟩, ⟨21, 8, .ro, 0, false⟩, ⟨31, 22, .rsv, 0, false⟩, ⟨47, 32, .ro, 0, false⟩, ⟨63, 48, .rsv, 0, false⟩]⟩]

def rowsMAC1 : List RegRow := [
  ⟨"MAC_PTP_DLY", 0x3002000060, [(12, 0x100000), (4, 0x4)], 4, true,
    [⟨15, 0, .rw, 0, true⟩, ⟨31, 16, .rw, 0, true⟩]⟩,
  ⟨"MAC_TXTS", 0x30020000A0, [(12, 0x100000), (4, 0x10)], 8, false,
    [⟨63, 0, .ro, 0, false⟩]⟩,
  ⟨"MAC_TXTS_INFO", 0x30020000A8, [(12, 0x100000), (4, 0x10)], 4, false,
    [⟨15, 0, .ro, 0, false⟩, ⟨16, 16, .ro, 0, false⟩, ⟨21, 17, .ro, 0, false⟩, ⟨31, 22, .rsv, 0, false⟩]⟩,
  ⟨"MAC_TXTS_POP", 0x30020000AC, [(12, 0x100000), (4, 0x10)], 4, true,
    [⟨0, 0, .wo, 0, false⟩, ⟨31, 1, .rsv, 0, false⟩]⟩,
  ⟨"MAC_SYNCE", 0x30020C1000, [(2, 0x4)], 4, true,
    [⟨5, 0, .rw, 0, true⟩, ⟨6, 6, .rw, 0, true⟩, ⟨7, 7, .rw, 0x1, true⟩, ⟨9, 8, .rw, 0, true⟩, ⟨31, 10, .rsv, 0, false⟩]⟩,
  ⟨"MAC_RX_FRAMES", 0x3002030000, [(12, 0x100000), (4, 0x200)], 8, true,
    [⟨63, 0, .rc, 0, false⟩]⟩,
  ⟨"MAC_RX_BYTES", 0x3002030008, [(12, 0x100000), (4, 0x200)], 8, true,
    [⟨63, 0, .rc, 0, false⟩]⟩,
  ⟨"MAC_RX_RUNT", 0x3002030010, [(12, 0x100000), (4, 0x200)], 8, true,
    [⟨63, 0, .rc, 0, false⟩]⟩,
  ⟨"MAC_RX_OVERSIZE", 0x3002030018, [(12, 0x100000), (4, 0x200)], 8, true,
    [⟨63, 0, .rc, 0, false⟩]⟩,
  ⟨"MAC_RX_FCS", 0x3002030020, [(12, 0x100000), (4, 0x200)], 8, true,
    [⟨63, 0, .rc, 0, false⟩]⟩,
  ⟨"MAC_RX_CTRL", 0x3002030028, [(12, 0x100000), (4, 0x200)], 8, true,
    [⟨63, 0, .rc, 0, false⟩]⟩,
  ⟨"MAC_RX_FIFO", 0x3002030030, [(12, 0x100000), (4, 0x200)], 8, true,
    [⟨63, 0, .rc, 0, false⟩]⟩,
  ⟨"MAC_RX_MISS", 0x3002030038, [(12, 0x100000), (4, 0x200)], 8, true,
    [⟨63, 0, .rc, 0, false⟩]⟩,
  ⟨"MAC_RX_BADQ", 0x3002030040, [(12, 0x100000), (4, 0x200)], 8, true,
    [⟨63, 0, .rc, 0, false⟩]⟩]

def rowsMAC2 : List RegRow := [
  ⟨"MAC_RX_WINDROP", 0x3002030048, [(12, 0x100000), (4, 0x200)], 8, true,
    [⟨63, 0, .rc, 0, false⟩]⟩,
  ⟨"MAC_RX_NOBUF", 0x3002030050, [(12, 0x100000), (4, 0x200)], 8, true,
    [⟨63, 0, .rc, 0, false⟩]⟩,
  ⟨"MAC_RX_INCOMPLETE", 0x3002030058, [(12, 0x100000), (4, 0x200)], 8, true,
    [⟨63, 0, .rc, 0, false⟩]⟩,
  ⟨"MAC_RX_BADHDR", 0x3002030060, [(12, 0x100000), (4, 0x200)], 8, true,
    [⟨63, 0, .rc, 0, false⟩]⟩,
  ⟨"MAC_RX_BADBUF", 0x3002030068, [(12, 0x100000), (4, 0x200)], 8, true,
    [⟨63, 0, .rc, 0, false⟩]⟩,
  ⟨"MAC_TX_FRAMES", 0x3002030070, [(12, 0x100000), (4, 0x200)], 8, true,
    [⟨63, 0, .rc, 0, false⟩]⟩,
  ⟨"MAC_TX_BYTES", 0x3002030078, [(12, 0x100000), (4, 0x200)], 8, true,
    [⟨63, 0, .rc, 0, false⟩]⟩,
  ⟨"MAC_TX_PAD", 0x3002030080, [(12, 0x100000), (4, 0x200)], 8, true,
    [⟨63, 0, .rc, 0, false⟩]⟩,
  ⟨"MAC_TX_DESCERR", 0x3002030088, [(12, 0x100000), (4, 0x200)], 8, true,
    [⟨63, 0, .rc, 0, false⟩]⟩,
  ⟨"MAC_TX_LATE", 0x3002030090, [(12, 0x100000), (4, 0x200)], 8, true,
    [⟨63, 0, .rc, 0, false⟩]⟩,
  ⟨"MAC_TX_TSOVF", 0x3002030098, [(12, 0x100000), (4, 0x200)], 8, true,
    [⟨63, 0, .rc, 0, false⟩]⟩,
  ⟨"MAC_FEC_CORR", 0x30020300A0, [(12, 0x100000), (4, 0x200)], 8, true,
    [⟨63, 0, .rc, 0, false⟩]⟩,
  ⟨"MAC_FEC_UNCORR", 0x30020300A8, [(12, 0x100000), (4, 0x200)], 8, true,
    [⟨63, 0, .rc, 0, false⟩]⟩,
  ⟨"MAC_LINK_DOWN", 0x30020300B0, [(12, 0x100000), (4, 0x200)], 8, true,
    [⟨63, 0, .rc, 0, false⟩]⟩]

def rowsMAC3 : List RegRow := [
  ⟨"MAC_WIN_ONTIME", 0x3002031000, [(12, 0x100000), (16, 0x20)], 8, true,
    [⟨63, 0, .rc, 0, false⟩]⟩,
  ⟨"MAC_WIN_EARLY", 0x3002031008, [(12, 0x100000), (16, 0x20)], 8, true,
    [⟨63, 0, .rc, 0, false⟩]⟩,
  ⟨"MAC_WIN_LATE", 0x3002031010, [(12, 0x100000), (16, 0x20)], 8, true,
    [⟨63, 0, .rc, 0, false⟩]⟩,
  ⟨"MAC_LISTEN_PORTS", 0x30020C0000, [], 8, true,
    [⟨47, 0, .rw, 0, true⟩, ⟨63, 48, .rsv, 0, false⟩]⟩,
  ⟨"MAC_LISTEN_CFG", 0x30020C0008, [], 4, true,
    [⟨3, 0, .rw, 0, true⟩, ⟨31, 4, .rsv, 0, false⟩]⟩,
  ⟨"MAC_WAKE_STATUS", 0x30020C000C, [], 4, true,
    [⟨0, 0, .w1c, 0, false⟩, ⟨1, 1, .w1c, 0, false⟩, ⟨7, 2, .ro, 0, false⟩, ⟨9, 8, .ro, 0, false⟩, ⟨31, 10, .rsv, 0, false⟩]⟩,
  ⟨"MAC_WAKE_TIME", 0x30020C0010, [], 8, true,
    [⟨63, 0, .ro, 0, false⟩]⟩,
  ⟨"MAC_WAKE_FRAME", 0x30020C0100, [(32, 0x4)], 4, true,
    [⟨31, 0, .ro, 0, false⟩]⟩,
  ⟨"MAC_WAKE_PAT", 0x30020C0400, [(4, 0x100), (32, 0x4)], 4, true,
    [⟨31, 0, .rw, 0, true⟩]⟩,
  ⟨"MAC_WAKE_MASK", 0x30020C0480, [(4, 0x100), (32, 0x4)], 4, true,
    [⟨31, 0, .rw, 0, true⟩]⟩,
  ⟨"MAC_FLOW", 0x3002010000, [(12, 0x100000), (2, 0x10000), (16384, 0x4)], 4, false,
    [⟨31, 0, .rw, 0, true⟩]⟩]

def rowsMAC : List RegRow := rowsMAC0 ++ rowsMAC1 ++ rowsMAC2 ++ rowsMAC3

def rowsCLU0 : List RegRow := [
  ⟨"CCR_ID", 0x3004010000, [(32, 0x100000), (8, 0x1000)], 4, true,
    [⟨2, 0, .ro, 0, false⟩, ⟨7, 3, .ro, 0, false⟩, ⟨11, 8, .ro, 0, false⟩, ⟨31, 12, .rsv, 0, false⟩]⟩,
  ⟨"CCR_STATE", 0x3004010004, [(32, 0x100000), (8, 0x1000)], 4, true,
    [⟨1, 0, .ro, 0, false⟩, ⟨2, 2, .rw, 0, false⟩, ⟨3, 3, .rw, 0x1, false⟩, ⟨4, 4, .ro, 0, false⟩, ⟨31, 5, .rsv, 0, false⟩]⟩,
  ⟨"CCR_VBASE", 0x3004010008, [(32, 0x100000), (8, 0x1000)], 4, true,
    [⟨11, 0, .rsv, 0, false⟩, ⟨31, 12, .rw, 0, false⟩]⟩,
  ⟨"CCR_IRQ_PEND", 0x3004010010, [(32, 0x100000), (8, 0x1000)], 4, true,
    [⟨31, 0, .w1c, 0, false⟩]⟩,
  ⟨"CCR_IRQ_EN", 0x3004010014, [(32, 0x100000), (8, 0x1000)], 4, true,
    [⟨1, 0, .ro, 0x3, false⟩, ⟨31, 2, .rw, 0, false⟩]⟩,
  ⟨"CCR_IRQ_LVL", 0x3004010018, [(32, 0x100000), (8, 0x1000)], 4, true,
    [⟨1, 0, .ro, 0x3, false⟩, ⟨31, 2, .rw, 0, false⟩]⟩,
  ⟨"CCR_IRQ_RAISE", 0x300401001C, [(32, 0x100000), (8, 0x1000)], 4, true,
    [⟨7, 0, .rsv, 0, false⟩, ⟨23, 8, .wo, 0, false⟩, ⟨31, 24, .rsv, 0, false⟩]⟩,
  ⟨"CCR_EPC", 0x3004010020, [(32, 0x100000), (8, 0x1000), (2, 0x10)], 4, true,
    [⟨31, 0, .rw, 0, false⟩]⟩,
  ⟨"CCR_EST", 0x3004010024, [(32, 0x100000), (8, 0x1000), (2, 0x10)], 4, true,
    [⟨1, 0, .rw, 0, false⟩, ⟨2, 2, .rw, 0, false⟩, ⟨3, 3, .rw, 0, false⟩, ⟨5, 4, .rw, 0, false⟩, ⟨6, 6, .rw, 0, false⟩, ⟨31, 7, .rsv, 0, false⟩]⟩,
  ⟨"CCR_EBT", 0x3004010028, [(32, 0x100000), (8, 0x1000), (2, 0x10)], 4, true,
    [⟨31, 0, .rw, 0, false⟩]⟩,
  ⟨"CCR_ECAUSE", 0x300401002C, [(32, 0x100000), (8, 0x1000), (2, 0x10)], 4, true,
    [⟨7, 0, .ro, 0, false⟩, ⟨12, 8, .ro, 0, false⟩, ⟨14, 13, .ro, 0, false⟩, ⟨15, 15, .ro, 0, false⟩, ⟨21, 16, .ro, 0, false⟩, ⟨22, 22, .ro, 0, false⟩, ⟨23, 23, .rsv, 0, false⟩, ⟨31, 24, .ro, 0, false⟩]⟩,
  ⟨"CCR_EADDR", 0x3004010040, [(32, 0x100000), (8, 0x1000)], 4, true,
    [⟨31, 0, .ro, 0, false⟩]⟩,
  ⟨"CCR_EDADDR", 0x3004010048, [(32, 0x100000), (8, 0x1000)], 8, true,
    [⟨47, 0, .ro, 0, false⟩, ⟨63, 48, .rsv, 0, false⟩]⟩,
  ⟨"CCR_WIN", 0x3004010050, [(32, 0x100000), (8, 0x1000), (2, 0x4)], 4, true,
    [⟨19, 0, .rw, 0, false⟩, ⟨27, 20, .rsv, 0, false⟩, ⟨29, 28, .rw, 0, false⟩, ⟨30, 30, .rsv, 0, false⟩, ⟨31, 31, .rw, 0, false⟩]⟩]

def rowsCLU1 : List RegRow := [
  ⟨"CCR_RMT", 0x3004010058, [(32, 0x100000), (8, 0x1000)], 4, false,
    [⟨3, 0, .ro, 0, false⟩, ⟨8, 4, .ro, 0, false⟩, ⟨31, 9, .rsv, 0, false⟩]⟩,
  ⟨"CCR_CYCLES", 0x3004010060, [(32, 0x100000), (8, 0x1000)], 8, true,
    [⟨63, 0, .ro, 0, false⟩]⟩,
  ⟨"CCR_BUNDLES", 0x3004010068, [(32, 0x100000), (8, 0x1000)], 8, true,
    [⟨63, 0, .ro, 0, false⟩]⟩,
  ⟨"CCR_STALLS", 0x3004010070, [(32, 0x100000), (8, 0x1000)], 8, true,
    [⟨63, 0, .ro, 0, false⟩]⟩,
  ⟨"CCR_DMA_D", 0x3004010100, [(32, 0x100000), (8, 0x1000), (8, 0x4)], 4, false,
    [⟨31, 0, .rw, 0, false⟩]⟩,
  ⟨"CCR_DMA_GO", 0x3004010120, [(32, 0x100000), (8, 0x1000)], 8, false,
    [⟨23, 0, .wo, 0, false⟩, ⟨31, 24, .rsv, 0, false⟩, ⟨47, 32, .wo, 0, false⟩, ⟨63, 48, .rsv, 0, false⟩]⟩,
  ⟨"CCR_DMA_STAT", 0x3004010128, [(32, 0x100000), (8, 0x1000)], 4, false,
    [⟨4, 0, .ro, 0, false⟩, ⟨5, 5, .ro, 0, false⟩, ⟨6, 6, .w1c, 0, false⟩, ⟨15, 7, .rsv, 0, false⟩, ⟨31, 16, .ro, 0, false⟩]⟩,
  ⟨"CCR_DMA_CTL", 0x300401012C, [(32, 0x100000), (8, 0x1000)], 4, false,
    [⟨0, 0, .wo, 0, false⟩, ⟨31, 1, .rsv, 0, false⟩]⟩,
  ⟨"CCR_DMA_LAST", 0x3004010130, [(32, 0x100000), (8, 0x1000)], 8, false,
    [⟨15, 0, .ro, 0, false⟩, ⟨23, 16, .ro, 0, false⟩, ⟨31, 24, .rsv, 0, false⟩, ⟨63, 32, .ro, 0, false⟩]⟩,
  ⟨"CCR_DMA_ERRADDR", 0x3004010138, [(32, 0x100000), (8, 0x1000)], 8, false,
    [⟨47, 0, .ro, 0, false⟩, ⟨63, 48, .rsv, 0, false⟩]⟩,
  ⟨"CLU_MAP", 0x3004000000, [(32, 0x100000)], 4, true,
    [⟨31, 0, .ro, 0x76543210, false⟩]⟩,
  ⟨"CLU_CNT_DMA_XFER", 0x3004000008, [(32, 0x100000)], 8, true,
    [⟨63, 0, .rc, 0, false⟩]⟩,
  ⟨"CLU_CNT_DMA_BYTES", 0x3004000010, [(32, 0x100000)], 8, true,
    [⟨63, 0, .rc, 0, false⟩]⟩,
  ⟨"CLU_CNT_DMA_ERR", 0x3004000018, [(32, 0x100000)], 8, true,
    [⟨63, 0, .rc, 0, false⟩]⟩]

def rowsCLU2 : List RegRow := [
  ⟨"CLU_CNT_DMA_POISON", 0x3004000020, [(32, 0x100000)], 8, true,
    [⟨63, 0, .rc, 0, false⟩]⟩,
  ⟨"CLU_CNT_DMA_REF", 0x3004000028, [(32, 0x100000)], 8, true,
    [⟨63, 0, .rc, 0, false⟩]⟩]

def rowsCLU : List RegRow := rowsCLU0 ++ rowsCLU1 ++ rowsCLU2

end Sys2Proof.Machine
end

