-- ==== Sys2Proof/Machine/State.lean ====
section
/-! DEFINITION. The state of the part as plain data: every register word, memory byte, buffer, queue, counter, mode and
pin of the spec, the commands that wait (first in, first out), and the reasons a step can stop. Control registers
that the tables of the spec name are held once, by die address, in `Dev.regs`; the structures here hold what lies
beside them. Sparse maps list only what differs from its default. -/

namespace Sys2Proof.Machine

/-! ## Kinds and identities -/

/-- The ordering grade (R3 to R7). -/
inductive Grade where
  | af | am
  deriving DecidableEq, Repr

/-! ## Air time, commit and snapshot (file 02) -/

/-- One timing output (n = 0 to 7) or PPS_OUT (key 8): its level, the end of a pulse under way with old values, and
the air time before which no rising edge of the new values counts (R48). -/
structure TOut where
  level : Bool
  holdEnd : Option Nat
  notBefore : Nat
  deriving DecidableEq, Repr

/-- A snapshot request: its boundary, whether it names it (MODE = AT), and the CLR of the request made through
AIR_SNAP_REQ and of the one made with a commit (R58, R59, R61). -/
structure SnapReq where
  b : Nat
  isAt : Bool
  own : Option Bool
  com : Option Bool
  deriving DecidableEq, Repr

/-- A commit request that waits behind an armed one (R57). -/
structure ComReq where
  b : Nat
  isAt : Bool
  persist : Bool
  deriving DecidableEq, Repr

/-- The AIR block beside its registers. -/
structure Air where
  /-- The air-time counter (R39). -/
  now : Nat
  /-- The phase still to be corrected, signed Tc (R45). -/
  phase : Int
  /-- MAC ports whose recovered clock is present, and whether PPS_IN is (R44). -/
  synce : List Nat
  ppsPresent : Bool
  /-- A step that waits for an armed boundary (R47). -/
  pendStep : Option Int
  /-- The pending or armed commit: made with MODE = AT, and PERSIST (R54, R56). -/
  comAt : Bool
  comPersist : Bool
  comQueued : Option ComReq
  /-- Domains whose checks failed at the arming point (R54 step 3, R65). -/
  armFail : List Nat
  /-- After step 3: whether the commit proceeds; and whether step 4 has been done. -/
  decided : Option Bool
  applied : Bool
  /-- The pending or armed snapshot, whether it has been taken, and one queued behind it. -/
  sn : SnapReq
  snTaken : Bool
  snQueued : Option SnapReq
  tout : Map TOut
  deriving DecidableEq, Repr

/-! ## Tansy (file 07) -/

/-- The states of a work-item slot (R177), in the order of their codes. -/
inductive SlotSt where
  | free | delayed | blocked | waiting | ready | held | running | retained
  deriving DecidableEq, Repr

/-- A work-item descriptor (R178). -/
structure Desc where
  entry : Nat
  prio : Nat
  pool : Nat
  lin : Bool
  runfail : Bool
  wait : Bool
  rel : Bool
  dl : Bool
  dep : Nat
  id : Nat
  gen : Nat
  ncons : Nat
  argi : Nat
  arg : Nat
  release : Nat
  deadline : Nat
  event : Nat
  target : Nat
  tmo : Nat
  cq : Nat
  cqEn : Bool
  succ0 : Nat
  s0en : Bool
  succ1 : Nat
  s1en : Bool
  outlen : Nat
  outbase : Nat
  /-- Every field marked "Must be 0" is 0. -/
  zerosOk : Bool
  deriving DecidableEq, Repr

/-- One slot of the work-item table with its lineage entry (R176 to R204). -/
structure Slot where
  gen : Nat
  st : SlotSt
  d : Desc
  /-- Signals still needed, or the pre-count of a FREE slot (R184, R185). -/
  dep : Nat
  preFail : Bool
  released : Bool
  /-- Full release and deadline ticks (R180), and the air time at which the wait times out (R186). -/
  relTick : Nat
  dlTick : Nat
  tmoAt : Option Nat
  waitDone : Bool
  timeout : Bool
  failedIn : Bool
  late : Bool
  rerun : Bool
  runs : Nat
  lastStat : Nat
  reruns : Nat
  runTicks : Nat
  consDone : Nat
  /-- Submission order and the order in which items became READY (R182, R188). -/
  seq : Nat
  readySeq : Nat
  core : Nat
  dispAt : Nat
  /-- Air time at which DEADLINE was raised (R196, R197). -/
  dlRaised : Option Nat
  /-- A re-run of this RETAINED item is pending or running, with its deadline D_r (R202). -/
  rc : Bool
  rcDl : Option Nat
  /-- A recompute of one of its inputs was too late while it ran (R204). -/
  rcLate : Bool
  /-- Made READY once more after its core was lost (R198). -/
  lostRerun : Bool
  /-- The item has completed, and its successors are signalled. -/
  completed : Bool
  deriving DecidableEq, Repr

/-- Tansy's view of a logical core (R188, R198, R205). -/
structure TCore where
  /-- 0 IDLE, 1 RUNNING, 2 HALTED, 3 OUT. DRAINED is shown when IDLE with DRAIN = 1. -/
  st : Nat
  item : Nat
  /-- Air time at which the halt hold ends. -/
  holdEnd : Nat
  deriving DecidableEq, Repr

/-- A report of a core or of the integrity unit that has not reached Tansy yet. -/
inductive Report where
  | done (core status : Nat)
  | lineage (line : Nat) (scrub : Bool)
  deriving DecidableEq, Repr

/-- Tansy beside its registers. -/
structure Tsy where
  slots : Map Slot
  cores : Map TCore
  reports : List Report
  seq : Nat
  readySeq : Nat
  /-- The queue index after which the rotation over WORK queues goes on (R218). -/
  rot : Nat
  deriving DecidableEq, Repr

/-! ## Queues (file 08) -/

/-- A slot of a ring from HEAD onward. -/
inductive QSlot where
  | rsv (who : Who) (at_ : Nat)
  | pub
  | void
  deriving DecidableEq, Repr

/-- A queue: 0 DISABLED, 1 ACTIVE, 2 DRAINING; its indices, generation, slots from HEAD to TAIL, the entries made
visible whose notification is still owed (R220), and whether each reservation was asked (R207 to R216). -/
structure Queue where
  st : Nat
  gen : Nat
  head : Nat
  slots : List QSlot
  owed : Nat
  deriving DecidableEq, Repr

/-- A message between units that has been sent and has not arrived: a signal to an item, an event raise, a record to
a queue, an interrupt to a core (R184, R186, R214, R356). -/
inductive Note where
  | signal (item count : Nat) (failed : Bool)
  | event (e count : Nat)
  | record (handle : Nat) (data : List Byte)
  | irq (core source : Nat)
  deriving DecidableEq, Repr

/-! ## Fabric (file 13) -/

/-- A return-to-service test: KIND, ID, the age count at which its test traffic began, and whether a replay occurred. -/
structure RtsTest where
  kind : Nat
  id : Nat
  since : Nat
  bad : Bool
  deriving DecidableEq, Repr

/-- The fabric and FAB beside its registers (R362 to R375). -/
structure Fab where
  /-- The age count (R369). -/
  age : Nat
  flight : List Pkt
  /-- Requests that have no answer yet (R370). -/
  outst : List Pkt
  /-- Packets held in wake buffers, and packets that circulate, by power domain (R372, R375). -/
  heldPk : List (Nat × Pkt)
  circ : List (Nat × Pkt)
  /-- 0 no epoch change, 1 tables being written, 2 FLIP sent (R366). -/
  step : Nat
  /-- Stops that hold the tables of the other epoch, and stops that have taken FLIP, as bit masks. -/
  tables : Nat
  flipped : Nat
  nextTag : Nat
  /-- Segments, ports and links under return-to-service test (R368). -/
  rts : List RtsTest
  /-- Replays of each link (KIND × 128 + ID) in the present 1 ms window, and when the window began. -/
  replays : Map Nat
  winAt : Nat
  deriving DecidableEq, Repr

/-! ## Memory integrity and Teasel (file 14) -/

/-- A line of the recompute table: its producer's slot and the bytes written since (R388). -/
structure RecLine where
  line : Nat
  prod : Nat
  got : Nat
  deriving DecidableEq, Repr

/-- A refetch under way (R386). -/
structure Refetch where
  dst : Nat
  src : Nat
  scrub : Bool
  syn : Nat
  /-- Partial writes that wait to be merged into the refetched line, in order (R391): bytes and mask of each. -/
  waits : List (List Byte × List Bool)
  deriving DecidableEq, Repr

/-- A remembered failing line: failures in the running span, and the air time of the last (R393). -/
structure FailRec where
  line : Nat
  count : Nat
  last : Nat
  deriving DecidableEq, Repr

/-- A Teasel pass (R394, R395). -/
structure Pass where
  running : Bool
  stop : Nat
  mode : Nat
  skipped : Nat
  lines : Nat
  errors : Nat
  refetch : Nat
  recomp : Nat
  poisoned : Nat
  foundPoison : Nat
  unrepaired : Nat
  first : Nat
  last : Nat
  abort : Bool
  deriving DecidableEq, Repr

/-- The integrity unit beside its registers. -/
structure Integ where
  recs : List RecLine
  refs : List Refetch
  hist : List FailRec
  pass : Pass
  /-- The test operation under way (1, 2 or 3, 4 once it has acted, 0 none) and its line (R396). -/
  testOp : Nat
  testAddr : Nat
  /-- HBM lines that the stack reports uncorrectable (R379). -/
  uncorr : List Nat
  /-- HBM lines with an error that the stack corrects (R379). -/
  correctable : List Nat
  deriving DecidableEq, Repr

/-! ## Glesen core (files 03 to 06) -/

/-- One hardware loop of a bank beside its count (R132). -/
structure Lp where
  start : Nat
  stop : Nat
  active : Bool
  rot : Bool
  drn : Nat
  deriving DecidableEq, Repr

/-- The banked registers: `gp` holds s, a, m parts, p, lc and rrb under the register codes of R113 (physical), `acc`
the accumulators 0 to 7 (R77). -/
structure Bank where
  gp : Map Word
  acc : Map (BitVec 40)
  lp0 : Lp
  lp1 : Lp
  /-- Bundles issued by this context (R70). -/
  count : Nat
  deriving DecidableEq, Repr

/-- A result in flight: the bank it was issued from, its physical register code, value, the bundle count of that
bank for which it lands, the count at which it was issued, and whether an M-MAC or M-FIR instruction made it. Of a
vector register only the bits of `mask` are written (R140, R141). -/
structure Inflight where
  bank : Nat
  code : Nat
  val : Nat
  mask : Nat
  land : Nat
  born : Nat
  mac : Bool
  deriving DecidableEq, Repr

/-- A fault: code (R97), slot, ELEM, EADDR, and for deferred ones the context, DREG, EDADDR and ST (R98, R100). -/
structure Flt where
  code : Nat
  slot : Nat
  elem : Nat
  eaddr : Nat
  ctx : Nat
  dreg : Nat
  edaddr : Nat
  st : Bool
  deriving DecidableEq, Repr

/-- A store of the bundle in progress: local address, bytes, and whether the V slot makes it (R80). -/
structure PSt where
  addr : Nat
  data : List Byte
  vslot : Bool
  deriving DecidableEq, Repr

/-- A remote access of the bundle in progress (R83 to R85): load kind and destination register code, or a store. -/
structure Rmt where
  tag : Nat
  addr : Nat
  bytes : Nat
  /-- The load kind: which register form and extension (0 b, 1 bu, 2 h, 3 hu, 4 w, 5 d, 6 q, 7 a, 8 acc, 9 m). -/
  kind : Nat
  /-- Physical codes of the destinations, the lowest logical code, and the bank (empty for a store). -/
  dests : List Nat
  dreg : Nat
  bank : Nat
  isSt : Bool
  data : List Byte
  prio : Nat
  deriving DecidableEq, Repr

/-- A store to a core control register on its way (A-CCR, R72, R103). -/
structure CcrSt where
  bank : Nat
  land : Nat
  off : Nat
  val : Nat
  bytes : Nat
  deriving DecidableEq, Repr

/-- What an entry of the bit coprocessor holds: an ARG write, a command, or an `mtc` write (R170, R171). -/
inductive BcpEntry where
  | arg (i val : Nat)
  | cmd (w : Nat)
  deriving DecidableEq, Repr

/-- A committed BCP command with the ARG values it takes, and the context that issued it (R159). -/
structure BcpCmd where
  w : Nat
  arg0 : Nat
  arg1 : Nat
  arg2 : Nat
  arg3 : Nat
  ctx : Nat
  /-- Begun: its results wait for completion. -/
  begun : Bool
  /-- Register results (c index, value) written at completion. -/
  res : List (Nat × Nat)
  /-- An error that it met: code (0 none) and EADDR. -/
  err : Nat
  eaddr : Nat
  /-- CPRST: ARG and error values to restore at completion: ARG0 to ARG3, ERR, ERRCMD. -/
  rst : Option (List Nat)
  /-- An `mtc` of its own bundle that waits for it (R170): c index and value. -/
  mtc : List (Nat × Nat)
  deriving DecidableEq, Repr

/-- The bit coprocessor beside c0 to c15. -/
structure Bcp where
  arg0 : Word
  arg1 : Word
  arg2 : Word
  arg3 : BitVec 16
  err : BitVec 8
  errcmd : BitVec 8
  done : BitVec 8
  queue : List BcpCmd
  deriving DecidableEq, Repr

/-- A read of local data that the bundle in progress makes when it commits. -/
inductive MemOp where
  /-- A scalar load: address, load kind, physical destinations and the lowest logical code. -/
  | load (addr kind : Nat) (dests : List Nat) (dreg : Nat)
  /-- A filter tap: address, ACD, MODE, FRAC, AS (R128). -/
  | fir (addr acd mode : Nat) (frac sat : Bool)
  /-- A vector load: element size, the elements with their addresses, the physical registers of the group, VT, latency,
  the value for `vff`, and the base register's update (R151, R155, R156). -/
  | vload (size : Nat) (els : List (Nat × Nat)) (regs : List Nat) (vt lat : Nat) (ff : Option Nat)
      (upd : Option (Nat × Nat))
  deriving DecidableEq, Repr

/-- The evaluation of hardware loops that is due: `lc0`, `lc1` and `rrb` before the END bundle's results, and which loops
end at it (R133). -/
structure LpDue where
  lc0 : Nat
  lc1 : Nat
  rrb : Nat
  l0 : Bool
  l1 : Bool
  deriving DecidableEq, Repr

/-- The bundle in progress (R66 to R68). -/
structure Bundle where
  /-- Slots used and destination codes by logical name. -/
  slots : List Nat
  dests : List Nat
  /-- Address of the bundle and of the instruction that comes next. -/
  addr : Nat
  next : Nat
  faults : List Flt
  res : List Inflight
  ops : List MemOp
  stores : List PSt
  rmt : List Rmt
  ccr : List CcrSt
  bcp : List BcpEntry
  mtc : List (Nat × Nat)
  /-- Writes of `mvtb`: bank, physical code, value (R94). -/
  bankWr : List (Nat × Nat × Nat)
  /-- A control transfer was named; whether it is taken, and its target. -/
  ct : Bool
  taken : Bool
  target : Nat
  /-- A taken `br` or `jr`, which deactivates loops it leaves (R136). -/
  leaves : Bool
  /-- An A-slot load or store, a V-slot memory instruction, a `fir` whose guard is true (R129). -/
  memA : Bool
  memV : Bool
  fir : Bool
  /-- Loop setup: loop number, count, END address, STG, rotate (R132). -/
  loop : Option (Nat × Nat × Nat × Nat × Bool)
  reti : Bool
  done : Option Nat
  /-- `brk` with a debugger attached (R467). -/
  brk : Bool
  /-- Accesses of the bundle: address, bytes, store (R466). -/
  acc : List (Nat × Nat × Bool)
  deriving DecidableEq, Repr

/-- A Glesen core beside its control registers. -/
structure Core where
  banks : Map Bank
  v : Map (BitVec 512)
  vm : Map (BitVec 64)
  vl : BitVec 7
  vff : BitVec 6
  c : Map (BitVec 128)
  pc : Nat
  /-- The core issues bundles for a work item. -/
  running : Bool
  bun : Option Bundle
  flight : List Inflight
  /-- A control transfer still to take effect: delay bundles still to issue, taken, target (R75). -/
  dly : Nat
  dlyTaken : Bool
  dlyTarget : Nat
  lpDue : Option LpDue
  /-- A precise exception that waits to be taken, and the deferred ones (R98, R100). -/
  fault : Option Flt
  deferred : List Flt
  rmt : List Rmt
  ccr : List CcrSt
  /-- The banks whose `reti` waits, and the status and bank of a `done` that waits (R96, R119). -/
  retiDue : List Nat
  doneDue : Option (Nat × Nat)
  /-- At least one bundle of a resumed context must issue before an interrupt (R91). -/
  fresh : Bool
  bcp : Bcp
  /-- Program breakpoints are suppressed for the next bundle (R466); a single step is under way (R467). -/
  bpSkip : Bool
  stepArm : Bool
  /-- Accesses of the bundle committed last: address, bytes, store (R466). -/
  acc : List (Nat × Nat × Bool)
  deriving DecidableEq, Repr

/-- A DMA transfer: the descriptor words of R105 with NOTIFY and TAG. -/
structure Xfer where
  src : Nat
  dst : Nat
  rlen : Nat
  nrows : Nat
  irq : Bool
  ntEn : Bool
  ntEv : Bool
  fill : Bool
  sstr : Nat
  dstr : Nat
  zerosOk : Bool
  notify : Nat
  tag : Nat
  /-- It ends ABORTED (R108). -/
  abort : Bool
  deriving DecidableEq, Repr

/-- A DMA channel: the queued transfers (the head is running when `run`), and the state of the running one. -/
structure Dma where
  q : List Xfer
  run : Bool
  ended : Bool
  status : Nat
  npois : Nat
  erraddr : Nat
  /-- Pieces moved so far, and the source line tested last with its poison. -/
  pos : Nat
  last : Option (Nat × Bool)
  deriving DecidableEq, Repr

/-! ## Host link (file 15) -/

/-- What the part has sent to the host die and the host has not taken: INT messages, answers and snoops (R402, R403). -/
inductive HostMsg where
  | int (v core : Nat)
  | rdata (core tag status state : Nat) (data : List Byte)
  | wack (core tag status : Nat)
  | snoop (inv : Bool) (tag line : Nat)
  deriving DecidableEq, Repr

/-- A snoop that the host has not answered: its line, TAG, whether it invalidates, and the age count at which it was sent. -/
structure Snoop where
  line : Nat
  tag : Nat
  inv : Bool
  sent : Nat
  deriving DecidableEq, Repr

/-- A host request that waits at the host link (R409, R411). -/
structure HReq where
  opc : Nat
  core : Nat
  tag : Nat
  addr : Nat
  len : Nat
  data : List Byte
  mask : List Bool
  born : Nat
  deriving DecidableEq, Repr

/-- The host link beside its registers (file 15): messages to the host; the directory, as (line, 1 S or 2 O) in the order
of the grants; snoops; writes of units that wait for a snoop, as (line, bytes, mask); host requests that wait; requests
in the fabric, as (fabric tag, host core, host tag); the next snoop tag; and since when both modules are down. -/
structure Hlk where
  toHost : List HostMsg
  dir : List (Nat × Nat)
  snoops : List Snoop
  held : List (Nat × List Byte × List Bool)
  reqs : List HReq
  issued : List (Nat × Nat × Nat)
  nextTag : Nat
  downAt : Option Nat
  deriving DecidableEq, Repr

/-! ## Engines and the front end (files 09 and 10) -/

/-- How a job has ended: the fields of its completion record (R236, R275). `erraddr` holds bytes 0x10 to 0x17. -/
structure JobRes where
  status : Nat
  detail : Nat
  cyc : Nat
  erraddr : Nat
  result : Nat
  info : Nat
  deriving DecidableEq, Repr

/-- A job that an instance has taken: its descriptor, and its outcome once it has ended. -/
structure Job where
  desc : List Byte
  out : Option JobRes
  deriving DecidableEq, Repr

/-- An engine instance: its job, the queue index after which its rotation goes on (R231), and the lengths of its tail
slots (R243). -/
structure Eng where
  job : Option Job
  rot : Nat
  tails : Map Nat
  deriving DecidableEq, Repr

/-- A freeze of a stream: the air times from and to which it is in force, and the watch entry (finder × 16 + entry)
whose mode-E trigger it rests on (R259). -/
structure Frz where
  t0 : Nat
  t1 : Nat
  entry : Option Nat
  deriving DecidableEq, Repr

/-- A gain loop beside its registers: the automatic code of the next symbol, the symbol under way with its code, and what
has been measured in it (R256, R257). -/
structure Gl where
  next : Nat
  code : Nat
  symStart : Nat
  symEnd : Nat
  n : Nat
  sum : Nat
  clips : Nat
  frz : List Frz
  /-- Air time of the latest sample delivered. -/
  last : Nat
  deriving DecidableEq, Repr

/-- A sample that a watch entry holds: its air time and parts. -/
structure Smp where
  t : Nat
  re : Int
  im : Int
  deriving DecidableEq, Repr

/-- One window of a watch entry (R261 to R264): sample sequences by stream of the group, the position from which the
energy stage goes on, the trigger under qualification, matches already reported, detections, the air time of the
first, the best peak, and whether samples were dropped. -/
structure Win where
  seqs : Map (List Smp)
  pos : Nat
  qual : Option Nat
  seen : List Nat
  ndet : Nat
  first : Nat
  metric : Nat
  peak : Nat
  skip : Bool
  deriving DecidableEq, Repr

/-- A watch entry: the full tick of WIN_START, the window whose result comes next, and its open windows. -/
structure Watch where
  base : Nat
  next : Nat
  wins : Map Win
  deriving DecidableEq, Repr

structure Fen where
  gl : Map Gl
  watch : Map Watch
  deriving DecidableEq, Repr

/-! ## Transmit shaping and Yarrow (file 11) -/

/-- How an output or a stream passes the boundary of its last commit (R303): 0 as the pattern gives, 1 a down ramp from
`b`, 2 an up ramp from `b`, 3 full gain, 4 no gain, each until `till`. -/
structure Trans where
  b : Nat
  mode : Nat
  till : Nat
  deriving DecidableEq, Repr

/-- TXS beside its registers: the full tick of each pattern's ANCHOR, the levels at the balls, the comparators that hold
each drop latch, the air time + 1 of a release whose next span is awaited (R306), and transitions. -/
structure Txs where
  anchor : Map Nat
  pin : Map Bool
  setBy : Map Nat
  wait : Map Nat
  outTr : Map Trans
  strTr : Map Trans
  deriving DecidableEq, Repr

/-- A regular sequence (R308, R309): ARMED with its trigger (Tc) and sampling instant (10^-5 Tc), the trigger in the
pending slot, an overrun to report, edges not taken yet, the full tick of START and the next k. -/
structure YSeq where
  armed : Option (Nat × Nat)
  pend : Option Nat
  ovr : Bool
  edges : List Nat
  base : Nat
  k : Nat
  deriving DecidableEq, Repr

/-- What Yarrow works on; times in 10^-5 Tc. -/
inductive YWork where
  | seq (q first ends : Nat) (late shift : Bool) (words : List Nat)
  | inj (first ends : Nat)
  | cal (ch phase target ends : Nat)
  deriving DecidableEq, Repr

/-- The injected request (R310): channels, trigger kind, output, DELAY, trigger air time once known, and the instant at
which it converts once that is fixed. -/
structure YInj where
  ch : Nat
  trig : Nat
  paen : Nat
  delay : Nat
  trigAt : Option Nat
  start : Option Nat
  deriving DecidableEq, Repr

structure Yrw where
  seqs : Map YSeq
  work : Option YWork
  inj : Option YInj
  /-- A calibration phase that waits: channel, phase, TARGET. -/
  cal : Option (Nat × Nat × Nat)
  /-- The sum of the 64 codes of phase 0 plus 1, by channel. -/
  m0 : Map Nat
  /-- Consecutive results outside the window, by channel (R312). -/
  cons : Map Nat
  deriving DecidableEq, Repr

/-! ## Ethernet MACs (file 12) -/

/-- A received frame that waits in the FIFO of its port group: the bytes to deliver, the bytes it fills, the fields of its
descriptors (R338), its queue and ring, RX_HOLD in effect at its SFD, and its notification. -/
structure RxFrame where
  data : List Byte
  size : Nat
  frmlen : Nat
  flow : Nat
  flags : Nat
  gain : Nat
  msgtype : Nat
  ts : Nat
  eid : Nat
  seqid : Nat
  wofs : Int
  queue : Nat
  ring : Nat
  hold : Nat
  notify : Option (Bool × Nat)
  deriving DecidableEq, Repr

/-- A transmit descriptor that its MAC has read from the head of queue `q`: its launch time in Tc (R341). -/
structure TxHead where
  q : Nat
  desc : List Byte
  launch : Nat
  deriving DecidableEq, Repr

/-- A MAC beside its registers: frames received and not yet delivered with the air time since which the first waits, heads
read, the frame on the wire with its descriptor, the two-step timestamps (R345), and the last frame that left. -/
structure MacSt where
  rx : List RxFrame
  since : Nat
  heads : List TxHead
  on : Option (List Byte × List Byte)
  txts : List (Nat × Nat)
  wire : List Byte
  deriving DecidableEq, Repr

/-! ## Power, clocks and monitors (file 16) -/

/-- Substitution of a spare: the logical core that fails, and whether step 2 of R433 is under way. -/
structure Subst where
  core : Nat
  started : Bool
  deriving DecidableEq, Repr

/-- PWR and fault management beside their registers. Times are of the age count, which steps do not move. -/
structure Pwr where
  /-- Cores reported with a hard line (R432). -/
  failq : List Nat
  /-- Wakes in the order of their requests (R424), and when each WAKING domain was admitted. -/
  wakeq : List Nat
  rampAt : Map Nat
  /-- When each DRAIN began. -/
  drainAt : Map Nat
  /-- Power-downs held until the domain is ON, and wakes requested in NPR, with whether a packet or job asked (R425). -/
  downHeld : List Nat
  wakeNpr : List (Nat × Bool)
  subst : List Subst
  /-- Causes of throttling in force, and since when each has stayed below its release level (R427). -/
  hot : Bool
  hotSince : Option Nat
  overPwr : Bool
  overSince : Option Nat
  thrAt : Nat
  /-- Latest readings of the temperature sensors and their peaks since the last set (R428), as 8-bit patterns. -/
  temp : Map Nat
  peak : Map Nat
  /-- The 1 ms boundary of the last result set. -/
  setAt : Nat
  /-- The Listen state: its entry under way since, and whether it is entered (R437). -/
  listenAt : Option Nat
  listen : Bool
  /-- CLKREF_A is lost or a PLL fed from it has lost lock (R421). -/
  refLost : Bool
  deriving DecidableEq, Repr

/-! ## Sorrel and start-up (file 17) -/

/-- The repair map (R362, R433, R435): by logical core, 0 as built, 1 a spare in its place, 2 OUT with no spare; the failed
segments, ring ports and torus links; and the codes of R436 whose condition it holds, as bits. -/
structure Repair where
  cores : Map Nat
  seg : Nat
  port : Nat
  tor : Nat
  codes : Nat
  deriving DecidableEq, Repr

/-- A write of Sorrel under way (R443): 1 a firmware load, 2 a persist, 3 the erase of both configuration banks; the first
address of its bank, and the bank's bytes, header included. -/
structure SrlOp where
  kind : Nat
  base : Nat
  image : List Byte
  deriving DecidableEq, Repr

/-- The fuses (R442, R462, R463): of slots 0 to 3 and of 4 and 5, which hold a hash and which are revoked; and LOCK. -/
structure Fuses where
  valid : Nat
  revoked : Nat
  dbgValid : Nat
  dbgRevoked : Nat
  lock : Bool
  deriving DecidableEq, Repr

/-- Sorrel and start-up beside the registers and the bytes of its window. -/
structure Srl where
  /-- Number and index of the next event-log record (R449). -/
  logNum : Nat
  logAt : Nat
  repair : Repair
  /-- The calibration area: YRW_CAL_CH by channel (R313, R440). -/
  cal : Map Nat
  fuses : Fuses
  op : Option SrlOp
  /-- The payload of a persist that waits (R445). -/
  wait : Option (List Byte)
  /-- The start-up in force, as BOOTSEL codes it; a wake acts as 0 (R437, R450). -/
  boot : Nat
  deriving DecidableEq, Repr

/-! ## Campion (file 18) -/

/-- The instructions of the 1149.1 port (R461). -/
inductive Tap where
  | bypass | sample | extest | idcode | status | unlock | sel | data
  deriving DecidableEq, Repr

/-- An unlock under verification (R462): slot, public key, signature, and the number of its nonce. -/
structure Unlock where
  slot : Nat
  key : List Byte
  sig : List Byte
  nonce : Nat
  deriving DecidableEq, Repr

/-- A readout request: segment, next line, lines left, and PORT = 1 (R461, R464). -/
structure Readout where
  seg : Nat
  line : Nat
  left : Nat
  capd : Bool
  deriving DecidableEq, Repr

structure Cpn where
  frozen : Bool
  /-- Causes of the freeze, the core of a double fault, F, and the stop time of each domain (R454, R458). -/
  cause : Nat
  core : Nat
  at_ : Nat
  stops : List Nat
  /-- Causes that arrived in steps 1 and 2 of start-up (R454). -/
  held : Nat
  /-- Failed unlocks since PORST_N, nonces used, and the unlock being verified (R462). -/
  fails : Nat
  nonces : Nat
  verify : Option Unlock
  req : Option Readout
  /-- The port's instruction and the boundary-scan update register. -/
  tap : Tap
  bsr : Nat
  deriving DecidableEq, Repr

/-! ## Package (file 19) -/

/-- Rails up, and stopped by a thermal trip until VIN is removed or PORST_N (R429, R476). -/
structure Pkg where
  powered : Bool
  tripped : Bool
  /-- The level bytes that SPI_MISO returned last (R480). -/
  miso : List Byte
  deriving DecidableEq, Repr

/-! ## Baseline firmware (file 00) -/

/-- A carrier in service, or about to be: RAT, bandwidth, antennas, layers, SPLIT, and the processing fields that R296 uses
(R13, R27). -/
structure Cell where
  rat : Nat
  bw : Nat
  nant : Nat
  nldl : Nat
  nlul : Nat
  split : Bool
  maxtbs : Nat
  qmmax : Nat
  maxit : Nat
  mu : Nat
  anchor : Nat
  deriving DecidableEq, Repr

/-- A request that waits for its commit boundary (R12): operation, cell, its new description, the reply's handle and COOKIE,
and B. -/
structure FwReq where
  op : Nat
  cell : Nat
  new : Option Cell
  replyQ : Nat
  cookie : Nat
  b : Nat
  deriving DecidableEq, Repr

structure Fw where
  cells : Map (Option Cell)
  waits : List FwReq
  /-- The values that the firmware has given the registers it claims (R9). -/
  vals : Map Nat
  deriving DecidableEq, Repr

/-! ## The device -/

/-- Everything but the queue of waiting commands. -/
structure Dev where
  grade : Grade
  /-- Control registers by die address of the word; an unlisted word holds its Reset value (R19, R20). For a staged
  field this is the value in effect. -/
  regs : Map Word
  /-- Staged words not applied yet, by address, and the arm latch of a commit (R51 to R54). -/
  staged : Map Nat
  latch : Map Nat
  /-- The snapshot copies by address of the word (R55, R60). -/
  snap : Map Word
  air : Air
  /-- Memory: (die address, byte), every unlisted byte 0. Addresses from 2^48 up hold the copy of the FFT window
  tables at FFT stop 1 (R377), which has no die address of its own. -/
  mem : List Host.Cell
  /-- Line syndromes that are not zero, by line address: the stored check is the CRC of the data XOR this (R381). -/
  syn : Map Nat
  fab : Fab
  tsy : Tsy
  qs : Map Queue
  owed : List Note
  integ : Integ
  cores : Map Core
  dma : Map Dma
  /-- Engine instances by 32 × kind + instance (R209), and the front end. -/
  eng : Map Eng
  fen : Fen
  txs : Txs
  yrw : Yrw
  /-- MACs by index 0 to 47. -/
  mac : Map MacSt
  hlk : Hlk
  pwr : Pwr
  srl : Srl
  cpn : Cpn
  pkg : Pkg
  fw : Fw
  /-- The value that the last command which reads a register or reserves a slot returned to its reader. -/
  answer : Nat
  /-- How many free values have been used (the model's own field, not the spec's). -/
  freeCtr : Nat
  deriving DecidableEq, Repr

/-- The state: the commands waiting, first in, first out, and the device. -/
structure State where
  pending : List Instr
  dev : Dev
  deriving DecidableEq, Repr

/-! ## Values after reset -/

def TOut.reset : TOut := ⟨false, none, 0⟩
def Air.reset : Air :=
  { now := 0, phase := 0, synce := [], ppsPresent := false, pendStep := none, comAt := false,
    comPersist := false, comQueued := none, armFail := [], decided := none, applied := false,
    sn := ⟨0, false, none, none⟩, snTaken := false, snQueued := none, tout := [] }
def Desc.zero : Desc := ⟨0, 0, 0, false, false, false, false, false, 0, 0, 0, 0, 0, 0, 0, 0, 0, 0, 0, 0, false, 0, false,
  0, false, 0, 0, true⟩
/-- A FREE slot of generation 0 (R176). -/
def Slot.reset : Slot :=
  { gen := 0, st := .free, d := Desc.zero, dep := 0, preFail := false, released := false, relTick := 0, dlTick := 0,
    tmoAt := none, waitDone := false, timeout := false, failedIn := false, late := false, rerun := false, runs := 0,
    lastStat := 0, reruns := 0, runTicks := 0, consDone := 0, seq := 0, readySeq := 0, core := 0, dispAt := 0,
    dlRaised := none, rc := false, rcDl := none, rcLate := false, lostRerun := false, completed := false }
def TCore.reset : TCore := ⟨0, 0, 0⟩
def Tsy.reset : Tsy := ⟨[], [], [], 0, 0, 0⟩
/-- A DISABLED queue of generation 0 (R207). -/
def Queue.reset : Queue := ⟨0, 0, 0, [], 0⟩
def Fab.reset : Fab := ⟨0, [], [], [], [], 0, 0, 0, 0, [], [], 0⟩
def Pass.reset : Pass := ⟨false, 0, 0, 0, 0, 0, 0, 0, 0, 0, 0, 0, 0, false⟩
def Integ.reset : Integ := ⟨[], [], [], Pass.reset, 0, 0, [], []⟩
def Lp.reset : Lp := ⟨0, 0, false, false, 0⟩
def Bank.reset : Bank := ⟨[], [], Lp.reset, Lp.reset, 0⟩
def Bcp.reset : Bcp := ⟨0, 0, 0, 0, 0, 0, 0, []⟩
/-- A core after core reset: every register 0, but `vl` 16 (R79). -/
def Core.reset : Core :=
  { banks := [], v := [], vm := [], vl := 16, vff := 0, c := [], pc := 0, running := false, bun := none, flight := [],
    dly := 0, dlyTaken := false, dlyTarget := 0, lpDue := none, fault := none, deferred := [], rmt := [], ccr := [],
    retiDue := [], doneDue := none, fresh := false, bcp := Bcp.reset, bpSkip := false, stepArm := false, acc := [] }
def Xfer.zero : Xfer := ⟨0, 0, 0, 0, false, false, false, false, 0, 0, true, 0, 0, false⟩
def Dma.reset : Dma := ⟨[], false, false, 0, 0, 0, 0, none⟩
def Hlk.reset : Hlk := ⟨[], [], [], [], [], [], 0, none⟩
def Eng.reset : Eng := ⟨none, 0, []⟩
def Gl.reset : Gl := ⟨60, 60, 0, 0, 0, 0, 0, [], 0⟩
def Win.reset : Win := ⟨[], 0, none, [], 0, 0, 0, 0, false⟩
def Watch.reset : Watch := ⟨0, 0, []⟩
def Fen.reset : Fen := ⟨[], []⟩
def Trans.reset : Trans := ⟨0, 0, 0⟩
def Txs.reset : Txs := ⟨[], [], [], [], [], []⟩
def YSeq.reset : YSeq := ⟨none, none, false, [], 0, 0⟩
def Yrw.reset : Yrw := ⟨[], none, none, none, [], []⟩
def MacSt.reset : MacSt := ⟨[], 0, [], none, [], []⟩
def Pwr.reset : Pwr :=
  { failq := [], wakeq := [], rampAt := [], drainAt := [], downHeld := [], wakeNpr := [], subst := [], hot := false,
    hotSince := none, overPwr := false, overSince := none, thrAt := 0, temp := [], peak := [], setAt := 0, listenAt := none, listen := false, refLost := false }
def Repair.reset : Repair := ⟨[], 0, 0, 0, 0⟩
def Fuses.reset : Fuses := ⟨0, 0, 0, 0, false⟩
def Srl.reset : Srl := ⟨0, 0, Repair.reset, [], Fuses.reset, none, none, 0⟩
def Cpn.reset : Cpn := ⟨false, 0, 0, 0, [], 0, 0, 0, none, none, .idcode, 0⟩
def Pkg.reset : Pkg := ⟨true, false, []⟩
def Fw.reset : Fw := ⟨[], [], []⟩

/-- The device right after PORST_N (R450, R452): registers at their Reset column, memories with nothing listed. -/
def Dev.reset : Dev :=
  { grade := .af, regs := [], staged := [], latch := [], snap := [], air := Air.reset, mem := [], syn := [],
    fab := Fab.reset, tsy := Tsy.reset, qs := [], owed := [], integ := Integ.reset, cores := [], dma := [], eng := [], fen := Fen.reset, txs := Txs.reset,
    yrw := Yrw.reset, mac := [],
    hlk := Hlk.reset, pwr := Pwr.reset, srl := Srl.reset, cpn := Cpn.reset, pkg := Pkg.reset, fw := Fw.reset, answer := 0,
    freeCtr := 0 }

/-- The machine right after reset, with no command waiting. -/
def State.reset : State := ⟨[], Dev.reset⟩

/-! ## Why a step can stop -/

/-- Faults. No command of this part stops the machine: every error the spec gives is an answer, a status or an
interrupt, so nothing raises the one reason listed. Safe. -/
inductive Fault where
  /-- Never raised; safe. -/
  | none
  deriving DecidableEq, Repr

/-- Refusals. -/
inductive Refusal where
  /-- Raised by `exec` for a command that has no meaning yet; safe (the machine stops). -/
  | notModelled (mnemonic : String)
  deriving DecidableEq, Repr

/-- What a command answers. -/
abbrev Out := Host.Outcome State Fault Refusal

end Sys2Proof.Machine
end

