-- ==== Sys2Proof/Machine/Ops.lean ====
section
/-! DEFINITION. The named operations every unit uses: control-register words and fields (R18 to R22), counters, free
values, memory bytes and lines (R16, R380, R381), ALERT_N causes and reasons (R431, R436), the event log (R449) and
host interrupt vectors (R413, R414). -/

namespace Sys2Proof.Machine

/-! ## Control registers -/

/-- The rows of the block that a control address lies in (R37), or of the doorbell pages (R228). -/
def rowsOf (a : Nat) : List RegRow :=
  if 0x4000000000 ≤ a then rowsQDB
  else
    let i := (a - 0x3000000000) / 0x100000
    if a < 0x3000000000 then []
    else if 0x40 ≤ i ∧ i < 0x60 then rowsCLU
    else if 0x20 ≤ i ∧ i < 0x2C then rowsMAC
    else match i with
      | 0x00 => rowsAIR | 0x01 => rowsTSY | 0x02 => rowsQMG | 0x03 => rowsFAB | 0x04 => rowsPWR
      | 0x05 => rowsMON | 0x06 => rowsSRL | 0x07 => rowsTSL | 0x08 => rowsCPN | 0x09 => rowsYRW
      | 0x0A => rowsTXS | 0x0B => rowsFEN | 0x0C => rowsFFT | 0x0D => rowsMXE | 0x0E => rowsLDD
      | 0x0F => rowsENC | 0x10 => rowsTPD | 0x11 => rowsHLK | 0x12 => rowsHBM | 0x13 => rowsMEM
      | _ => []

/-- The register that holds the word at `a`, and the byte offset inside it. -/
def findReg (a : Nat) : Option (RegRow × Nat) :=
  (rowsOf a).findSome? (fun r => (r.hit a).map (fun o => (r, o)))

/-- The value after PORST_N of the word at `a` (the Reset column; HLK_SRC_VEC i is 0x38 + i, R419; CLU and CCR words
as their tables). -/
def regReset (a : Nat) : Word :=
  if Reg.HLK_SRC_VEC 0 ≤ a ∧ a < Reg.HLK_SRC_VEC 8 then word (0x38 + (a - Reg.HLK_SRC_VEC 0) / 4)
  else match findReg a with
    | some (r, o) => word (resetOf r.flds (o / 4 * 4))
    | none => 0

/-- The word at `a`, as a number: the live value, or the value in effect of staged fields. -/
def rw (d : Dev) (a : Nat) : Nat := (mget (regReset a) d.regs a).toNat

/-- Set the word at `a`. -/
def ww (d : Dev) (a v : Nat) : Dev := { d with regs := mput (regReset a) d.regs a (word v) }

/-- Bits [hi:lo] of the word at `a`. -/
def fget (d : Dev) (a hi lo : Nat) : Nat := bits (rw d a) hi lo

/-- Set bits [hi:lo] of the word at `a`. -/
def fset (d : Dev) (a hi lo v : Nat) : Dev := ww d a (setBits (rw d a) hi lo v)

/-- Bit `i` of the word at `a`. -/
def rbit (d : Dev) (a i : Nat) : Bool := (rw d a).testBit i

/-- Set bit `i` of the word at `a` to 1. -/
def sbit (d : Dev) (a i : Nat) : Dev := fset d a i i 1

/-- Clear bit `i` of the word at `a`. -/
def cbit (d : Dev) (a i : Nat) : Dev := fset d a i i 0

/-- The 64-bit value at two consecutive words (R18). -/
def rd64 (d : Dev) (a : Nat) : Nat := rw d a + 2 ^ 32 * rw d (a + 4)

/-- Set a 64-bit value (R18). -/
def wr64 (d : Dev) (a v : Nat) : Dev := ww (ww d a (v % 2 ^ 32)) (a + 4) (v / 2 ^ 32 % 2 ^ 32)

/-- Add to a 64-bit counter. -/
def cnt (d : Dev) (a n : Nat) : Dev := wr64 d a ((rd64 d a + n) % 2 ^ 64)

/-! ## Free values -/

/-- The next free value of open point `site`. -/
def fresh (d : Dev) (site : Nat) : Nat := Config.free site d.freeCtr

/-- The device after a free value has been used. -/
def used (d : Dev) : Dev := { d with freeCtr := d.freeCtr + 1 }

/-! ## Air time -/

/-- The present tick: 64 Tc each (R180). -/
def tickNow (d : Dev) : Nat := d.air.now / 64

/-! ## Interrupts to the host (R413, R414) -/

/-- Send the INT message of vector `v`, if it is enabled and the link serves; a link that is down announces pending
vectors later (R413, R416). -/
def sendInt (d : Dev) (v : Nat) : Dev :=
  if rbit d (Reg.HLK_VEC_EN + 4 * (v / 32)) (v % 32) && rbit d Reg.HLK_CTRL 0 && decide (2 ≤ fget d Reg.HLK_STATUS 1 0) then
    cnt { d with hlk := { d.hlk with toHost := d.hlk.toHost ++ [.int v (fget d (Reg.HLK_VEC_TGT v) 3 0)] } } Reg.HLK_CNT_INT 1
  else d

/-- Raise vector `v`: counted, made pending, and announced when its pending bit rises (R413). -/
def raiseVec (d : Dev) (v : Nat) : Dev :=
  let d := cnt d Reg.HLK_CNT_RAISE 1
  let a := Reg.HLK_VEC_PEND + 4 * (v / 32)
  if rbit d a (v % 32) then d else sendInt (sbit d a (v % 32)) v

/-- Raise the vector of unit source `i` (R414). -/
def hlkSrc (d : Dev) (i : Nat) : Dev := raiseVec d (fget d (Reg.HLK_SRC_VEC i) 5 0)

/-! ## ALERT_N and the event log -/

/-- A cause of ALERT_N sets its bit and, with INT_EN, raises MON source 5 (R431). -/
def alert (d : Dev) (i : Nat) : Dev :=
  let d := sbit d Reg.MON_ALERT i
  if rbit d Reg.MON_CTRL 0 then hlkSrc d 5 else d

/-! ## Memory bytes (R16) -/

/-- What a byte reads as; a byte nothing has written reads 0 (a choice of the model, but for R452, which zeroes the
memories at start-up). -/
def memByte (d : Dev) (a : Nat) : Byte := mget 0 d.mem a

/-- Set one byte of memory, keeping the canonical form. -/
def setByte (m : List Host.Cell) (a : Nat) (b : Byte) : List Host.Cell := mput 0 m a b

/-- Set consecutive bytes. -/
def setBytes (m : List Host.Cell) (a : Nat) : List Byte → List Host.Cell
  | [] => m
  | b :: bs => setBytes (setByte m a b) (a + 1) bs

/-- `n` consecutive bytes from `a`. -/
def getBytes (m : List Host.Cell) (a n : Nat) : List Byte := (List.range n).map (fun i => mget 0 m (a + i))

/-- The little-endian number in `n` bytes from `a`. -/
def getNum (m : List Host.Cell) (a n : Nat) : Nat := ofBytes (getBytes m a n)

/-- The canonical form of a memory. -/
def Memory.wf (m : List Host.Cell) : Bool := mwf (0 : Byte) m

/-- The check of a line: CRC with generator 0x8BB7, bit 7 of each byte first (R380). -/
def lineCrc (bs : List Byte) : Nat := crcBits 16 0x8BB7 0 (bs.flatMap msbFirst)

/-- The line that holds an address. -/
def lineOf (a : Nat) : Nat := a / 64 * 64

/-- The syndrome of the line at `la` (R381). -/
def synOf (d : Dev) (la : Nat) : Nat := mget 0 d.syn la

/-- The stored check of the line at `la` (R381). -/
def storedCheck (d : Dev) (la : Nat) : Nat := lineCrc (getBytes d.mem la 64) ^^^ synOf d la

/-- The syndrome of a poisoned line (R381). -/
def POISON : Nat := 0x5A3C

/-- Poison a line: its check becomes CRC(data) XOR 0x5A3C, its data stays (R381). -/
def poison (d : Dev) (la : Nat) : Dev := { d with syn := mput 0 d.syn la POISON }

/-- Set the syndrome of a line. -/
def setSyn (d : Dev) (la s : Nat) : Dev := { d with syn := mput 0 d.syn la s }

/-! ## The event log (R449) -/

/-- First die address of the event log in the Sorrel window (R440). -/
def LOG_BASE : Nat := 0xF00002C20000

/-- Write a 32-byte record at the head, which advances modulo 126,976 (R449). -/
def logEvent (d : Dev) (code unit info addr : Nat) : Dev :=
  let h := d.srl.logAt
  let bytes := toBytes 8 d.air.now ++ toBytes 2 code ++ toBytes 2 unit ++ toBytes 4 info ++ toBytes 8 (addr % 2 ^ 48)
    ++ toBytes 4 d.srl.logNum ++ toBytes 4 0
  let d := { d with mem := setBytes d.mem (LOG_BASE + 32 * h) bytes, srl := { d.srl with logNum := (d.srl.logNum + 1) % 2 ^ 32, logAt := (h + 1) % 126976 } }
  let d := cnt (fset d Reg.SRL_LOG_HEAD 16 0 ((h + 1) % 126976)) Reg.SRL_CNT_LOG 1
  if h + 1 = 126976 then sbit d Reg.SRL_STATUS 2 else d

/-- Record an event of a family whose low code byte, and data, the spec does not state. -/
def logFam (d : Dev) (fam kind unit addr : Nat) : Dev :=
  logEvent d (fam * 256 + Config.evLow fam kind % 256) unit (Config.evInfo fam kind % 2 ^ 32) addr

/-- Record a degradation: MON_REPLACE, MON_REASON_LAST, the event log, and ALERT_N cause REASON (R431, R436). -/
def reason (d : Dev) (code unit : Nat) : Dev :=
  let d := sbit d Reg.MON_REPLACE code
  let d := ww (fset (fset d Reg.MON_REASON_LAST 7 0 code) Reg.MON_REASON_LAST 15 8 unit) (Reg.MON_REASON_LAST + 4) (tickNow d % 2 ^ 32)
  alert (logEvent d (0x200 + code) unit (Config.evInfo 2 code % 2 ^ 32) 0) 4

/-! ## Grade -/

/-- Whether cluster `n` is present (R5). -/
def cluPresent (g : Grade) (n : Nat) : Bool := match g with | .af => n < 32 | .am => n < 24

/-- Whether logical core `c` is present. -/
def corePresent (g : Grade) (c : Nat) : Bool := cluPresent g (c / 8)

/-- Bytes of HBM (R4). -/
def hbmSize (g : Grade) : Nat := match g with | .af => 0x800000000 | .am => 0x400000000

/-- Whether port group `g` is present (R5). -/
def grpPresent (gr : Grade) (g : Nat) : Bool := match gr with | .af => g < 12 | .am => g < 8

/-- Whether LDPC decoder `j` is present (R5). -/
def lddPresent (g : Grade) (j : Nat) : Bool := match g with | .af => j < 24 | .am => j < 16

/-- The regions of R31: (first, last). -/
def regions : List (Nat × Nat) :=
  [(0, 0x7FFFFFFFF), (0x1000000000, 0x101FFFFFFF), (0x2000000000, 0x21BFFFFFFF), (0x3000000000, 0x300FFFFFFF),
   (0x4000000000, 0x4003FFFFFF), (0xF00000000000, 0xF00002FFFFFF)]

/-- Whether `n` bytes from `a` lie inside one region of R31 (R32). -/
def inRegion (a n : Nat) : Bool := regions.any (fun r => decide (r.1 ≤ a ∧ a + n ≤ r.2 + 1))

/-- Whether the unit behind the addresses `a` to `a + n − 1` is present in the grade (R4, R5). -/
def presentRange (g : Grade) (a n : Nat) : Bool :=
  if a < 0x800000000 then decide (a + n ≤ hbmSize g)
  else if 0x1000000000 ≤ a ∧ a < 0x1020000000 then cluPresent g ((a - 0x1000000000) / 0x1000000)
  else true

/-! ## Start-up (R452) -/

/-- Step k of start-up has been done: reached, and not after a failed step. -/
def stepDone (d : Dev) (k : Nat) : Bool :=
  decide (k ≤ fget d Reg.SRL_BOOT 3 0) && !(rbit d Reg.SRL_BOOT 10 && decide (fget d Reg.SRL_BOOT 14 11 ≤ k))

/-! ## Running a command -/

/-- Whether the die runs: powered, out of a freeze, and its clocks not stopped by a thermal trip (R429, R455, R476). -/
def live (d : Dev) : Bool := d.pkg.powered && !d.cpn.frozen && !d.pkg.tripped

/-- A command of the running die changes the device by `f`; a die that is frozen or without power changes nothing. -/
def run (s : State) (f : Dev → Dev) : Out :=
  if live s.dev then .next { s with dev := f s.dev } else .next s

/-- A command that acts whether or not the die is frozen: power, the reset pins and the Campion port. -/
def runAlways (s : State) (f : Dev → Dev) : Out := .next { s with dev := f s.dev }

/-- `f` when the condition holds, and nothing otherwise: a command whose moment has not come changes nothing. -/
def guardD (c : Bool) (d : Dev) (f : Dev → Dev) : Dev := if c then f d else d

end Sys2Proof.Machine
end

