-- ==== Sys2Proof/Machine/Coherence.lean ====
section
/-! DEFINITION. The coherence directory of the host link (R406 to R410): the host's holding of each line, and snoops. -/

namespace Sys2Proof.Machine

/-- The host's holding of a line: 0 I, 1 S, 2 O (R407). -/
def dirState (d : Dev) (la : Nat) : Nat := ((d.hlk.dir.find? (fun e => e.1 = la)).map (·.2)).getD 0

/-- Record the holding of a line; the lines stay in the order of their grants. -/
def setDir (d : Dev) (la st : Nat) : Dev :=
  { d with hlk := { d.hlk with dir :=
      if st = 0 then d.hlk.dir.filter (fun e => e.1 ≠ la) else d.hlk.dir.map (fun e => if e.1 = la then (la, st) else e) } }

/-- Grant a line to the host. -/
def grantDir (d : Dev) (la st : Nat) : Dev :=
  { d with hlk := { d.hlk with dir := d.hlk.dir.filter (fun e => e.1 ≠ la) ++ [(la, st)] } }

/-- The directory works on the line: a snoop of it is not answered (R409). -/
def cohBusy (d : Dev) (la : Nat) : Bool := d.hlk.snoops.any (fun x => x.line = la)

/-- A die write of the line must wait: the host holds it, or the directory works on it. -/
def cohHeld (d : Dev) (la : Nat) : Bool := cohBusy d la || decide (dirState d la ≠ 0)

/-- Whether the link serves (R416). -/
def linkServes (d : Dev) : Bool := decide (2 ≤ fget d Reg.HLK_STATUS 1 0)

/-- Give the host a message; a link that is down discards it. -/
def toHost (d : Dev) (m : HostMsg) : Dev :=
  if linkServes d then { d with hlk := { d.hlk with toHost := d.hlk.toHost ++ [m] } } else d

/-- Send a snoop of a line: SNPINV or SNPSHR (R407). -/
def sendSnoop (d : Dev) (la : Nat) (inv : Bool) : Dev :=
  let t := d.hlk.nextTag
  let d := { d with hlk := { d.hlk with snoops := d.hlk.snoops ++ [⟨la, t, inv, d.fab.age⟩], nextTag := (t + 1) % 2 ^ 16 } }
  cnt (toHost d (.snoop inv t la)) Reg.HLK_CNT_SNP 1

/-- The SNPINV that a die write needs, unless the directory works on the line already. -/
def snoopInv (d : Dev) (la : Nat) : Dev := if cohBusy d la then d else sendSnoop d la true

end Sys2Proof.Machine
end

