-- ==== Sys2Proof/Machine/Integrity.lean ====
section
/-! DEFINITION. Memories and the integrity unit (file 14): which addresses are memory, the decision over a failing line
(R384), reads and writes of lines with their checks (R382, R383, R388, R391), and hard lines (R393, R435). -/

namespace Sys2Proof.Machine

/-- The kinds of memory behind die addresses (R33, R230, R377). -/
inductive MemKind where
  | hbm | ldm (c : Nat) | pm (c : Nat) | cmem (n : Nat) | cpm (n : Nat) | refMem | tail (j : Nat) | winTab | mxe | sorrel
  deriving DecidableEq, Repr

/-- The memory that holds the byte at `a`, if any; reserved offsets hold none (R32, R33, R230, R273). -/
def memKind (g : Grade) (a : Nat) : Option MemKind :=
  if a < hbmSize g then some .hbm
  else if 0x1000000000 ≤ a ∧ a < 0x1020000000 then
    let n := (a - 0x1000000000) / 0x1000000
    let o := (a - 0x1000000000) % 0x1000000
    if o < 0x400000 then some (.cmem n)
    else if o < 0x600000 then some (.ldm (8 * n + (o - 0x400000) / 0x40000))
    else if o < 0x680000 then some (.pm (8 * n + (o - 0x600000) / 0x10000))
    else if 0x700000 ≤ o ∧ o < 0x800000 then some (.cpm n)
    else none
  else if 0x2040000000 ≤ a ∧ a < 0x2080000000 then
    let o := a - 0x2040000000
    if o / 0x100000 < 4 ∧ o % 0x100000 < 0x40000 then some .refMem else none
  else if 0x2080000000 ≤ a ∧ a < 0x20C0000000 then
    let o := a - 0x2080000000
    if o / 0x100000 < 16 then (if o % 0x100000 < 0x10000 then some (.tail (o / 0x100000)) else none)
    else if 0x1000000 ≤ o ∧ o < 0x1004000 ∧ o % 0x400 < 0x200 then some .winTab else none
  else if 0x20C0000000 ≤ a ∧ a < 0x2100000000 then
    let o := a - 0x20C0000000
    if o / 0x400000 < 16 ∧ o % 0x400000 < 0x200000 then some .mxe else none
  else if 0xF00000000000 ≤ a ∧ a < 0xF00003000000 then some .sorrel
  else none

/-- Whether all `n` bytes from `a` lie in memory of the grade. -/
def inMem (g : Grade) (a n : Nat) : Bool :=
  decide (0 < n) && inRegion a n && presentRange g a n &&
  (List.range ((a + n - 1) / 64 - a / 64 + 1)).all (fun i => (memKind g (max a ((a / 64 + i) * 64))).isSome)

/-- An address that initiators may not write: the tail buffers of FFT instances and Sorrel's window (R35, R230). -/
def writeShut (g : Grade) (a : Nat) : Bool :=
  match memKind g a with | some (.tail _) => true | some .sorrel => true | _ => false

/-- Addresses of an absent cluster's window, which reads as zero and ignores writes (R5). -/
def absentWin (g : Grade) (a n : Nat) : Bool := decide (0x1000000000 ≤ a ∧ a + n ≤ 0x1020000000) && !presentRange g a n

/-- The local LDM base of a core in die addresses (R33). -/
def ldmBase (c : Nat) : Nat := 0x1000000000 + c / 8 * 0x1000000 + 0x400000 + c % 8 * 0x40000
/-- The PM base of a core (R33). -/
def pmBase (c : Nat) : Nat := 0x1000000000 + c / 8 * 0x1000000 + 0x600000 + c % 8 * 0x10000
/-- The CMEM base of a cluster (R33). -/
def cmemBase (n : Nat) : Nat := 0x1000000000 + n * 0x1000000
/-- The cluster program memory of a cluster (R33). -/
def cpmBase (n : Nat) : Nat := 0x1000000000 + n * 0x1000000 + 0x700000

/-- What a read of a line gives its reader (R390). -/
inductive Ans where
  | ok | poison | recompute | wait
  deriving DecidableEq, Repr

/-- The core whose LDM or PM holds a line. -/
def coreOfLine (g : Grade) (la : Nat) : Option Nat :=
  match memKind g la with
  | some (.ldm c) => some c
  | some (.pm c) => some c
  | _ => none

/-- Whether a line is HBM's, and its controller (R378). -/
def isHbm (g : Grade) (la : Nat) : Bool := decide (memKind g la = some .hbm)
def hbmCtl (la : Nat) : Nat := la / 256 % 2

/-- A running Teasel pass counts a line in ERRORS, with its lowest and highest (R395). -/
def passError (p : Pass) (la : Nat) : Pass :=
  { p with errors := p.errors + 1, first := if p.errors = 0 then la else min p.first la, last := max p.last la }

/-- The pass that found a line counts its outcome: 1 refetched, 2 recomputed, 3 poisoned (R395). -/
def passOutcome (d : Dev) (la outcome : Nat) : Dev :=
  if d.integ.pass.running then
    let p := passError d.integ.pass la
    let p := match outcome with
      | 1 => { p with refetch := p.refetch + 1 }
      | 2 => { p with recomp := p.recomp + 1 }
      | _ => { p with poisoned := p.poisoned + 1 }
    { d with integ := { d.integ with pass := p } }
  else d

/-- Record a decided outcome in MEM_LAST and raise its notifications (R384, R393). -/
def noteOutcome (d : Dev) (la outcome syn : Nat) (scrub : Bool) : Dev :=
  let d := if scrub && decide (1 ≤ outcome ∧ outcome ≤ 3) then passOutcome d la outcome else d
  let d := wr64 d Reg.MEM_LAST (la % 2 ^ 48 + outcome * 2 ^ 48)
  let d := ww d Reg.MEM_LAST_INFO (syn % 2 ^ 16 + b2n scrub * 2 ^ 16)
  let d := wr64 d Reg.MEM_LAST_TIME d.air.now
  if outcome = 4 ∨ outcome = 5 then d
  else
    let d := match coreOfLine d.grade la with
      | some c => if rbit d Reg.MEM_CTRL 1 then { d with owed := d.owed ++ [.irq c 6] } else d
      | none => d
    if outcome = 3 ∧ rbit d Reg.MEM_CTRL 0 then hlkSrc d 3 else d

/-- Poison a line as an outcome of R384 (rows 5 and 6). -/
def poisonOutcome (d : Dev) (la syn : Nat) (scrub : Bool) : Dev :=
  let d := poison d la
  let d := { d with integ := { d.integ with uncorr := d.integ.uncorr.filter (· ≠ la) } }
  let d := sbit (cnt d Reg.MEM_CNT_POISON 1) Reg.MEM_STATUS 0
  noteOutcome d la 3 syn scrub

/-- A degradation that the repair map keeps until the memory is replaced. -/
def keepReason (d : Dev) (code unit : Nat) : Dev :=
  reason { d with srl := { d.srl with repair := { d.srl.repair with codes := d.srl.repair.codes ||| 2 ^ code } } } code unit

/-- What fault management does with a hard line (R432, R435). -/
def hardLine (d : Dev) (la : Nat) : Dev :=
  match memKind d.grade la with
  | some (.ldm c) => if rbit d (Reg.MON_CORE_OUT (c / 32)) (c % 32) then logFam d 3 2 c la
                     else { d with pwr := { d.pwr with failq := d.pwr.failq ++ [c] } }
  | some (.pm c) => if rbit d (Reg.MON_CORE_OUT (c / 32)) (c % 32) then logFam d 3 2 c la
                    else { d with pwr := { d.pwr with failq := d.pwr.failq ++ [c] } }
  | some .hbm =>
    let s := hbmCtl la
    if fget d (Reg.HBM_SPARE s) 7 0 = 0 ∧ fresh d 30 % 2 = 1 then keepReason (used d) 7 s
    else
      let d := used d
      fset d (Reg.HBM_SPARE s) 23 8 (min 65535 (fget d (Reg.HBM_SPARE s) 23 8 + 1))
  | some _ => keepReason d 8 0
  | none => d

/-- A failing line enters the history of the 256 most recent; it becomes hard after HARD_CNT failures, each within
HARD_WIN ms of the one before (R393). -/
def recordFail (d : Dev) (la : Nat) : Dev :=
  let old := d.integ.hist.find? (fun r => r.line = la)
  let win := fget d Reg.MEM_CTRL 31 16 * 1966080
  let k := match old with
    | some r => if d.air.now ≤ r.last + win then r.count + 1 else 1
    | none => 1
  let hard := decide (max 2 (fget d Reg.MEM_CTRL 15 8) ≤ k)
  let rest := d.integ.hist.filter (fun r => r.line ≠ la)
  let rest := if 256 ≤ rest.length then rest.drop (rest.length - 255) else rest
  let d := { d with integ := { d.integ with hist := rest ++ [⟨la, if hard then 0 else k, d.air.now⟩] } }
  if hard then hardLine (sbit (cnt (wr64 d Reg.MEM_HARD_LAST la) Reg.MEM_CNT_HARD 1) Reg.MEM_STATUS 1) la else d

/-- The lowest enabled refetch window that covers a line, and its source line; an FFT window table's source is its
other copy (R377, R384, R385). -/
def refetchSrc (d : Dev) (la : Nat) : Option Nat :=
  if 2 ^ 48 ≤ la then some (la - 2 ^ 48)
  else if memKind d.grade la = some .winTab then some (la + 2 ^ 48)
  else
    (List.range 64).findSome? (fun w =>
      let dst := rd64 d (Reg.MEM_RFW_DST w) / 64 * 64
      if rbit d (Reg.MEM_RFW_CFG w) 0 ∧ dst ≤ la ∧ la < dst + rw d (Reg.MEM_RFW_LEN w) then
        some (rd64 d (Reg.MEM_RFW_SRC w) / 64 * 64 + (la - dst)) else none)

/-- The RETAINED item most recently dispatched whose output region covers a line (R200, R201). -/
def retainedOwner (d : Dev) (la : Nat) : Option Nat :=
  (d.tsy.slots.foldl (fun best e =>
    let s := e.2
    if (decide (s.st = .retained) || s.rc) && decide (s.d.outbase ≤ la ∧ la < s.d.outbase + s.d.outlen) then
      match best with
      | some (_, t) => if t ≤ s.dispAt then some (e.1, s.dispAt) else best
      | none => some (e.1, s.dispAt)
    else best) (none : Option (Nat × Nat))).map (·.1)

/-- Rows 5 and 6 of R384: report the line to Tansy, or poison it. -/
def lineageOrPoison (d : Dev) (la syn : Nat) (scrub : Bool) : Dev × Ans :=
  match retainedOwner d la with
  | some _ => ({ d with tsy := { d.tsy with reports := d.tsy.reports ++ [.lineage la scrub] } }, .wait)
  | none => (poisonOutcome d la syn scrub, .poison)

/-- Whether a line lies in the enabled test window (R396). -/
def inTest (d : Dev) (la : Nat) : Bool :=
  rbit d Reg.MEM_TEST_CTRL 0 &&
  decide (rd64 d Reg.MEM_TEST_BASE / 64 * 64 ≤ la ∧ la < rd64 d Reg.MEM_TEST_BASE / 64 * 64 + rw d Reg.MEM_TEST_LEN)

/-- A read of a failing line that waits: for a decision under way, or for a free refetch entry (R386, R391). -/
def lineHeld (d : Dev) (la : Nat) : Bool :=
  d.integ.refs.any (fun r => r.dst = la) || d.tsy.reports.any (fun r => match r with | .lineage l _ => l = la | _ => false)
    || (decide (memKind d.grade (la % 2 ^ 48) ≠ some .sorrel) && (refetchSrc d la).isSome && decide (64 ≤ d.integ.refs.length))

/-- A line read counts when it is answered; the read of a scrub, which waits for no decision, at once. -/
def lineRead (d : Dev) (la : Nat) (x : Ans) (scrub : Bool) : Dev × Ans :=
  (if isHbm d.grade la && (decide (x ≠ .wait) || scrub) then cnt d (Reg.HBM_CNT_RD (hbmCtl la)) 1 else d, x)

/-- The decision over one line that is read, once the directory lets the read pass (R379, R381, R384, R391). -/
def decideStored (d : Dev) (la : Nat) (scrub : Bool) : Dev × Ans :=
  let syn := synOf d la
  let unc := d.integ.uncorr.contains la
  let hb := isHbm d.grade la
  let d := if d.integ.correctable.contains la && !unc then cnt d (Reg.HBM_CNT_CORR (hbmCtl la)) 1 else d
  if syn = 0 ∧ !unc then lineRead d la .ok scrub
  else
    let fails (d : Dev) : Dev :=
      let d := if unc then sbit (cnt d (Reg.HBM_CNT_UNCORR (hbmCtl la)) 1) (Reg.HBM_STATUS (hbmCtl la)) 2 else d
      if hb ∧ syn ≠ 0 ∧ syn ≠ POISON then cnt d (Reg.HBM_CNT_LINEERR (hbmCtl la)) 1 else d
    if !unc && inTest d la then lineRead (noteOutcome (cnt (fails d) Reg.MEM_CNT_TEST 1) la 5 syn scrub) la .poison scrub
    else if !unc && decide (syn = POISON) then lineRead (cnt d Reg.MEM_CNT_POISONREAD 1) la .poison scrub
    else if d.integ.recs.any (fun r => r.line = la) then lineRead (fails d) la .recompute scrub
    else if lineHeld d la then (d, .wait)
    else if memKind d.grade (la % 2 ^ 48) = some .sorrel then lineRead (fails d) la .poison scrub
    else
      let d := recordFail (cnt (fails d) Reg.MEM_CNT_ERR 1) la
      match refetchSrc d la with
      | some src => lineRead { d with integ := { d.integ with refs := d.integ.refs ++ [⟨la, src, scrub, syn, []⟩] } } la .wait scrub
      | none =>
        let x := lineageOrPoison d la syn scrub
        lineRead x.1 la x.2 scrub

/-- A die read of a line: it waits while the directory works on the line, and for the SNPSHR that a line in O needs
(R407, R409). -/
def decideLine (d : Dev) (la : Nat) (scrub : Bool) : Dev × Ans :=
  if cohBusy d la then (d, .wait)
  else if dirState d la = 2 then (sendSnoop d la false, .wait)
  else decideStored d la scrub

/-- Combine the answers of several lines of one read (R371): a status other than OK or POISON wins, then POISON. -/
def Ans.join : Ans → Ans → Ans
  | .wait, _ => .wait
  | _, .wait => .wait
  | .recompute, _ => .recompute
  | _, .recompute => .recompute
  | .poison, _ => .poison
  | _, .poison => .poison
  | .ok, .ok => .ok

/-- The lines that `n` bytes from `a` touch. -/
def linesOf (a n : Nat) : List Nat :=
  if n = 0 then [] else (List.range ((a + n - 1) / 64 - a / 64 + 1)).map (fun i => (a / 64 + i) * 64)

/-- Test every line that a read of `n` bytes from `a` touches (R382). -/
def testLines (d : Dev) : List Nat → Dev × Ans
  | [] => (d, .ok)
  | la :: ls =>
    let (d, x) := decideLine d la false
    let (d, y) := testLines d ls
    (d, x.join y)

/-- A unit's read of `n` bytes (R382, R390). -/
def memRead (d : Dev) (a n : Nat) : Dev × Ans × List Byte :=
  let (d, x) := testLines d (linesOf a n)
  (d, x, getBytes d.mem a n)

/-- One line of a write: the bytes at `la` whose mask bit is set; `syn` is the syndrome that travels with a full line
(R379, R383, R388, R389, R391). `none` when a partial write must wait for a refetch (R391). -/
def writeLine (d : Dev) (la : Nat) (bs : List Byte) (mask : List Bool) (syn : Nat) : Option Dev :=
  let full := mask.all id
  let old := getBytes d.mem la 64
  let new := (List.range 64).map (fun i => if mask.getD i false then bs.getD i 0 else old.getD i 0)
  let unc := d.integ.uncorr.contains la
  let hb := isHbm d.grade la
  let inRec := d.integ.recs.any (fun r => r.line = la)
  if !full && d.integ.refs.any (fun r => r.dst = la) then none
  else
    let d := if hb then cnt d (Reg.HBM_CNT_WR (hbmCtl la)) 1 else d
    let d := if hb ∧ !full then cnt d (Reg.HBM_CNT_PARTIAL (hbmCtl la)) 1 else d
    let d := { d with mem := setBytes d.mem la new }
    let clearEcc (d : Dev) : Dev := { d with integ := { d.integ with
      uncorr := d.integ.uncorr.filter (· ≠ la), correctable := d.integ.correctable.filter (· ≠ la) } }
    if inRec then
      let m := (List.range 64).foldl (fun acc i => if mask.getD i false then acc ||| 2 ^ i else acc) 0
      let recs := d.integ.recs.map (fun r => if r.line = la then { r with got := r.got ||| m } else r)
      if recs.any (fun r => r.line = la ∧ r.got = 2 ^ 64 - 1) then
        some (setSyn { (clearEcc d) with integ := { (clearEcc d).integ with recs := recs.filter (fun r => r.line ≠ la) } } la 0)
      else some { d with integ := { d.integ with recs := recs } }
    else if full then
      let d := clearEcc d
      let d := if d.integ.refs.any (fun r => r.dst = la) then
          cnt { d with integ := { d.integ with refs := d.integ.refs.filter (fun r => r.dst ≠ la) } } Reg.MEM_CNT_REFETCH 1
        else d
      if syn = 0 ∨ syn = POISON then some (setSyn d la syn)
      else some (noteOutcome (sbit (cnt (setSyn d la POISON) Reg.MEM_CNT_INFLIGHT 1) Reg.MEM_STATUS 3) la 4 syn false)
    else if unc then some (setSyn (clearEcc d) la POISON)
    else some d

/-- The line-sized parts of a write of `bs` from `a` (mask empty: every byte), each with its line, bytes and mask. -/
def lineParts (a : Nat) (bs : List Byte) (mask : List Bool) : List (Nat × List Byte × List Bool) :=
  (linesOf a bs.length).map (fun la =>
    let at_ (i : Nat) : Option Nat := if a ≤ la + i ∧ la + i < a + bs.length then some (la + i - a) else none
    (la, (List.range 64).map (fun i => match at_ i with | some j => bs.getD j 0 | none => 0),
      (List.range 64).map (fun i => match at_ i with | some j => mask.isEmpty || mask.getD j false | none => false)))

/-- Write the parts in order; `none` when one of them must wait. -/
def writeParts (d : Dev) : List (Nat × List Byte × List Bool) → List Nat → Option Dev
  | [], _ => some d
  | (la, bs, mk) :: ps, syns =>
    match writeLine d la bs mk (syns.headD 0) with
    | none => none
    | some d =>
      let d := if memKind d.grade la = some .winTab then
          { d with mem := setBytes d.mem (la + 2 ^ 48) (getBytes d.mem la 64) } else d
      writeParts d ps syns.tail

/-- A write of bytes to memory; `syns` are the syndromes of the lines that travel whole. A write to a window table
reaches both copies (R230). -/
def memWrite (d : Dev) (a : Nat) (bs : List Byte) (mask : List Bool) (syns : List Nat) : Option Dev :=
  writeParts d (lineParts a bs mask) syns

/-- One line of a unit's write. A partial write of a line under refetch waits there, to be merged into the refetched line
(R391). -/
def putPart (d : Dev) (x : Nat × List Byte × List Bool) : Dev :=
  match writeParts d [x] [] with
  | some d => d
  | none => { d with integ := { d.integ with refs := d.integ.refs.map (fun r =>
      if r.dst = x.1 then { r with waits := r.waits ++ [x.2] } else r) } }

/-- A write of a unit to a line that the host holds waits for its SNPINV (R407). -/
def putLine (d : Dev) (x : Nat × List Byte × List Bool) : Dev :=
  if cohHeld d x.1 then
    let d := snoopInv d x.1
    { d with hlk := { d.hlk with held := d.hlk.held ++ [x] } }
  else putPart d x

/-- A unit's write of fresh data: every whole line with a good check. -/
def memPut (d : Dev) (a : Nat) (bs : List Byte) : Dev := (lineParts a bs []).foldl putLine d

/-- A write that came as a packet may be performed: no line of it is held by the host. Otherwise its snoops are sent. -/
def cohWrite (d : Dev) (a n : Nat) : Dev × Bool :=
  (linesOf a n).foldl (fun (x : Dev × Bool) la => if cohHeld x.1 la then (snoopInv x.1 la, false) else x) (d, true)

/-- A snoop of a line is over: the line takes its state, and the writes that waited for it are performed in order. -/
def snoopOver (d : Dev) (line state : Nat) : Dev :=
  let d := setDir { d with hlk := { d.hlk with snoops := d.hlk.snoops.filter (fun x => x.line ≠ line) } } line state
  let mine := d.hlk.held.filter (fun x => x.1 = line)
  mine.foldl putLine { d with hlk := { d.hlk with held := d.hlk.held.filter (fun x => x.1 ≠ line) } }

/-! ## The end of a Teasel pass (R394, R395) -/

/-- The summary of a pass: 64 bytes. -/
def passSummary (d : Dev) (result : Nat) : List Byte :=
  let p := d.integ.pass
  toBytes 4 (result + fget d Reg.TSL_STATUS 31 16 * 2 ^ 16) ++ toBytes 4 p.skipped ++ toBytes 8 p.lines ++ toBytes 4 p.errors
    ++ toBytes 4 p.refetch ++ toBytes 4 p.recomp ++ toBytes 4 p.poisoned ++ toBytes 4 p.foundPoison ++ toBytes 4 p.unrepaired
    ++ toBytes 8 (p.first % 2 ^ 48) ++ toBytes 8 (p.last % 2 ^ 48) ++ toBytes 8 d.air.now

/-- A pass ends: summary, PASS, DONE, event and interrupt. -/
def endPass (d : Dev) (result : Nat) : Dev :=
  let a := rd64 d Reg.TSL_SUMADDR / 64 * 64
  let ok := inMem d.grade a 64 && !writeShut d.grade a
  let d := if ok then memPut d a (passSummary d result) else if absentWin d.grade a 64 then d else sbit d Reg.TSL_STATUS 3
  let d := { d with integ := { d.integ with pass := Pass.reset } }
  let d := fset d Reg.TSL_STATUS 31 16 ((fget d Reg.TSL_STATUS 31 16 + 1) % 65536)
  let d := sbit (fset (cbit d Reg.TSL_STATUS 0) Reg.TSL_STATUS 7 4 result) Reg.TSL_STATUS 1
  let d := cnt d Reg.TSL_CNT_PASSES 1
  let d := if rbit d Reg.TSL_CTRL 1 then { d with owed := d.owed ++ [.event (fget d Reg.TSL_CTRL 27 16) 1] } else d
  if rbit d Reg.TSL_CTRL 2 then hlkSrc d 3 else d

/-- A pass that has read its last line ends once no line that it found awaits its decision. -/
def passSettle (d : Dev) : Dev :=
  let p := d.integ.pass
  let waits := d.integ.refs.any (fun r => r.scrub) || d.tsy.reports.any (fun r => match r with | .lineage _ s => s | _ => false)
  if p.running && decide (p.stop ≤ rd64 d Reg.TSL_POS) && !waits then endPass d (if p.abort then 2 else 1) else d

end Sys2Proof.Machine
end

