-- ==== Sys2Proof/Machine/Queue.lean ====
section
/-! DEFINITION. Hardware queues (file 08): reservation, publishing, consumption, production and consumption by hardware,
creation and destruction, and the meanings of the queue rows. -/

namespace Sys2Proof.Machine

/-! ## Configuration fields (R227) -/

def qOf (d : Dev) (q : Nat) : Queue := mget Queue.reset d.qs q
def setQ (d : Dev) (q : Nat) (x : Queue) : Dev := { d with qs := mput Queue.reset d.qs q x }
def qBase (d : Dev) (q : Nat) : Nat := rd64 d (Reg.QMG_QBASE q) / 64 * 64
def qType (d : Dev) (q : Nat) : Nat := fget d (Reg.QMG_QCFG q) 3 1
def qEsz (d : Dev) (q : Nat) : Nat := 16 * 2 ^ fget d (Reg.QMG_QCFG q) 5 4
def qDepth (d : Dev) (q : Nat) : Nat := 2 ^ fget d (Reg.QMG_QCFG q) 10 6
def qUnit (d : Dev) (q : Nat) : Nat := fget d (Reg.QMG_QBIND q) 7 0
/-- The software limit (R214). -/
def qLimit (d : Dev) (q : Nat) : Nat := qDepth d q * (fget d (Reg.QMG_QCFG q) 13 11 + 1) / 8

/-! ## Visibility (R215, R216) -/

/-- Void slots at HEAD are discarded: the slots that remain and how many were discarded. -/
def dropVoid : List QSlot → List QSlot × Nat
  | .void :: ss => let (r, n) := dropVoid ss; (r, n + 1)
  | ss => (ss, 0)

/-- Entries visible or void back to HEAD: the published slots before the first reserved one (R215). -/
def visible : List QSlot → Nat
  | .pub :: ss => visible ss + 1
  | .void :: ss => visible ss
  | _ => 0

/-- AVAIL: visible entries from HEAD up to the first slot that is reserved or void (R219). -/
def avail : List QSlot → Nat
  | .pub :: ss => avail ss + 1
  | _ => 0

/-- Store a queue's new slots: newly visible entries are owed a notification, voids at HEAD are discarded. -/
def settleQ (d : Dev) (q : Nat) (x : Queue) (slots : List QSlot) : Dev :=
  let newVis := visible slots - visible x.slots
  let (rest, n) := dropVoid slots
  let depth := qDepth d q
  let x := { x with slots := rest, head := (x.head + n) % depth, owed := x.owed + newVis }
  cnt (setQ d q x) Reg.QMG_CNT_VOID n

/-- Count a stale operation on index `q` (R222). -/
def qStale (d : Dev) (q : Nat) : Dev := cnt (cnt d (Reg.QDB_CNT_STALE q) 1) Reg.QMG_CNT_STALE 1

/-- Count a bad operation (R216, R219, R222). -/
def qBadop (d : Dev) : Dev := sbit (cnt d Reg.QMG_CNT_BADOP 1) Reg.QMG_STATUS 1

/-! ## Software producers and consumers -/

/-- The cause that refuses a reservation, 0 when granted (R213). -/
def reserveCause (d : Dev) (q g : Nat) : Nat :=
  let x := qOf d q
  if g ≠ x.gen then 2
  else if x.st ≠ 1 then 3
  else if qType d q = 3 then 4
  else if 64 ≤ (x.slots.filter (fun s => match s with | .rsv _ _ => true | _ => false)).length then 5
  else if qLimit d q ≤ x.slots.length then 1
  else 0

/-- The slot that a reservation would be granted: TAIL (R208). -/
def qTail (d : Dev) (q : Nat) : Nat := ((qOf d q).head + (qOf d q).slots.length) % qDepth d q

/-- An 8-byte read of QDB_RESERVE: the device after it and the value returned (R213, R222, R228). -/
def reserve (d : Dev) (who : Who) (q g : Nat) : Dev × Nat :=
  let x := qOf d q
  let cause := reserveCause d q g
  let word := (if cause = 0 then qTail d q + 2 ^ 16 else 0) + cause * 2 ^ 17 + x.gen * 2 ^ 20
  if cause = 0 then
    (cnt (setQ d q { x with slots := x.slots ++ [.rsv who d.air.now] }) Reg.QMG_CNT_RESERVE 1, word)
  else if cause = 2 then (qStale d q, word)
  else if cause = 1 then (cnt (cnt d (Reg.QDB_CNT_FULL q) 1) Reg.QMG_CNT_FULL 1, word)
  else (d, word)

/-- A publish or void of slot INDEX by `who` (R215, R216, R222). -/
def publish (d : Dev) (who : Who) (q idx gen : Nat) (vd : Bool) : Dev :=
  let x := qOf d q
  if gen ≠ x.gen ∨ x.st = 2 then qStale d q
  else if x.st = 0 then qBadop d
  else
    let depth := qDepth d q
    let pos := (idx + depth - x.head) % depth
    match x.slots[pos]? with
    | some (.rsv w _) =>
      if w = who ∧ idx < depth then settleQ d q x (x.slots.set pos (if vd then .void else .pub)) else qBadop d
    | _ => qBadop d

/-- A software consumer's QDB_CONSUMED (R219, R222). -/
def consumed (d : Dev) (q nm1 gen : Nat) : Dev :=
  let x := qOf d q
  let ty := qType d q
  if gen ≠ x.gen ∨ x.st = 2 then qStale d q
  else if x.st = 0 then qBadop d
  else if ty = 0 ∨ ty = 2 ∨ ty = 4 ∨ avail x.slots < nm1 + 1 then qBadop d
  else
    let x := { x with head := (x.head + nm1 + 1) % qDepth d q, slots := x.slots.drop (nm1 + 1) }
    settleQ d q x x.slots

/-- Every reservation that satisfies `p` becomes void (R216). -/
def voidIf (d : Dev) (p : Who → Nat → Bool) : Dev :=
  d.qs.foldl (fun d e =>
    let ss := e.2.slots.map (fun s => match s with | .rsv w t => if p w t then .void else .rsv w t | s => s)
    if ss = e.2.slots then d else settleQ d e.1 (qOf d e.1) ss) d

/-- Every reservation of one initiator becomes void (R216). -/
def voidBy (d : Dev) (who : Who) : Dev := voidIf d (fun w _ => decide (w = who))

/-! ## Hardware producers and consumers -/

/-- What a hardware producer's entry meets. -/
inductive Prod where
  | done | pressed
  deriving DecidableEq, Repr

/-- A hardware producer's entry for a handle (R214, R217, R222, R223). -/
def produce (d : Dev) (handle : Nat) (data : List Byte) : Dev × Prod :=
  let q := handle % 2 ^ 14
  let x := qOf d q
  let ty := qType d q
  if handle / 2 ^ 14 ≠ x.gen ∨ x.st = 2 then (qStale d q, .done)
  else if x.st = 0 ∨ (ty ≠ 1 ∧ ty ≠ 3) then (qBadop d, .done)
  else if qEsz d q < data.length then (cnt d Reg.QMG_CNT_SIZE 1, .done)
  else if qDepth d q ≤ x.slots.length then (cnt d Reg.QMG_CNT_BPRESS 1, .pressed)
  else
    let a := qBase d q + qTail d q * qEsz d q
    let entry := data ++ List.replicate (qEsz d q - data.length) 0
    if inMem d.grade a entry.length && !writeShut d.grade a then
      (settleQ (memPut d a entry) q x (x.slots ++ [.pub]), .done)
    else (settleQ d q x (x.slots ++ [.void]), .done)

/-- What a hardware consumer's read of HEAD gives. -/
inductive Take where
  | entry (bs : List Byte) | nothing
  deriving DecidableEq, Repr

/-- A hardware consumer takes the entry at HEAD; an error answer discards the visible entries of the line (R218, R221). -/
def hwTake (d : Dev) (q : Nat) : Dev × Take :=
  let x := qOf d q
  if x.st = 1 ∧ 0 < avail x.slots then
    let esz := qEsz d q
    let a := qBase d q + x.head * esz
    let (d, ans, bs) := memRead d a esz
    match ans with
    | .ok =>
      let x := { qOf d q with head := (x.head + 1) % qDepth d q, slots := x.slots.drop 1 }
      (settleQ d q x x.slots, .entry bs)
    | .wait => (d, .nothing)
    | _ =>
      let inLine := (lineOf a + 64 - a) / esz
      let n := min (max 1 inLine) (min (avail x.slots) (qDepth d q - x.head))
      let d := sbit (cnt d Reg.QMG_CNT_CRC n) Reg.QMG_STATUS 2
      let d := wr64 d Reg.QMG_CRC_LOG (q + x.gen * 2 ^ 14 + x.head * 2 ^ 32)
      let x := { qOf d q with head := (x.head + n) % qDepth d q, slots := x.slots.drop n }
      (settleQ d q x x.slots, .nothing)
  else (d, .nothing)

/-! ## Creation and destruction (R210 to R212) -/

/-- The engine kinds of R209 and their instances present in a grade. -/
def engCount (g : Grade) (kind : Nat) : Nat :=
  match kind with
  | 0 => 16 | 1 => 16 | 2 => (match g with | .af => 24 | .am => 16) | 3 => 8 | 4 => 4 | 5 => 8 | 6 => 4 | _ => 4

/-- The number of MACs present (R3). -/
def macCount (g : Grade) : Nat := match g with | .af => 48 | .am => 32

/-- The entry size code must fit the type (R209, R231, R338, R339). -/
def eszOk (ty esz : Nat) : Bool :=
  if esz = 3 then false
  else match ty with
    | 0 => esz = 2 | 2 => esz = 2 | 3 => esz = 1 | 4 => esz = 1 | _ => true

/-- The ring lies inside HBM, one cluster window or one accelerator data window (R208). -/
def ringOk (g : Grade) (a n : Nat) : Bool :=
  decide (a + n ≤ hbmSize g) ||
  (decide (0x1000000000 ≤ a ∧ a + n ≤ 0x1020000000 ∧ (a - 0x1000000000) / 0x1000000 = (a + n - 1 - 0x1000000000) / 0x1000000)
    && inMem g a n) ||
  (decide (0x2000000000 ≤ a ∧ a + n ≤ 0x21C0000000 ∧ (a - 0x2000000000) / 0x40000000 = (a + n - 1 - 0x2000000000) / 0x40000000)
    && inMem g a n)

/-- The notification fields must satisfy R220 for the type. -/
def notifyOk (g : Grade) (ty ntf tgt : Nat) : Bool :=
  if ntf = 0 then decide (tgt = 0)
  else if ty = 0 ∨ ty = 2 ∨ ty = 4 then false
  else match ntf with
    | 1 => decide (tgt < 4096)
    | 2 => decide (tgt < 2048) && corePresent g (tgt % 256)
    | _ => decide (tgt < 64)

/-- UNIT must satisfy R209 for the type, and name a unit of the grade (R5). -/
def bindOk (g : Grade) (ty unit : Nat) : Bool :=
  match ty with
  | 2 => decide (unit % 32 < engCount g (unit / 32))
  | 3 => decide (unit < macCount g)
  | 4 => decide (unit < macCount g)
  | _ => decide (unit = 0)

/-- The first cause that refuses a create, 0 if none (R210). -/
def createCause (d : Dev) (q : Nat) : Nat :=
  let w := rw d (Reg.QMG_QCFG q)
  let ty := bits w 3 1
  let ld := bits w 10 6
  if (qOf d q).st = 2 then 6
  else if 6 ≤ ty then 7
  else if ld < 3 ∨ 16 < ld then 2
  else if !eszOk ty (bits w 5 4) then 3
  else if !ringOk d.grade (qBase d q) (qDepth d q * qEsz d q) then 1
  else if !bindOk d.grade ty (qUnit d q) then 4
  else if !notifyOk d.grade ty (bits w 15 14) (bits w 31 16) then 5
  else 0

/-- A write of EN = 1 (R210, R211). The other fields of QMG_QCFG are written already. -/
def queueCreate (d : Dev) (q : Nat) : Dev :=
  if (qOf d q).st = 1 then d
  else
    let c := createCause d q
    if c = 0 then sbit (setQ d q { qOf d q with st := 1, head := 0, slots := [], owed := 0 }) (Reg.QMG_QCFG q) 0
    else
      let d := fset (fset (sbit d Reg.QMG_STATUS 0) Reg.QMG_STATUS 15 8 c) Reg.QMG_STATUS 29 16 q
      if (qOf d q).st = 2 then d else cbit d (Reg.QMG_QCFG q) 0

/-- A write of EN = 0 to an ACTIVE queue: it drains, its reservations are void, its untaken entries discarded (R211). -/
def queueDestroy (d : Dev) (q : Nat) : Dev :=
  let x := qOf d q
  if x.st = 1 then
    let pubs := (x.slots.filter (fun s => decide (s = .pub))).length
    let d := cnt (cnt d Reg.QMG_CNT_DISCARD pubs) Reg.QMG_CNT_VOID (x.slots.length - pubs)
    cbit (setQ d q { x with st := 2, slots := [] }) (Reg.QMG_QCFG q) 0
  else d

/-- The end of a destroy: GEN advances and the queue is DISABLED (R211 step 3), once what is owed has been sent. -/
def queueDisabled (d : Dev) (q : Nat) : Dev :=
  let x := qOf d q
  if x.st = 2 ∧ x.owed = 0 then setQ d q { Queue.reset with gen := (x.gen + 1) % 64 } else d

/-- A reservation left unpublished for RSV_TMO µs becomes void; 0 disables the time-out (R216). -/
def reservationTimeout (d : Dev) : Dev :=
  let tmo := fget d Reg.QMG_CTRL 15 0
  if tmo = 0 then d
  else voidIf d (fun _ t => decide (t * 1000 + tmo * 1966080 ≤ d.air.now * 1000))

/-! ## Records (R223, R224) -/

/-- A record to a COMPLETION queue is sent; HW_PRODUCE enters it (R214). -/
def sendRecord (d : Dev) (handle : Nat) (data : List Byte) : Dev :=
  { d with owed := d.owed ++ [.record handle data] }

/-- The notification of a job, transfer or sequence (R232): a signal with a count of 1, or an event raise by 1. -/
def sendNotify (d : Dev) (ev : Bool) (n : Nat) : Dev :=
  { d with owed := d.owed ++ [if ev then .event (n % 4096) 1 else .signal (n % 2 ^ 24) 1 false] }

/-- HW_PRODUCE: the oldest record sent to queue index `q` is entered, or waits under back-pressure (R214). -/
def hwProduce (d : Dev) (q : Nat) : Dev :=
  match d.owed.find? (fun n => match n with | .record h _ => h % 2 ^ 14 = q | _ => false) with
  | some (.record h data) =>
    match produce d h data with
    | (d, .done) => { d with owed := eraseFirst (fun n => decide (n = .record h data)) d.owed }
    | (d, .pressed) => d
  | _ => d

/-! ## Meanings -/

def execQueueCreate (q : Nat) (s : State) : Out := run s (fun d => queueCreate d q)
def execQueueDestroy (q : Nat) (s : State) : Out := run s (fun d => queueDestroy d q)
def execQueueDisabled (q : Nat) (s : State) : Out := run s (fun d => queueDisabled d q)
/-- QDB_RESERVE as an 8-byte read of one initiator; the value returned stands in `answer`. -/
def execQdbReserve (who : Who) (q g : Nat) (s : State) : Out := run s (fun d =>
  let (d, w) := reserve d who q g
  { d with answer := w })
def execQdbPublish (who : Who) (q idx gen : Nat) (vd : Bool) (s : State) : Out := run s (fun d => publish d who q idx gen vd)
def execQdbConsumed (q nm1 gen : Nat) (s : State) : Out := run s (fun d => consumed d q nm1 gen)
def execReservationTimeout (s : State) : Out := run s reservationTimeout
def execHwProduce (q : Nat) (s : State) : Out := run s (fun d => hwProduce d q)

end Sys2Proof.Machine
end

