-- ==== Sys2Proof/Machine/CoreOps.lean ====
section
/-! DEFINITION. A Glesen core as other units see it: its control registers (R102), interrupt sources (R89, R90), core
reset (R79, R197), and the start of a work item (R190). -/

namespace Sys2Proof.Machine

def coreOf (d : Dev) (c : Nat) : Core := mget Core.reset d.cores c
def setCore (d : Dev) (c : Nat) (x : Core) : Dev := { d with cores := mput Core.reset d.cores c x }
def bankOf (x : Core) (b : Nat) : Bank := mget Bank.reset x.banks b
def setBank (x : Core) (b : Nat) (y : Bank) : Core := { x with banks := mput Bank.reset x.banks b y }
def dmaOf (d : Dev) (c : Nat) : Dma := mget Dma.reset d.dma c
def setDma (d : Dev) (c : Nat) (x : Dma) : Dev := { d with dma := mput Dma.reset d.dma c x }

/-- The die address of a core control register of logical core c (R102). -/
def ccr (c off : Nat) : Nat := 0x3004010000 + c / 8 * 0x100000 + c % 8 * 0x1000 + off

/-- The running level of a core (CCR_STATE.LEVEL). -/
def levelOf (d : Dev) (c : Nat) : Nat := fget d (ccr c 0x004) 1 0

/-- Raise interrupt source `i` of a core: its pending bit is set until it is cleared (R90). -/
def raiseIrq (d : Dev) (c i : Nat) : Dev := sbit d (ccr c 0x010) i

/-- Every transfer of a channel is to end ABORTED (R108). -/
def dmaAbort (d : Dev) (c : Nat) : Dev :=
  let x := dmaOf d c
  setDma d c { x with q := x.q.map (fun t => { t with abort := true }) }

/-- The offsets of the control registers that a core reset returns to their Reset column; CCR_ID keeps PHYS, and the
DMA channel's registers are not the core's (R79, R102, R109). -/
def ccrOffsets : List Nat :=
  [0x004, 0x008, 0x010, 0x014, 0x018, 0x020, 0x024, 0x028, 0x02C, 0x030, 0x034, 0x038, 0x03C, 0x040, 0x048, 0x04C,
   0x050, 0x054, 0x060, 0x064, 0x068, 0x06C, 0x070, 0x074]

/-- Core reset: registers of R79, BCP idle with ERR 0, control registers at reset, reservations void, DMA channel
aborted (R79, R108, R197, R216). -/
def coreReset (d : Dev) (c : Nat) : Dev :=
  let d := setCore d c Core.reset
  let d := ccrOffsets.foldl (fun d o => ww d (ccr c o) (regReset (ccr c o)).toNat) d
  dmaAbort (voidBy d (.core c)) c

/-- Start a work item at ENTRY: level 0, IE1 = 0, loops of every bank inactive, `rrb` 0 and `vl` 16 in bank 0, the
BCP's ERR 0, and the arguments in s0 to s5 (R119, R175, R190). -/
def startCore (d : Dev) (c entry : Nat) (args : List Nat) : Dev :=
  let x := coreOf d c
  let off (b : Bank) : Bank := { b with lp0 := { b.lp0 with active := false }, lp1 := { b.lp1 with active := false } }
  let x := [0, 1, 2].foldl (fun x b => setBank x b (off (bankOf x b))) x
  let b0 := bankOf x 0
  let gp := (List.range args.length).foldl (fun m i => mput 0 m i (word (args.getD i 0))) (mput 0 b0.gp 0x4A 0)
  let x := setBank x 0 { b0 with gp := gp }
  let d := setCore d c { x with vl := 16, pc := entry, running := true, bun := none, dly := 0, lpDue := none, fault := none,
                                deferred := [], retiDue := [], doneDue := none, fresh := false, stepArm := false,
                                bcp := { x.bcp with err := 0, errcmd := 0 } }
  fset (cbit d (ccr c 0x004) 2) (ccr c 0x004) 1 0 0

end Sys2Proof.Machine
end

