-- ==== Sys2Proof/Machine/Tansy.lean ====
section
/-! DEFINITION. Tansy (file 07): acceptance, release, signals, waits, dispatch, completion, cancel, messages, forced
ends, retention and recompute, and the meanings of the Tansy rows. -/

namespace Sys2Proof.Machine

/-! ## The table -/

def slotOf (d : Dev) (id : Nat) : Slot := mget Slot.reset d.tsy.slots id
def setSlot (d : Dev) (id : Nat) (x : Slot) : Dev :=
  { d with tsy := { d.tsy with slots := mput Slot.reset d.tsy.slots id x } }
def tcoreOf (d : Dev) (c : Nat) : TCore := mget TCore.reset d.tsy.cores c
def setTcore (d : Dev) (c : Nat) (x : TCore) : Dev :=
  { d with tsy := { d.tsy with cores := mput TCore.reset d.tsy.cores c x } }

/-- {GEN, ID} of a slot (R176). -/
def itemRef (id gen : Nat) : Nat := id + gen * 2 ^ 20
def refId (r : Nat) : Nat := r % 2 ^ 20
def refGen (r : Nat) : Nat := r / 2 ^ 20 % 16

/-- Fields of a descriptor of 64 bytes (R178). -/
def parseDesc (bs : List Byte) : Desc :=
  let w (o : Nat) : Nat := ofBytes ((bs.drop o).take 4)
  let w4 := w 4
  { entry := w 0, prio := bits w4 3 0, pool := bits w4 9 4, lin := bit w4 10, runfail := bit w4 11, wait := bit w4 12,
    rel := bit w4 13, dl := bit w4 14, dep := bits w4 31 16, id := bits (w 8) 19 0, gen := bits (w 8) 23 20,
    ncons := bits (w 8) 31 24, argi := w 12, arg := w 16 + bits (w 20) 15 0 * 2 ^ 32, release := w 24, deadline := w 28,
    event := bits (w 32) 11 0, target := bits (w 32) 31 16, tmo := w 36, cq := bits (w 40) 19 0, cqEn := bit (w 40) 31,
    succ0 := bits (w 44) 23 0, s0en := bit (w 44) 31, succ1 := bits (w 48) 23 0, s1en := bit (w 48) 31, outlen := w 52,
    outbase := w 56 + bits (w 60) 15 0 * 2 ^ 32,
    zerosOk := !bit w4 15 && decide (bits (w 20) 31 16 = 0) && decide (bits (w 32) 15 12 = 0) && decide (bits (w 40) 30 20 = 0)
      && decide (bits (w 44) 30 24 = 0) && decide (bits (w 48) 30 24 = 0) && decide (bits (w 60) 31 16 = 0) }

/-- The enabled successors (R178). -/
def succs (x : Desc) : List Nat := (if x.s0en then [x.succ0] else []) ++ (if x.s1en then [x.succ1] else [])

/-- A program address of the map of R82. -/
def inProgMap (a : Nat) : Bool := decide (a < 0x10000) || decide (0x100000 ≤ a ∧ a < 0x200000)

/-- Bit c of a pool's mask in effect (R187). -/
def inPool (d : Dev) (p c : Nat) : Bool := rbit d (Reg.TSY_POOL_MASK p (c / 32)) (c % 32)
def poolEn (d : Dev) (p : Nat) : Bool := rbit d (Reg.TSY_POOL_CFG p) 0
def poolEmpty (d : Dev) (p : Nat) : Bool := (List.range 8).all (fun w => rw d (Reg.TSY_POOL_MASK p w) = 0)

/-- The cause that refuses a descriptor, in the order of the table, 0 if none (R179). -/
def refuseCause (d : Dev) (x : Desc) : Nat :=
  let s := slotOf d x.id
  if 131072 ≤ x.id then 1
  else if x.gen ≠ s.gen then 2
  else if s.st ≠ .free then 3
  else if !poolEn d x.pool || poolEmpty d x.pool then 4
  else if !x.zerosOk || (x.lin && (decide (x.outlen = 0) || decide (x.outbase % 64 ≠ 0) || decide (x.outlen % 64 ≠ 0)))
    || (succs x).any (fun r => refId r = x.id) then 5
  else if x.entry % 4 ≠ 0 ∨ !inProgMap x.entry then 6
  else 0

/-- The full tick that a 32-bit field means: within 2^31 of now (R180). -/
def fullTick (now field : Nat) : Nat :=
  let base : Int := (now : Int) - 2 ^ 31
  (base + ((field : Int) - base) % 2 ^ 32).toNat

/-! ## Records (R224) -/

/-- A Tansy record of 16 bytes. -/
def tsyRecord (kind status runs flags item pool info tick : Nat) : List Byte :=
  toBytes 4 (kind + status * 2 ^ 8 + min 15 runs * 2 ^ 16 + flags * 2 ^ 20) ++ toBytes 4 (item + pool * 2 ^ 24)
    ++ toBytes 4 (info % 2 ^ 32) ++ toBytes 4 (tick % 2 ^ 32)

/-- The record of a slot: completion (1) or retire (2). -/
def slotRecord (d : Dev) (id kind status info : Nat) (s : Slot) : List Byte :=
  tsyRecord kind status s.runs (b2n s.timeout + 2 * b2n s.failedIn + 4 * b2n s.late + 8 * b2n s.rerun)
    (itemRef id s.gen) s.d.pool info (tickNow d)

/-! ## States of a waiting item (R177, R186) -/

/-- The wait of an item is satisfied: its event's count has reached TARGET (R186). -/
def eventReached (d : Dev) (x : Desc) : Bool :=
  decide ((fget d (Reg.TSY_EVENT_CNT x.event) 15 0 + 2 ^ 16 - x.target) % 2 ^ 16 < 2 ^ 15)

/-- Free a slot: its generation advances and nothing of the item stays but the last status (R176). -/
def freeSlot (d : Dev) (id : Nat) : Dev :=
  let s := slotOf d id
  setSlot d id { Slot.reset with gen := (s.gen + 1) % 16, lastStat := s.lastStat }

/-- Whether a successor reference has completed and ended retention: its slot has moved on (R199). -/
def succEnded (d : Dev) (r : Nat) : Bool := decide ((slotOf d (refId r)).gen ≠ refGen r)

/-- Retention of a RETAINED item ends (R199). -/
def retentionOver (d : Dev) (s : Slot) : Bool :=
  decide (s.st = .retained) && !s.rc && (succs s.d).all (succEnded d) && decide (s.d.ncons ≤ s.consDone)

/-- End the retention of one item: retire record, slot FREE (R193, R199). -/
def retire (d : Dev) (id : Nat) : Dev :=
  let s := slotOf d id
  let d := if s.d.cqEn then sendRecord d s.d.cq (slotRecord d id 2 s.lastStat 0 s) else d
  freeSlot d id

/-- End every retention that is over; ending one may end its producers' (R199). -/
def sweep : Nat → Dev → Dev
  | 0, d => d
  | n + 1, d =>
    match d.tsy.slots.find? (fun e => retentionOver d (slotOf d e.1)) with
    | some (id, _) => sweep n (retire d id)
    | none => d

/-- Sweep with fuel enough for every slot. -/
def sweepAll (d : Dev) : Dev := sweep (d.tsy.slots.length + 1) d

/-- The status classes of R191: success below 0x80. -/
def isFail (status : Nat) : Bool := decide (0x80 ≤ status)

/-- An item ends with `status` (R177, R192, R193): its slot goes to RETAINED or FREE, its successors are signalled, its
completion record is sent. `ran`: it has run, so LIN keeps its output. -/
def complete (d : Dev) (id status : Nat) (ran : Bool) : Dev :=
  let s := slotOf d id
  let s := { s with lastStat := status, completed := true }
  let d := (succs s.d).foldl (fun d r => { d with owed := d.owed ++ [.signal r 1 (isFail status)] }) d
  let d := if s.d.cqEn then sendRecord d s.d.cq (slotRecord d id 1 status s.runTicks s) else d
  let d := cnt d Reg.TSY_CNT_COMPLETE 1
  let d := if s.d.lin && ran then setSlot d id { s with st := .retained, rc := false }
           else freeSlot (setSlot d id s) id
  sweepAll d

/-- An item becomes READY; one marked FAILED_INPUT with RUNFAIL = 0 completes at once with 0xFA (R192). -/
def becomeReady (d : Dev) (id : Nat) : Dev :=
  let s := slotOf d id
  if s.failedIn && !s.d.runfail then complete d id 0xFA (decide (0 < s.runs))
  else
    let d := setSlot d id { s with st := .ready, readySeq := d.tsy.readySeq }
    { d with tsy := { d.tsy with readySeq := d.tsy.readySeq + 1 } }

/-- Show the first unmet condition of a waiting item, or make it READY (R177, R186). -/
def resolve (d : Dev) (id : Nat) : Dev :=
  let s := slotOf d id
  if s.st = .delayed ∨ s.st = .blocked ∨ s.st = .waiting then
    if !s.released then setSlot d id { s with st := .delayed }
    else if s.dep ≠ 0 then setSlot d id { s with st := .blocked }
    else if s.d.wait && !s.timeout && !s.waitDone && !eventReached d s.d then setSlot d id { s with st := .waiting }
    else becomeReady d id
  else d

/-! ## Signals and events (R184 to R186) -/

/-- A signal with its count and mark to {GEN, ID} (R184, R185). -/
def tsySignal (d : Dev) (item count : Nat) (failed : Bool) : Dev :=
  let id := refId item
  let s := slotOf d id
  if count = 0 then d
  else if 131072 ≤ id ∨ s.gen ≠ refGen item then cnt d Reg.TSY_CNT_STALE 1
  else match s.st with
    | .free => setSlot d id { s with dep := min 65535 (s.dep + count), preFail := s.preFail || failed }
    | .delayed | .blocked | .waiting =>
      let d := setSlot d id { s with dep := s.dep - count, failedIn := s.failedIn || failed }
      resolve (cnt d Reg.TSY_CNT_SURPLUS (count - s.dep)) id
    | _ => cnt d Reg.TSY_CNT_SURPLUS count

/-- Raise an event by `n` (modulo 2^16) and resolve the items that wait on it (R186). -/
def tsyEvent (d : Dev) (e n : Nat) : Dev :=
  let d := fset d (Reg.TSY_EVENT_CNT e) 15 0 ((fget d (Reg.TSY_EVENT_CNT e) 15 0 + n) % 2 ^ 16)
  d.tsy.slots.foldl (fun d x => if x.2.st = .waiting ∧ x.2.d.event = e then resolve d x.1 else d) d

/-- The oldest signal that has been sent arrives (R184). -/
def deliverSignal (d : Dev) : Dev :=
  match d.owed.find? (fun n => match n with | .signal _ _ _ => true | _ => false) with
  | some (.signal i c f) =>
    tsySignal { d with owed := eraseFirst (fun n => match n with | .signal _ _ _ => true | _ => false) d.owed } i c f
  | _ => d

/-- The oldest event raise that has been sent arrives (R186). -/
def deliverEvent (d : Dev) : Dev :=
  match d.owed.find? (fun n => match n with | .event _ _ => true | _ => false) with
  | some (.event e c) =>
    tsyEvent { d with owed := eraseFirst (fun n => match n with | .event _ _ => true | _ => false) d.owed } e c
  | _ => d

/-! ## Acceptance and release (R179 to R183) -/

/-- A refused descriptor: counted, cause shown, and a refusal record if CQ is valid (R179, R224). -/
def refuse (d : Dev) (x : Desc) (cause : Nat) : Dev :=
  let d := fset (cnt d Reg.TSY_CNT_REFUSED 1) Reg.TSY_STATUS 15 8 cause
  if x.cqEn then sendRecord d x.cq (tsyRecord 3 0xFD 0 0 (x.id + x.gen * 2 ^ 20) x.pool cause (tickNow d)) else d

/-- Accept a descriptor into its FREE slot (R180, R182, R185, R186). -/
def accept (d : Dev) (x : Desc) : Dev :=
  let old := slotOf d x.id
  let now := tickNow d
  let relTick := fullTick now x.release
  let dlTick := fullTick now x.deadline
  let released := !x.rel || decide (relTick ≤ now)
  let tmoAt := if x.wait && decide (x.tmo ≠ 0) then
      some (if x.rel then (relTick + x.tmo) * 64 else d.air.now + x.tmo * 64) else none
  let s : Slot := { Slot.reset with gen := old.gen, st := .delayed, d := x, dep := x.dep - old.dep, failedIn := old.preFail,
                                    released := released, relTick := relTick, dlTick := dlTick, tmoAt := tmoAt,
                                    seq := d.tsy.seq, lastStat := old.lastStat }
  let d := setSlot { d with tsy := { d.tsy with seq := d.tsy.seq + 1 } } x.id s
  let d := cnt (cnt d Reg.TSY_CNT_SURPLUS (old.dep - x.dep)) Reg.TSY_CNT_SUBMIT 1
  resolve d x.id

/-- Tansy serves its WORK queues that hold visible entries in rotation by ascending index (R218). -/
def nextWork (d : Dev) : Option Nat :=
  let qs := (d.qs.filter (fun e => decide (e.2.st = 1) && decide (qType d e.1 = 0) && decide (0 < avail e.2.slots))).map (·.1)
  match qs.find? (fun q => d.tsy.rot ≤ q) with
  | some q => some q
  | none => qs.head?

/-- Tansy is enabled, and RUN has released it (R181, R451). -/
def tsyRuns (d : Dev) : Bool := rbit d Reg.TSY_CTRL 0 && rbit d Reg.SRL_BOOT 15

/-- DESCRIPTOR_ACCEPT: the next entry of the WORK queues is accepted or refused; none while EN = 0 (R179, R181). -/
def descriptorAccept (d : Dev) : Dev :=
  if !tsyRuns d then d
  else match nextWork d with
    | none => d
    | some q =>
      match hwTake d q with
      | (d, .entry bs) =>
        let d := { d with tsy := { d.tsy with rot := q + 1 } }
        let x := parseDesc bs
        let c := refuseCause d x
        if c = 0 then accept d x else refuse d x c
      | (d, .nothing) => d

/-- The earliest item of the delay lists: release tick, then submission order (R182). -/
def firstDelayed (d : Dev) : Option (Nat × Slot) :=
  (d.tsy.slots.filter (fun e => decide (e.2.st = .delayed) && !e.2.released)).foldl (fun best e =>
    match best with
    | none => some e
    | some b => if e.2.relTick < b.2.relTick ∨ (e.2.relTick = b.2.relTick ∧ e.2.seq < b.2.seq) then some e else best) none

/-- Release one item, the first of the delay lists, if its tick has come (R182). -/
def release (d : Dev) : Dev :=
  match firstDelayed d with
  | some (id, s) => if s.relTick * 64 ≤ d.air.now then resolve (setSlot d id { s with released := true }) id else d
  | none => d

/-- The wait of item `id` times out (R186). -/
def waitTimeout (d : Dev) (id : Nat) : Dev :=
  let s := slotOf d id
  match s.tmoAt with
  | some t =>
    if (s.st = .delayed ∨ s.st = .blocked ∨ s.st = .waiting) ∧ s.d.wait ∧ !s.timeout ∧ !s.waitDone ∧ t ≤ d.air.now then
      if eventReached d s.d then resolve (setSlot d id { s with waitDone := true }) id
      else resolve (setSlot (cnt d Reg.TSY_CNT_TIMEOUT 1) id { s with timeout := true }) id
    else d
  | none => d

/-! ## Dispatch and deadlines (R187 to R190, R196) -/

/-- A core shown IDLE and neither drained nor out (R188, R205). -/
def coreIdle (d : Dev) (c : Nat) : Bool :=
  decide ((tcoreOf d c).st = 0) && !rbit d (Reg.TSY_CORE_CTL c) 0 && !rbit d (Reg.MON_CORE_OUT (c / 32)) (c % 32)
    && corePresent d.grade c

/-- An item is held from dispatch while a producer of it is being re-run (R203). -/
def heldByRc (d : Dev) (id gen : Nat) : Bool :=
  d.tsy.slots.any (fun e => e.2.rc && (succs e.2.d).contains (itemRef id gen))

/-- The priority of an item, raised for a re-run (R202). -/
def prioOf (d : Dev) (s : Slot) : Nat := if s.rc then max s.d.prio (fget d Reg.TSY_CTRL 7 4) else s.d.prio

/-- The deadline tick of an item: D_r during a re-run (R202). -/
def deadlineOf (s : Slot) : Option Nat := if s.rc then s.rcDl else if s.d.dl then some s.dlTick else none

/-- The first idle core of a pool, lowest index first (R188). -/
def poolCore (d : Dev) (p : Nat) : Option Nat := (List.range 256).find? (fun c => inPool d p c && coreIdle d c)

/-- The item Tansy dispatches next: highest priority, then first to become READY (R188). -/
def nextItem (d : Dev) : Option (Nat × Slot × Nat) :=
  d.tsy.slots.foldl (fun best e =>
    let s := e.2
    if decide (s.st = .ready) && poolEn d s.d.pool && !heldByRc d e.1 s.gen then
      match poolCore d s.d.pool with
      | none => best
      | some c =>
        match best with
        | none => some (e.1, s, c)
        | some b => if prioOf d b.2.1 < prioOf d s ∨ (prioOf d b.2.1 = prioOf d s ∧ s.readySeq < b.2.1.readySeq)
                    then some (e.1, s, c) else best
    else best) none

/-- DEADLINE is raised on the item's core and counted (R196). -/
def raiseDeadline (d : Dev) (id : Nat) : Dev :=
  let s := slotOf d id
  cnt (raiseIrq (setSlot d id { s with dlRaised := some d.air.now }) s.core 0) Reg.TSY_CNT_DLMISS 1

/-- Whether the deadline of a RUNNING item has come and has not been raised. -/
def deadlineDue (d : Dev) (s : Slot) : Bool :=
  decide (s.st = .running) && decide (s.dlRaised = none) &&
  (match deadlineOf s with | some t => decide (t * 64 ≤ d.air.now) | none => false)

/-- DEADLINE: the watchdog of item `id` (R196). -/
def deadline (d : Dev) (id : Nat) : Dev := if deadlineDue d (slotOf d id) then raiseDeadline d id else d

/-- Start item `id` on core `c` (R190). -/
def dispatchTo (d : Dev) (id c : Nat) : Dev :=
  let s := slotOf d id
  let dl := deadlineOf s
  let late := match dl with | some t => decide (t * 64 < d.air.now) | none => false
  let est := b2n s.timeout + 2 * b2n s.failedIn + 4 * b2n late + 8 * b2n s.rerun + min 15 s.runs * 2 ^ 8
  let d := cbit (cbit d (ccr c 0x010) 0) (ccr c 0x010) 5
  let d := startCore d c s.d.entry [s.d.arg % 2 ^ 32, s.d.arg / 2 ^ 32, s.d.argi, est, itemRef id s.gen,
    match dl with | some t => t % 2 ^ 32 | none => 0]
  let d := setTcore d c { tcoreOf d c with st := 1, item := itemRef id s.gen }
  let d := setSlot d id { s with st := .running, core := c, dispAt := d.air.now, runs := s.runs + 1, late := late,
                                 dlRaised := none, rcLate := false }
  deadline (cnt d Reg.TSY_CNT_DISPATCH 1) id

/-- DISPATCH: one dispatch, if Tansy is enabled and an item and an idle core meet (R181, R188). -/
def dispatch (d : Dev) : Dev :=
  if tsyRuns d then
    match nextItem d with
    | some (id, _, c) => dispatchTo d id c
    | none => d
  else d

/-! ## Recompute (R201 to R204) -/

/-- The failing lines of a producer that await its re-run leave the table poisoned; `unw` counts them UNWRITTEN (R388). -/
def poisonProd (d : Dev) (id : Nat) (unw : Bool) : Dev :=
  let mine := d.integ.recs.filter (fun r => r.prod = id)
  let d := { d with integ := { d.integ with recs := d.integ.recs.filter (fun r => r.prod ≠ id) } }
  mine.foldl (fun d r =>
    let d := poisonOutcome d r.line (synOf d r.line) false
    if unw then cnt d Reg.MEM_CNT_UNWRITTEN 1 else d) d

/-- Mark one successor of a producer whose recompute was too late (R204). -/
def markLate (d : Dev) (r : Nat) : Dev :=
  let id := refId r
  let s := slotOf d id
  if s.gen ≠ refGen r then d
  else match s.st with
    | .free => setSlot d id { s with preFail := true }
    | .delayed | .blocked | .waiting => setSlot d id { s with failedIn := true }
    | .ready =>
      let d := setSlot d id { s with failedIn := true }
      if s.d.runfail || s.rc then d else complete d id 0xFA (decide (0 < s.runs))
    | .held =>
      becomeReady (setSlot d id { s with failedIn := true, rerun := s.rerun && !s.d.runfail }) id
    | .running => if s.rc then d else setSlot d id { s with rcLate := true, failedIn := true }
    | .retained => d

/-- A recompute of `id` is too late; `line` is the first failing line (R204). RERUN stays that of its last run (R224): a re-run
withdrawn before its dispatch is none. -/
def tooLate (d : Dev) (id line : Nat) : Dev :=
  let s := slotOf d id
  let last := if s.rc && decide (s.st = .ready) then decide (1 < s.reruns) || s.lostRerun else s.rerun
  let d := setSlot d id { s with st := .retained, rc := false, rerun := last }
  let d := poisonProd d id false
  let d := wr64 (wr64 (ww d Reg.TSY_RCLOG_ITEM (itemRef id s.gen)) Reg.TSY_RCLOG_ADDR line) Reg.TSY_RCLOG_TIME d.air.now
  let d := cnt (sbit d Reg.TSY_STATUS 2) Reg.TSY_CNT_RCFAIL 1
  let d := if rbit d Reg.TSY_CTRL 10 then hlkSrc d 1 else d
  sweepAll ((succs s.d).foldl markLate d)

/-- The first failing line of a producer's region in the recompute table, or its region's base. -/
def firstLine (d : Dev) (id : Nat) : Nat :=
  match d.integ.recs.find? (fun r => r.prod = id) with
  | some r => r.line
  | none => (slotOf d id).d.outbase

/-- D_r: the earliest deadline among the successors that have not completed and have DL = 1 (R202). -/
def rcDeadline (d : Dev) (s : Slot) : Option Nat :=
  (succs s.d).foldl (fun best r =>
    let t := slotOf d (refId r)
    if t.gen = refGen r ∧ t.st ≠ .free ∧ !t.completed ∧ t.d.dl then
      match best with | none => some t.dlTick | some b => some (min b t.dlTick)
    else best) none

/-- A line enters the recompute table, or is poisoned when the table is full (R388). -/
def enterRec (d : Dev) (id line : Nat) (scrub : Bool) : Dev :=
  if d.integ.recs.length < 1024 then
    let d := { d with integ := { d.integ with recs := d.integ.recs ++ [⟨line, id, 0⟩] } }
    noteOutcome (cnt d Reg.MEM_CNT_RECOMP 1) line 2 (synOf d line) scrub
  else
    sbit (cnt (poisonOutcome d line (synOf d line) scrub) Reg.MEM_CNT_PENDFULL 1) Reg.MEM_STATUS 2

/-- Tansy decides a reported line (R201, R202): joins a re-run, starts one in time, or is too late. -/
def decideLineage (d : Dev) (line : Nat) (scrub : Bool) : Dev :=
  match retainedOwner d line with
  | none => poisonOutcome d line (synOf d line) scrub
  | some id =>
    let s := slotOf d id
    if s.rc then enterRec d id line scrub
    else
      let dr := rcDeadline d s
      let inTime : Bool := match dr with | none => true | some t => decide (d.air.now + s.runTicks * 64 ≤ t * 64)
      if inTime && decide (s.reruns < fget d Reg.TSY_CTRL 9 8) then
        let d := setSlot d id { s with st := .ready, rerun := true, rc := true, rcDl := dr, reruns := s.reruns + 1,
                                       readySeq := d.tsy.readySeq }
        let d := { d with tsy := { d.tsy with readySeq := d.tsy.readySeq + 1 } }
        enterRec (cnt d Reg.TSY_CNT_RECOMP 1) id line scrub
      else tooLate (poisonOutcome d line (synOf d line) scrub) id line

/-- LINEAGE_REPORT: the oldest report of the integrity unit reaches Tansy (R201). -/
def lineageReport (d : Dev) : Dev :=
  match d.tsy.reports.find? (fun r => match r with | .lineage _ _ => true | _ => false) with
  | some (.lineage line scrub) =>
    passSettle (decideLineage { d with tsy := { d.tsy with
      reports := eraseFirst (fun r => match r with | .lineage _ _ => true | _ => false) d.tsy.reports } } line scrub)
  | _ => d

/-- Whether a producer of item {gen, id} has a recompute pending (R203). -/
def producerRc (d : Dev) (id gen : Nat) : Bool := heldByRc d id gen

/-- A re-run ends in the success class: lines left are poisoned UNWRITTEN, HELD consumers become READY with RERUN (R202). -/
def rerunOk (d : Dev) (id : Nat) : Dev :=
  let s := slotOf d id
  let d := setSlot d id { s with st := .retained, rc := false }
  let d := poisonProd d id true
  let d := (succs s.d).foldl (fun d r =>
    let t := slotOf d (refId r)
    if t.gen = refGen r ∧ t.st = .held ∧ !producerRc d (refId r) t.gen then
      let d := setSlot d (refId r) { t with st := .ready, rerun := true, readySeq := d.tsy.readySeq }
      { d with tsy := { d.tsy with readySeq := d.tsy.readySeq + 1 } }
    else d) d
  sweepAll d

/-! ## Ends of items (R191, R193, R197, R198) -/

/-- The item that a core runs. -/
def runningOn (d : Dev) (c : Nat) : Option Nat :=
  let r := (tcoreOf d c).item
  let s := slotOf d (refId r)
  if s.gen = refGen r ∧ s.st = .running ∧ s.core = c then some (refId r) else none

/-- The item of core `c` ends with a status of `done` (R191 to R193, R202 to R204). -/
def endDone (d : Dev) (c status : Nat) : Dev :=
  let t := tcoreOf d c
  let d := if t.st = 1 then setTcore d c { t with st := 0 } else d
  match runningOn d c with
  | none => d
  | some id =>
    let s := slotOf d id
    let status := if 0xF8 ≤ status then 0x80 else status
    let s := { s with runTicks := (d.air.now - s.dispAt) / 64 }
    let d := setSlot d id s
    if s.rc then
      if isFail status then tooLate d id (firstLine d id) else rerunOk d id
    else if status = 0x81 ∧ s.rcLate then complete d id 0xFA true
    else if status = 0x81 ∧ producerRc d id s.gen then setSlot d id { s with st := .held }
    else complete d id (if status = 0x81 then 0x80 else status) true

/-- DONE_REPORT: the oldest report of a core reaches Tansy (R193). -/
def doneReport (d : Dev) : Dev :=
  match d.tsy.reports.find? (fun r => match r with | .done _ _ => true | _ => false) with
  | some (.done c st) =>
    endDone { d with tsy := { d.tsy with
      reports := eraseFirst (fun r => match r with | .done _ _ => true | _ => false) d.tsy.reports } } c st
  | _ => d

/-- The item of core `c` ends without `done`: KILLED, CORE_LOST or DOUBLE_FAULT (R197, R198). -/
def endForced (d : Dev) (c status : Nat) : Dev :=
  let d := { d with tsy := { d.tsy with reports := d.tsy.reports.filter (fun r => match r with | .done k _ => k ≠ c | _ => true) } }
  match runningOn d c with
  | none => d
  | some id =>
    let s := slotOf d id
    let s := { s with runTicks := (d.air.now - s.dispAt) / 64 }
    let d := setSlot d id s
    let passed := match deadlineOf s with | some t => decide (t * 64 ≤ d.air.now) | none => false
    if status = 0xFC ∧ s.d.lin ∧ !passed ∧ !s.lostRerun then
      let d := setSlot d id { s with st := .ready, rerun := true, lostRerun := true, readySeq := d.tsy.readySeq }
      { d with tsy := { d.tsy with readySeq := d.tsy.readySeq + 1 } }
    else if s.rc then tooLate d id (firstLine d id)
    else complete d id status true

/-- WATCHDOG_KILL: the grace after DEADLINE has passed; Tansy resets the core and the item ends KILLED (R197). -/
def watchdogKill (d : Dev) (id : Nat) : Dev :=
  let s := slotOf d id
  match s.dlRaised with
  | some t =>
    if s.st = .running ∧ t + fget d Reg.TSY_WDOG_GRACE 23 0 * 64 ≤ d.air.now ∧ !rbit d (Reg.CPN_DBG_CTL s.core) 0 then
      let d := endForced (coreReset d s.core) s.core 0xFB
      sbit (setTcore d s.core { tcoreOf d s.core with st := 0 }) Reg.TSY_STATUS 4
    else d
  | none => d

/-- A core halts on a double fault: its item ends, the core shows HALTED and its hold starts (R198). -/
def haltCore (d : Dev) (c : Nat) : Dev :=
  let d := setTcore d c { tcoreOf d c with st := 2, holdEnd := d.air.now + rw d Reg.TSY_HALT_HOLD * 64 }
  sbit (endForced d c 0xFE) Reg.TSY_STATUS 3

/-- A halted core returns to dispatch through a core reset (R198). -/
def resumeCore (d : Dev) (c : Nat) : Dev :=
  if (tcoreOf d c).st = 2 then setTcore (coreReset d c) c { tcoreOf d c with st := 0 } else d

/-- The halt hold of core `c` ends (R198). -/
def haltHold (d : Dev) (c : Nat) : Dev :=
  let t := tcoreOf d c
  if t.st = 2 ∧ t.holdEnd ≤ d.air.now then resumeCore d c else d

/-! ## Cancel, messages, releases (R194, R195, R199) -/

/-- A message to a RUNNING item (R195). -/
def tsyMsg (d : Dev) (item data : Nat) : Dev :=
  let s := slotOf d (refId item)
  if s.gen = refGen item ∧ s.st = .running then
    raiseIrq (ww d (Reg.TSY_CORE_MSG s.core) data) s.core 5
  else cnt d Reg.TSY_CNT_STALE 1

/-- A cancel acts on the item's state (R194). -/
def tsyCancel (d : Dev) (item : Nat) : Dev :=
  let id := refId item
  let s := slotOf d id
  if 131072 ≤ id ∨ s.gen ≠ refGen item then cnt d Reg.TSY_CNT_STALE 1
  else match s.st with
    | .free => cnt d Reg.TSY_CNT_STALE 1
    | .delayed | .blocked | .waiting => complete d id 0xF9 false
    | .ready =>
      if s.rc then
        let d := tooLate d id (firstLine d id)
        if (slotOf d id).gen = s.gen then sweepAll (retire d id) else d
      else complete d id 0xF9 false
    | .held => complete d id 0xF9 false
    | .running => tsyMsg d item 0xFFFFFFFF
    | .retained => sweepAll (retire d id)

/-- One outside consumer of a retained item has finished (R199). -/
def tsyRelease (d : Dev) (item : Nat) : Dev :=
  let id := refId item
  let s := slotOf d id
  if s.gen = refGen item ∧ s.st ≠ .free ∧ s.d.lin ∧ s.consDone < s.d.ncons then
    sweepAll (setSlot d id { s with consDone := s.consDone + 1 })
  else cnt d Reg.TSY_CNT_STALE 1

/-! ## Actions that a forward step of air time passes (R47, R183) -/

/-- An action of Tansy that waits for an air time. -/
inductive Due where
  | release | timeout (id : Nat) | deadline (id : Nat) | hold (c : Nat)
  deriving DecidableEq, Repr

/-- The earliest action whose air time has come (R183). -/
def nextDue (d : Dev) : Option (Nat × Due) :=
  let better (best : Option (Nat × Due)) (t : Nat) (x : Due) : Option (Nat × Due) :=
    if d.air.now < t then best else match best with
      | none => some (t, x)
      | some b => if t < b.1 then some (t, x) else best
  let best := match firstDelayed d with | some (_, s) => better none (s.relTick * 64) .release | none => none
  let best := d.tsy.slots.foldl (fun best e =>
    let s := e.2
    let best := match s.tmoAt with
      | some t => if (s.st = .delayed ∨ s.st = .blocked ∨ s.st = .waiting) ∧ s.d.wait ∧ !s.timeout ∧ !s.waitDone
                  then better best t (.timeout e.1) else best
      | none => best
    match deadlineOf s with
    | some t => if s.st = .running ∧ s.dlRaised = none then better best (t * 64) (.deadline e.1) else best
    | none => best) best
  d.tsy.cores.foldl (fun best e => if e.2.st = 2 then better best e.2.holdEnd (.hold e.1) else best) best

/-- Act on everything that is due, in air-time order. -/
def actDue : Nat → Dev → Dev
  | 0, d => d
  | n + 1, d =>
    match nextDue d with
    | none => d
    | some (_, .release) => actDue n (release d)
    | some (_, .timeout id) => actDue n (waitTimeout d id)
    | some (_, .deadline id) => actDue n (deadline d id)
    | some (_, .hold c) => actDue n (haltHold d c)

/-- Act on everything a step has passed. -/
def actAllDue (d : Dev) : Dev := actDue (3 * d.tsy.slots.length + d.tsy.cores.length + 1) d

/-! ## Notifications of queues (R220) -/

/-- QMG sends the notification owed for entries made visible (R211, R220). -/
def queueNotify (d : Dev) (q : Nat) : Dev :=
  let x := qOf d q
  if x.owed = 0 then d
  else
    let d := setQ d q { x with owed := 0 }
    let w := rw d (Reg.QMG_QCFG q)
    let tgt := bits w 31 16
    match bits w 15 14 with
    | 1 => tsyEvent d (tgt % 4096) x.owed
    | 2 => raiseIrq d (tgt % 256) (8 + bits tgt 10 8)
    | 3 => raiseVec d (tgt % 64)
    | _ => d

/-! ## Meanings -/

def execDescriptorAccept (s : State) : Out := run s descriptorAccept
def execRelease (s : State) : Out := run s release
def execSignal (s : State) : Out := run s deliverSignal
def execTsySignal (v : Word) (s : State) : Out :=
  run s (fun d => tsySignal d (bits v.toNat 23 0) (bits v.toNat 31 24) false)
def execTsyEventRaise (v : Word) (s : State) : Out := run s (fun d => tsyEvent d (bits v.toNat 11 0) (bits v.toNat 31 16))
def execEventRaise (s : State) : Out := run s deliverEvent
def execWaitTimeout (id : Nat) (s : State) : Out := run s (fun d => waitTimeout d id)
def execDispatch (s : State) : Out := run s dispatch
def execDoneReport (s : State) : Out := run s doneReport
def execTsyCancel (v : Word) (s : State) : Out := run s (fun d => tsyCancel d (bits v.toNat 23 0))
def execTsyMsg (v : BitVec 64) (s : State) : Out := run s (fun d => tsyMsg d (bits v.toNat 23 0) (bits v.toNat 63 32))
def execDeadline (id : Nat) (s : State) : Out := run s (fun d => deadline d id)
def execWatchdogKill (id : Nat) (s : State) : Out := run s (fun d => watchdogKill d id)
def execHaltHoldExpiry (c : Nat) (s : State) : Out := run s (fun d => haltHold d c)
def execResume (c : Nat) (s : State) : Out := run s (fun d => resumeCore d c)
def execTsyRelease (v : Word) (s : State) : Out := run s (fun d => tsyRelease d (bits v.toNat 23 0))
def execLineageReport (s : State) : Out := run s lineageReport
def execQueueNotify (q : Nat) (s : State) : Out := run s (fun d => queueNotify d q)

end Sys2Proof.Machine
end

