-- ==== Sys2Proof/Machine/Packets.lean ====
section
/-! DEFINITION. Packets of the fabric (file 13): stops, ring and torus routes (R351 to R354), the header with its HCRC
(R355, R357), the age of a packet (R369), and how an initiator issues a request (R358, R363, R370, R487). -/

namespace Sys2Proof.Machine

/-! ## Stops (R351) -/

/-- The stop of cluster n. -/
def cluStop (n : Nat) : Nat := 12 * (n / 8) + (if n % 8 < 4 then n % 8 else n % 8 + 2)
/-- The stop of MAC stop m. -/
def macStop (m : Nat) : Nat := [4, 10, 16, 28, 40, 46].getD m 4
/-- The housekeeping, front-end, encoder, turbo/polar and host-link stops, and Tansy's. -/
def stopHK : Nat := 11
def stopFEN : Nat := 23
def stopENC : Nat := 35
def stopTPD : Nat := 47
def stopHLK : Nat := 51
def stopTSY : Nat := 55

/-- The instance that an offset of a divided block belongs to: the first repetition of its register (R486). -/
def instOf (a : Nat) : Nat :=
  let a := a - a % 0x100000 + a % 0x40000
  match findReg a with
  | some (r, _) => (match r.reps with | (n, s) :: _ => if 16 ≤ n then (a - r.base) / s else 0 | [] => 0)
  | none => 0

/-- The stop that serves a die address (R23, R37, R378, R486). -/
def stopOf (a : Nat) : Nat :=
  if a < 0x800000000 then (if a / 256 % 2 = 0 then 49 else 53)
  else if 0x1000000000 ≤ a ∧ a < 0x1020000000 then cluStop ((a - 0x1000000000) / 0x1000000)
  else if 0x2000000000 ≤ a ∧ a < 0x21C0000000 then
    let o := a - 0x2000000000
    match o / 0x40000000 with
    | 0 => stopFEN | 1 => stopFEN
    | 2 => if o % 0x40000000 < 0x1000000 ∧ 8 ≤ o % 0x40000000 / 0x100000 then 41 else 5
    | 3 => if 8 ≤ o % 0x40000000 / 0x400000 then 29 else 17
    | 4 => 22 | 5 => stopENC | _ => stopTPD
  else if 0x3000000000 ≤ a ∧ a < 0x3010000000 then
    let i := (a - 0x3000000000) / 0x100000
    if 0x40 ≤ i ∧ i < 0x60 then cluStop (i - 0x40)
    else if 0x20 ≤ i ∧ i < 0x2C then macStop ((i - 0x20) / 2)
    else match i with
      | 0x01 => stopTSY | 0x02 => stopTSY | 0x0A => stopFEN | 0x0B => stopFEN
      | 0x0C => if 8 ≤ instOf a then 41 else 5
      | 0x0D => if 8 ≤ instOf a then 29 else 17
      | 0x0E => if 12 ≤ instOf a then 34 else 22
      | 0x0F => stopENC | 0x10 => stopTPD | 0x11 => stopHLK
      | 0x12 => if (a - 0x3001200000) / 0x1000 = 1 then 53 else 49
      | _ => stopHK
  else if 0x4000000000 ≤ a ∧ a < 0x4004000000 then stopTSY
  else stopHK

/-- The stop behind which an initiator sits. -/
def srcStop : Who → Nat
  | .core c => cluStop (c / 8)
  | .dma n => cluStop n
  | .host _ => stopHLK
  | .spi => stopHK
  | .unit s => s

/-- PORT: the initiator within its stop. -/
def srcPort : Who → Nat
  | .core c => c % 8
  | .dma _ => 8
  | .host h => h % 16
  | .spi => 1
  | .unit _ => 0

/-! ## Routes (R352 to R354, R363) -/

/-- Positions passed on a loop of `n` from `a` to `b`, the shorter way, increasing at a tie; with the segment left each
position by. -/
def loopWalk (n a b : Nat) : List Nat × List Nat :=
  let f := (b + n - a) % n
  if f ≤ n - f then ((List.range (f + 1)).map (fun i => (a + i) % n), (List.range f).map (fun i => (a + i) % n))
  else ((List.range (n - f + 1)).map (fun i => (a + n - i) % n), (List.range (n - f)).map (fun i => (a + n - 1 - i) % n))

/-- The stop at a position of quadrant ring q. -/
def ringStop (q pos : Nat) : Nat := if pos = 0 then 48 + 2 * q else 12 * q + pos - 1

/-- Stops and segments of a walk on quadrant ring q. -/
def quadWalk (q a b : Nat) : List Nat × List Nat :=
  let (ps, ss) := loopWalk 13 a b
  (ps.map (ringStop q), ss.map (fun j => 13 * q + j))

/-- Stops and segments of a walk on the spine. -/
def spineWalk (a b : Nat) : List Nat × List Nat :=
  let (ps, ss) := loopWalk 8 a b
  (ps.map (fun p => 48 + p), ss.map (fun j => 52 + j))

/-- The ring route between two stops: stops and segments crossed (R353). -/
def ringRoute (s t : Nat) : List Nat × List Nat :=
  let q (x : Nat) : Nat := x / 12
  let join (a b : List Nat × List Nat) : List Nat × List Nat := (a.1 ++ b.1, a.2 ++ b.2)
  if s < 48 ∧ t < 48 ∧ q s = q t then quadWalk (q s) (s % 12 + 1) (t % 12 + 1)
  else
    let a := if s < 48 then quadWalk (q s) (s % 12 + 1) 0 else ([s], [])
    let b := spineWalk (if s < 48 then 2 * q s else s - 48) (if t < 48 then 2 * q t else t - 48)
    let c := if t < 48 then quadWalk (q t) 0 (t % 12 + 1) else ([t], [])
    join a (join b c)

/-- The torus node of a stop: (x, y) (R354). -/
def torNode (s : Nat) : Nat × Nat := if s < 48 then (2 * (s / 12) + s % 12 % 2, s % 12 / 2) else (s - 48, 6)

/-- The torus links of a route, X first (R354). -/
def torRoute (s t : Nat) : List Nat :=
  let a := torNode s
  let b := torNode t
  ((loopWalk 8 a.1 b.1).2.map (fun x => 8 * a.2 + x)) ++ ((loopWalk 7 a.2 b.2).2.map (fun y => 56 + 8 * y + b.1))

/-- Whether the ring route of a pair is free of failed segments and ports (R363). -/
def ringFree (d : Dev) (s t : Nat) : Bool :=
  let (ps, ss) := ringRoute s t
  ss.all (fun j => !(rd64 d Reg.FAB_SEG_FAIL).testBit j) && ps.all (fun p => !(rd64 d Reg.FAB_STOP_FAIL).testBit p)

/-- Whether the torus route of a pair is free of failed links (R363). -/
def torFree (d : Dev) (s t : Nat) : Bool := (torRoute s t).all (fun l => !rbit d (Reg.FAB_TOR_FAIL (l / 32)) (l % 32))

/-! ## Headers (R355, R357) -/

/-- Header bits [115:0] of a packet. -/
def hdrBits (p : Pkt) : Nat :=
  let w0 := p.vn % 4 + p.prio % 4 * 2 ^ 2 + p.epoch % 2 * 2 ^ 4 + b2n p.tor * 2 ^ 5 + p.src % 64 * 2 ^ 8 + p.dst % 64 * 2 ^ 14
    + p.port % 16 * 2 ^ 20 + p.op % 256 * 2 ^ 24
  let w1 := p.tag % 2 ^ 16 + p.lenm1 % 256 * 2 ^ 16 + p.born % 256 * 2 ^ 24
  w0 + w1 * 2 ^ 32 + (p.addr % 2 ^ 48 + p.status % 16 * 2 ^ 48) * 2 ^ 64

/-- HCRC: CRC-12, polynomial 0x80F, over header bits 0 to 115 (R355). -/
def hcrcOf (p : Pkt) : Nat := crcBits 12 0x80F 0 ((List.range 116).map (fun i => (hdrBits p).testBit i))

/-- The packet with its HCRC. -/
def sealed (p : Pkt) : Pkt := { p with hcrc := hcrcOf p }

/-- The operations and their networks (R356). -/
def opVn (op : Nat) : Nat := if op = 0x01 then 0 else if op = 0x02 then 2 else if op = 0x10 ∨ op = 0x11 then 1 else 3

/-! ## Age (R369) -/

/-- BORN now: bits [17:10] of the age count. -/
def bornNow (d : Dev) : Nat := bits d.fab.age 17 10
/-- The age of a packet in units of 1,024 Tc. -/
def ageOf (d : Dev) (p : Pkt) : Nat := (d.fab.age / 1024 + 256 - p.born % 256) % 256
/-- The time-out class of a packet: 0 REQ, 1 PST, 2 CTL; a WACK to a doorbell address answers a DOORBELL. -/
def tmoClass (p : Pkt) : Nat :=
  if p.op = 0x01 ∨ p.op = 0x10 then 0
  else if p.op = 0x02 then 1
  else if p.op = 0x11 then (if 0x4000000000 ≤ p.addr ∧ p.addr < 0x4004000000 then 2 else 1)
  else 2
/-- The TMO of a class. -/
def tmoOf (d : Dev) (cls : Nat) : Nat := fget d Reg.FAB_TMO (8 * cls + 7) (8 * cls)
/-- Whether a packet has expired. -/
def expired (d : Dev) (p : Pkt) : Bool := decide (tmoOf d (tmoClass p) < ageOf d p)

/-! ## Issue -/

/-- The answer to a request. -/
def answerTo (p : Pkt) (status : Nat) (data : List Byte) (syn : List Nat) : Pkt :=
  sealed { p with vn := 1, src := p.dst, dst := p.src, op := if p.op = 0x01 then 0x10 else 0x11, status := status,
                    data := data, mask := [], syn := syn }

/-- The answer that the initiator's own stop gives: it takes no transit (R363, R370, R487). -/
def ownStop (d : Dev) (p : Pkt) (status : Nat) : Dev :=
  { d with fab := { d.fab with flight := d.fab.flight ++ [answerTo { p with dst := p.src } status [] []] } }

/-- Inject a packet: it takes the ring of its pair, or the torus, which is counted (R363, R365, R367). -/
def inject (d : Dev) (p : Pkt) : Dev :=
  let t := !ringFree d p.src p.dst
  let p := sealed { p with tor := t, epoch := (b2n (rbit d Reg.FAB_STATUS 1) + b2n (d.fab.flipped.testBit p.src)) % 2 }
  let d := if t then cnt d Reg.FAB_CNT_TORUS 1 else d
  { d with fab := { d.fab with flight := d.fab.flight ++ [p] } }

/-- Whether a control-block index is one that R37 lists (R487). -/
def blockListed (a : Nat) : Bool :=
  let i := (a - 0x3000000000) / 0x100000
  decide (i < 0x14) || decide (0x20 ≤ i ∧ i < 0x2C) || decide (0x40 ≤ i ∧ i < 0x60)

/-- The status with which the initiator's own stop answers at once, 0 if the request enters the fabric (R363, R487). -/
def ownAnswer (d : Dev) (who : Who) (a n : Nat) : Nat :=
  if !inRegion a n then 1
  else if 0x3000000000 ≤ a ∧ a < 0x3010000000 ∧ !blockListed a then 1
  else if !ringFree d (srcStop who) (stopOf a) && !torFree d (srcStop who) (stopOf a) then 6
  else 0

/-- Issue a request: READ (0x01), WRITE (0x02) or DOORBELL (0x20). The stop tracks it until it is answered (R370). The tag
returned names it. -/
def sendReq (d : Dev) (who : Who) (op a n prio : Nat) (data : List Byte) (mask : List Bool) (syn : List Nat) : Dev × Nat :=
  let tag := d.fab.nextTag
  let p : Pkt := { who := who, vn := opVn op, prio := prio % 4, epoch := 0, tor := false, src := srcStop who, dst := stopOf a,
                   port := srcPort who, op := op, tag := tag, lenm1 := n - 1, born := bornNow d, addr := a % 2 ^ 48,
                   status := 0, hcrc := 0, data := data, mask := mask, syn := syn }
  let d := { d with fab := { d.fab with nextTag := (tag + 1) % 2 ^ 16, outst := d.fab.outst ++ [sealed p] } }
  let st := ownAnswer d who a n
  if st = 0 then (inject d p, tag)
  else
    let d := if st = 6 then
        let d := sbit (cnt d Reg.FAB_CNT_UNREACH 1) Reg.FAB_STATUS 4
        if rbit d Reg.FAB_CTRL 1 then hlkSrc d 4 else d
      else d
    (ownStop d p st, tag)

/-- A CTL packet without an answer: an interrupt to a core or the host link (R356). -/
def sendIrq (d : Dev) (core source : Nat) : Dev := { d with owed := d.owed ++ [.irq core source] }

end Sys2Proof.Machine
end

