-- ==== Sys2Proof/Machine/Operands.lean ====
section
/-! DEFINITION. Register operands of Glesen instructions: register codes (R113), the rotating map of logical to physical
names (R78, R137), reads, and the landing of results (R69, R73). -/

namespace Sys2Proof.Machine

/-! ## Register codes (R113) -/

def cS (i : Nat) : Nat := i
def cA (i : Nat) : Nat := 0x20 + i
def cM (i : Nat) : Nat := 0x30 + i
def cAcc (i : Nat) : Nat := 0x38 + i
def cP (i : Nat) : Nat := 0x40 + i
def cBase (i : Nat) : Nat := 0x50 + i
def cCtl (i : Nat) : Nat := 0x58 + i
def cV (i : Nat) : Nat := 0x60 + i
def cVm (i : Nat) : Nat := 0x80 + i
def cC (i : Nat) : Nat := 0x90 + i
def codeVl : Nat := 0x88
def codeVff : Nat := 0x89
def codeRrb : Nat := 0x4A

/-- The physical register behind a logical name, under `rrb` (R78). -/
def phys (rrb code : Nat) : Nat :=
  if 0x10 ≤ code ∧ code < 0x20 then 0x10 + (code - 0x10 + 16 - rrb % 16) % 16
  else if 0x44 ≤ code ∧ code < 0x48 then 0x44 + (code - 0x44 + 16 - rrb % 16) % 4
  else if 0x70 ≤ code ∧ code < 0x80 then 0x70 + (code - 0x70 + 16 - rrb % 16) % 16
  else code

/-- Codes that `mov` accepts (R117). -/
def movCode (k : Nat) : Bool := decide (k ≤ 0x37) || decide (0x40 ≤ k ∧ k ≤ 0x4A) || decide (0x50 ≤ k ∧ k ≤ 0x5F)
/-- Codes of banked registers (R77, R117). -/
def bankedCode (k : Nat) : Bool := decide (k ≤ 0x4A) || decide (0x50 ≤ k ∧ k ≤ 0x5F)
def accCode (k : Nat) : Bool := decide (0x38 ≤ k ∧ k ≤ 0x3F)

/-! ## Reading and writing a bank -/

/-- The value of the register with a physical code in a bank: `p0` reads 1, predicates read 0 or 1, `rrb` four bits,
an accumulator its 40 bits. -/
def bankRead (b : Bank) (code : Nat) : Nat :=
  if accCode code then (mget 0 b.acc (code - 0x38)).toNat
  else if code = 0x40 then 1
  else (mget 0 b.gp code).toNat

/-- Set the register with a physical code: `p0` ignores it, a predicate takes bit 0, `rrb` bits [3:0] (R71, R117). -/
def bankWrite (b : Bank) (code v : Nat) : Bank :=
  if accCode code then { b with acc := mput 0 b.acc (code - 0x38) (BitVec.ofNat 40 v) }
  else if code = 0x40 then b
  else if 0x41 ≤ code ∧ code ≤ 0x47 then { b with gp := mput 0 b.gp code (word (v % 2)) }
  else if code = codeRrb then { b with gp := mput 0 b.gp code (word (v % 16)) }
  else { b with gp := mput 0 b.gp code (word v) }

/-- The rotating register base of a bank. -/
def rrbOf (b : Bank) : Nat := (mget 0 b.gp codeRrb).toNat % 16

/-- A vector register by physical number 0 to 31. -/
def vReg (x : Core) (i : Nat) : Nat := (mget 0 x.v i).toNat
/-- A BCP register. -/
def cReg (x : Core) (i : Nat) : Nat := (mget 0 x.c i).toNat

/-- A BCP register as a reader of program order finds it: a held `mtc` counts (R170). -/
def cVal (x : Core) (i : Nat) : Nat :=
  x.bcp.queue.foldl (fun v k => k.mtc.foldl (fun v w => if w.1 = i then w.2 else v) v) (cReg x i)

/-! ## Landing (R69, R73) -/

/-- One result lands in its register. -/
def applyRes (x : Core) (r : Inflight) : Core :=
  if r.code < 0x60 then setBank x r.bank (bankWrite (bankOf x r.bank) r.code r.val)
  else if r.code < 0x80 then
    let old := vReg x (r.code - 0x60)
    let full := 2 ^ 512 - 1
    { x with v := mput 0 x.v (r.code - 0x60) (BitVec.ofNat 512 ((old &&& (full ^^^ (r.mask &&& full))) ||| (r.val &&& r.mask))) }
  else if r.code < 0x88 then { x with vm := mput 0 x.vm (r.code - 0x80) (BitVec.ofNat 64 r.val) }
  else if r.code = codeVl then { x with vl := BitVec.ofNat 7 r.val }
  else if r.code = codeVff then { x with vff := BitVec.ofNat 6 r.val }
  else { x with c := mput 0 x.c (r.code - 0x90) (BitVec.ofNat 128 r.val) }

/-- Land every result of a bank that is due for bundle count `n`: by landing bundle, then by issue (R73). -/
def landUpTo (x : Core) (bank n : Nat) : Core :=
  let due (r : Inflight) : Bool := decide (r.bank = bank ∧ r.land ≤ n)
  let rs := (x.flight.filter due).foldl (fun l r => insertBy (fun r => r.land) r l) []
  rs.foldl applyRes { x with flight := x.flight.filter (fun r => !due r) }

/-- Land everything a bank has in flight (R96). -/
def landBank (x : Core) (bank : Nat) : Core :=
  let rs := (x.flight.filter (fun r => decide (r.bank = bank))).foldl (fun l r => insertBy (fun r => r.land) r l) []
  rs.foldl applyRes { x with flight := x.flight.filter (fun r => decide (r.bank ≠ bank)) }

/-- Land everything in flight (R119). -/
def landAll (x : Core) : Core := landBank (landBank (landBank x 0) 1) 2

/-! ## What an instruction sees -/

/-- The context of an instruction: the device, core, bank and its registers before the bundle, the bundle's index and
the instruction's address. -/
structure Ctx where
  d : Dev
  c : Nat
  x : Core
  bank : Nat
  b : Bank
  rrb : Nat
  n : Nat
  pc : Nat

/-- A register read by its logical code (R69, R78). -/
def Ctx.rd (k : Ctx) (code : Nat) : Nat := bankRead k.b (phys k.rrb code)
def Ctx.s (k : Ctx) (i : Nat) : Nat := k.rd (cS i)
def Ctx.a (k : Ctx) (i : Nat) : Nat := k.rd (cA i)
/-- A vector register by its logical number. -/
def Ctx.v (k : Ctx) (i : Nat) : Nat := vReg k.x (phys k.rrb (cV i) - 0x60)
def Ctx.vm (k : Ctx) (i : Nat) : Nat := (mget 0 k.x.vm i).toNat
def Ctx.vl (k : Ctx) : Nat := k.x.vl.toNat

/-- The accumulator input of an M-MAC or M-FIR instruction: an M-MAC result still in flight is forwarded (R125). -/
def Ctx.accF (k : Ctx) (i : Nat) : Int :=
  let v := (k.x.flight.filter (fun r => r.mac && decide (r.bank = k.bank ∧ r.code = cAcc i))).foldl (fun _ r => some r.val)
    (none : Option Nat)
  sx 40 (v.getD (k.rd (cAcc i)))
/-- An accumulator as every other reader sees it. -/
def Ctx.acc (k : Ctx) (i : Nat) : Int := sx 40 (k.rd (cAcc i))

/-- A result of latency `lat` for a logical code. -/
def Ctx.res (k : Ctx) (code val lat : Nat) : Inflight :=
  ⟨k.bank, phys k.rrb code, val, 2 ^ 512 - 1, k.n + lat, k.n, false⟩

/-- Add results to the bundle. -/
def Bundle.put (b : Bundle) (rs : List Inflight) : Bundle := { b with res := b.res ++ rs }
/-- Add a fault of the bundle. -/
def Bundle.fail (b : Bundle) (code slot : Nat) : Bundle := { b with faults := b.faults ++ [⟨code, slot, 0, 0, 0, 0, 0, false⟩] }
/-- Add a fault with its local address and element. -/
def Bundle.failAt (b : Bundle) (code slot elem eaddr : Nat) : Bundle :=
  { b with faults := b.faults ++ [⟨code, slot, elem, eaddr, 0, 0, 0, false⟩] }

/-! ## Groups (R112, R139) -/

def isEven (i : Nat) : Bool := decide (i % 2 = 0)
def isQuad (i : Nat) : Bool := decide (i % 4 = 0)
/-- A five-bit field that names an `a` register: bit 4 must be 0. -/
def isA (i : Nat) : Bool := decide (i < 16)
/-- A five-bit field that names an `m`, `acc` or `p` register. -/
def isM (i : Nat) : Bool := decide (i < 8)
/-- `n` consecutive codes from `c`. -/
def codes (c n : Nat) : List Nat := (List.range n).map (fun i => c + i)
/-- The three parts of a modifier register. -/
def cMod (i : Nat) : List Nat := [cM i, cBase i, cCtl i]

end Sys2Proof.Machine
end

