-- ==== Sys2Proof/Machine/Flags.lean ====
section
/-! DEFINITION. Numerics that several slots share: rounding shifts and the overflow flag of extraction (R126), clamps of
parts (R17, R130, R146), the complex products (R123, R131, R147), and modifier updates of addresses (R86 to R88). -/

namespace Sys2Proof.Machine

/-- The part of `x` at bits [16i+15:16i], signed. -/
def half (x i : Nat) : Int := sx 16 (x / 2 ^ (16 * i))

/-- A complex 16-bit word from two integers modulo 2^16. -/
def mkC (re im : Int) : Nat := pat 16 re + 2 ^ 16 * pat 16 im

/-- R126: shift right by `sh` with rounding RM 0 (truncate), 1 (half-up) or 2 (convergent). -/
def roundShift (rm : Nat) (a : Int) (sh : Nat) : Int :=
  let m : Int := (2 ^ sh : Nat)
  let q := a / m
  let r := a - q * m
  let h : Int := (2 ^ (sh - 1) : Nat)
  if sh = 0 ∨ rm = 0 then q
  else if rm = 1 then (if r ≥ h then q + 1 else q)
  else if r > h ∨ (r = h ∧ q % 2 ≠ 0) then q + 1 else q

/-- Whether an integer lies outside n signed bits: what sets PF (R126). -/
def outside (n : Nat) (y : Int) : Bool := decide (sat n y ≠ y)

/-- The n-bit result of an extraction: clamped when SAT = 1, else modulo 2^n (R126). -/
def narrow (n : Nat) (clamp : Bool) (y : Int) : Nat := pat n (if clamp then sat n y else y)

/-- A 40-bit accumulator value: modulo 2^40, or clamped (R124 step 5). -/
def acc40 (clamp : Bool) (v : Int) : Nat := pat 40 (if clamp then sat 40 v else v)

/-- Real and imaginary part of a × b, or of a × conj(b) (R131, R147). -/
def cprod (conj : Bool) (a b : Nat) : Int × Int :=
  let ar := half a 0
  let ai := half a 1
  let br := half b 0
  let bi := half b 1
  if conj then (ar * br + ai * bi, ai * br - ar * bi) else (ar * br - ai * bi, ar * bi + ai * br)

/-- The Q15 complex product: each part shifted right by 15, convergent, saturated (R131, R147). -/
def cmulQ15 (conj : Bool) (a b : Nat) : Nat :=
  let (re, im) := cprod conj a b
  mkC (sat 16 (roundShift 2 re 15)) (sat 16 (roundShift 2 im 15))

/-- Bits below bit 15 that equal bit 15 (R150). -/
def cls16 (x : Int) : Nat :=
  let p := pat 16 x
  let s := p.testBit 15
  ((List.range 15).takeWhile (fun i => p.testBit (14 - i) == s)).length

/-! ## Modifier updates (R86 to R88) -/

/-- Reverse the low n bits. -/
def revBits (n x : Nat) : Nat := (List.range n).foldl (fun acc i => if x.testBit i then acc ||| 2 ^ (n - 1 - i) else acc) 0

/-- The updated address, or none for the reserved MODE 3 (R87, R88). A modifier with a must-be-0 field that is not 0 gives
a free address: the spec states none. -/
def modUpdate (an inc base ctl : Nat) : Option Nat :=
  let lin := (an + inc) % 2 ^ 32
  let open_ : Nat := Config.free 42 (an + inc * 2 ^ 32 + base * 2 ^ 64 + ctl * 2 ^ 96) % 2 ^ 32
  if bits ctl 29 24 ≠ 0 ∧ bits ctl 31 30 ≠ 3 then some open_
  else match bits ctl 31 30 with
    | 0 => some lin
    | 1 =>
      let len := bits ctl 23 0
      if len = 0 then some lin
      else
        let o : Int := ((an : Int) - (base : Int) + sx 32 inc) % (len : Int)
        some ((base + o.toNat) % 2 ^ 32)
    | 2 =>
      if bits ctl 23 10 ≠ 0 ∨ bits ctl 7 5 ≠ 0 then some open_
      else
        let n := min 16 (bits ctl 4 0)
        if n = 0 then some lin
        else
          let esz := bits ctl 9 8
          let off := (an + 2 ^ 32 - base) % 2 ^ 32
          let k := bits off (esz + n - 1) esz
          let j : Int := sx 32 inc / (2 ^ esz : Nat)
          let knew := revBits n (((revBits n k : Int) + j) % (2 ^ n : Nat)).toNat
          some ((base + setBits off (esz + n - 1) esz knew) % 2 ^ 32)
    | _ => none

end Sys2Proof.Machine
end

