-- ==== Sys2Proof/Machine/CcrOps.lean ====
section
/-! DEFINITION. Core control registers as loads, stores and other units reach them (R81, R102, R103, R109), the generic
effect of access codes on a register word (R20 to R22), and the DMA registers (R105, R108). -/

namespace Sys2Proof.Machine

/-! ## Access codes (R20) -/

/-- The mask of the fields of the word at `a` whose access code satisfies `p`. -/
def accMask (a : Nat) (p : Acc → Bool) : Nat :=
  match findReg a with
  | some (r, o) => maskOf (fun f => p f.acc) r.flds (o / 4 * 4)
  | none => 0

/-- What a write of `v` does to the word at `a` by its access codes alone: RW takes the value, W1C clears, W1S sets, the
others ignore it; WO and STG fields act elsewhere. -/
def plainWrite (d : Dev) (a v : Nat) : Dev :=
  let old := rw d a
  let m := accMask a (fun x => decide (x = .rw))
  let c := accMask a (fun x => decide (x = .w1c))
  let s := accMask a (fun x => decide (x = .w1s))
  let full := 2 ^ 32 - 1
  let new := (old &&& (full ^^^ m)) ||| (v &&& m)
  let new := new &&& (full ^^^ (v &&& c))
  ww d a (new ||| (v &&& s))

/-! ## DMA channel registers (R105, R108) -/

/-- The transfer that the eight words describe, with NOTIFY and TAG of the GO (R105). -/
def dmaXfer (d : Dev) (c : Nat) (v : Nat) : Xfer :=
  let w (i : Nat) : Nat := rw d (ccr c (0x100 + 4 * i))
  let fill := bit (w 5) 19
  { src := w 0 + bits (w 1) 15 0 * 2 ^ 32, dst := w 2 + bits (w 3) 15 0 * 2 ^ 32, rlen := bits (w 4) 23 0,
    nrows := bits (w 5) 15 0 + 1, irq := bit (w 5) 16, ntEn := bit (w 5) 17, ntEv := bit (w 5) 18, fill := fill, sstr := w 6,
    dstr := w 7,
    zerosOk := decide (bits (w 1) 31 16 = 0) && decide (bits (w 3) 31 16 = 0) && decide (bits (w 4) 31 24 = 0)
      && decide (bits (w 5) 31 20 = 0) && (!fill || decide (w 0 = 0 ∧ bits (w 1) 15 0 = 0)),
    notify := bits v 23 0, tag := bits v 47 32, abort := false }

/-- An 8-byte write of CCR_DMA_GO: a transfer is queued, or refused when 16 are (R105, R108). -/
def dmaGo (d : Dev) (c v : Nat) : Dev :=
  let x := dmaOf d c
  if 16 ≤ x.q.length then cnt (sbit d (ccr c 0x128) 6) (Reg.CLU_CNT_DMA_REF (c / 8)) 1
  else setDma d c { x with q := x.q ++ [dmaXfer d c v] }

/-! ## CCR reads and writes (R102, R109) -/

/-- The value of the word at offset `o` of the control registers of core `c`: identity, remote counts and DMA state are
computed; cycle counts are free values (timing is outside the model). -/
def ccrWord (d : Dev) (c o : Nat) : Nat :=
  let x := coreOf d c
  match o with
  | 0x000 => c % 8 + c / 8 % 32 * 2 ^ 3 + bits (rw d (Reg.CLU_MAP (c / 8))) (4 * (c % 8) + 3) (4 * (c % 8)) * 2 ^ 8
  | 0x058 => min 15 (x.rmt.filter (fun r => !r.isSt)).length + min 31 (x.rmt.filter (fun r => r.isSt)).length * 2 ^ 4
  | 0x060 | 0x064 | 0x070 | 0x074 => fresh d (0x100 + o) % 2 ^ 32
  | 0x128 =>
    let q := dmaOf d c
    setBits (setBits (rw d (ccr c 0x128)) 4 0 q.q.length) 5 5 (b2n q.run)
  | _ => rw d (ccr c o) &&& (2 ^ 32 - 1 - accMask (ccr c o) (fun a => decide (a = .wo ∨ a = .rsv)))

/-- Whether a control-register access of `n` bytes is one that R18 and R19 allow (R81). -/
def ccrOk (c o n : Nat) (isSt : Bool) : Bool :=
  match findReg (ccr c o) with
  | some (r, k) =>
    if n = 8 then decide (r.size = 8 ∧ k = 0) else decide (n = 4 ∧ o % 4 = 0) && !(isSt && decide (o = 0x120 ∨ o = 0x124))
  | none => false

/-- A store to a control register takes effect (R90, R102, R103, R105, R108). -/
def ccrStore (d : Dev) (c o n v : Nat) : Dev :=
  if o = 0x120 ∧ n = 8 then dmaGo d c v
  else if o = 0x01C then
    let a := ccr c 0x010
    ww d a (rw d a ||| bits v 23 8 * 2 ^ 8)
  else if o = 0x12C then (if bit v 0 then dmaAbort d c else d)
  else
    let d := plainWrite d (ccr c o) (v % 2 ^ 32)
    if n = 8 then plainWrite d (ccr c (o + 4)) (v / 2 ^ 32) else d

/-- Stores of bank `bank` that are due for bundle count `n` take effect, oldest first (A-CCR, R72). -/
def ccrLand (d : Dev) (c bank n : Nat) : Dev :=
  let x := coreOf d c
  let due (s : CcrSt) : Bool := decide (s.bank = bank ∧ s.land ≤ n)
  let d := setCore d c { x with ccr := x.ccr.filter (fun s => !due s) }
  (x.ccr.filter due).foldl (fun d s => ccrStore d c s.off s.bytes s.val) d

/-- Every store of a bank takes effect (R96 step 3). -/
def ccrLandBank (d : Dev) (c bank : Nat) : Dev :=
  let x := coreOf d c
  let due (s : CcrSt) : Bool := decide (s.bank = bank)
  let d := setCore d c { x with ccr := x.ccr.filter (fun s => !due s) }
  (x.ccr.filter due).foldl (fun d s => ccrStore d c s.off s.bytes s.val) d

end Sys2Proof.Machine
end

