-- ==== Sys2Proof/Machine/Issue.lean ====
section
/-! DEFINITION. How a Glesen core issues an instruction and commits a bundle (R66 to R76), the local data map (R81, R83),
remote accesses (R84, R85), hardware-loop checks (R132 to R136), entry to a handler (R95) and the end of an item (R119). -/

namespace Sys2Proof.Machine

/-! ## Program memory (R82) -/

/-- The die address behind a program address. -/
def progAddr (c a : Nat) : Nat := if a < 0x10000 then pmBase c + a else cpmBase (c / 8) + (a - 0x100000)

/-- EOB of the instruction word at a program address, which finds where bundles end. -/
def progEob (d : Dev) (c a : Nat) : Bool := if inProgMap a then bit (getNum d.mem (progAddr c a) 4) 31 else true

/-- The address after the bundle that starts at `a`: its first instruction with EOB = 1, or the packet's end (R66, R67). -/
def bundleEnd (d : Dev) (c a : Nat) : Nat :=
  let last := a / 16 * 16 + 12
  if a = last ∨ progEob d c a then a + 4
  else if a + 4 = last ∨ progEob d c (a + 4) then a + 8
  else if a + 8 = last ∨ progEob d c (a + 8) then a + 12
  else a + 16

/-! ## The local data map (R81, R83) -/

/-- A row of the local data map. -/
inductive LRow where
  | ldm | cmem | bcp | ccr | win (w : Nat)
  deriving DecidableEq, Repr

/-- The row that holds all `n` bytes from local address `a`. -/
def localRow (a n : Nat) : Option LRow :=
  let within (lo hi : Nat) : Bool := decide (lo ≤ a ∧ a + n ≤ hi + 1)
  if within 0 0x3FFFF then some .ldm
  else if within 0x400000 0x7FFFFF then some .cmem
  else if within 0xF00000 0xF000FF then some .bcp
  else if within 0xF10000 0xF10FFF then some .ccr
  else if within 0x10000000 0x1FFFFFFF then some (.win 0)
  else if within 0x20000000 0x2FFFFFFF then some (.win 1)
  else none

/-- The die address of a remote local address, and the fabric priority (R83). -/
def remoteAddr (d : Dev) (c : Nat) (r : LRow) (a : Nat) : Nat × Nat :=
  match r with
  | .win w =>
    let v := rw d (ccr c (0x050 + 4 * w))
    ((bits v 19 0 * 2 ^ 28 + (a - (0x10000000 + w * 0x10000000))) % 2 ^ 48, bits v 29 28)
  | _ => (cmemBase (c / 8) + (a - 0x400000), 0)

/-- Offsets of BCP registers (R158). -/
def bcpOffsetOk (o : Nat) : Bool := decide (o % 4 = 0 ∧ o ≤ 0x14)

/-- The exception of a scalar access, 0 if none (R81, R83, R158): ACCESS where no row holds every byte, then MISALIGN, then
ACCESS by the rules of the row. `wordOp`: `ld.w` or `st.w`. -/
def scalarFault (d : Dev) (c a n : Nat) (isSt wordOp : Bool) : Nat :=
  match localRow a n with
  | none => 5
  | some r =>
    if a % n ≠ 0 then 4
    else match r with
      | .bcp => if wordOp && bcpOffsetOk (a - 0xF00000) then 0 else 5
      | .ccr => if ccrOk c (a - 0xF10000) n isSt then 0 else 5
      | .win w => if rbit d (ccr c (0x050 + 4 * w)) 31 then 0 else 5
      | _ => 0

/-! ## Stalls (R74, R84, R170) -/

/-- The `c` registers that a BCP command reads and writes (R162). -/
def bcpReads (w : Nat) : List Nat :=
  match bits w 7 0 with
  | 0x02 => [bits w 19 16] | 0x03 => [bits w 15 12, bits w 11 8, bits w 19 16] | 0x04 => [bits w 15 12, bits w 11 8]
  | 0x10 => [bits w 19 16] | 0x11 => [bits w 11 8] | 0x21 => List.range 16 | _ => []
def bcpWrites (w : Nat) : List Nat :=
  match bits w 7 0 with
  | 0x01 => [bits w 11 8] | 0x02 => [bits w 11 8, bits w 19 16] | 0x03 => [bits w 11 8, bits w 19 16]
  | 0x04 => [bits w 11 8] | 0x10 => [bits w 19 16] | 0x11 => [bits w 11 8] | 0x22 => List.range 16 | _ => []

/-- A CPRST has not completed (R170). -/
def cprstPending (x : Core) : Bool := x.bcp.queue.any (fun k => decide (bits k.w 7 0 = 0x22))

/-- A register awaits a remote load (R84). -/
def awaiting (x : Core) (bank code : Nat) : Bool :=
  x.rmt.any (fun r => !r.isSt && decide (r.bank = bank) && r.dests.contains code)

/-! ## What an instruction does -/

/-- An instruction as its bundle sees it: whether its encoding is legal (R114), the registers it reads and writes by
logical code, whether it is a control transfer, whether a stall of R74 holds it, and its effect on the bundle when its
guard is true. `mem`: 1 an A-slot load or store, 2 a V-slot memory instruction (R129). -/
structure Op where
  legal : Bool
  reads : List Nat
  dests : List Nat
  ct : Bool
  stall : Bool
  mem : Nat
  eff : Bundle → Bundle

/-- A plain operation: registers read and written, and the results. -/
def Op.alu (legal : Bool) (reads dests : List Nat) (rs : List Inflight) : Op :=
  { legal := legal, reads := reads, dests := dests, ct := false, stall := false, mem := 0, eff := fun b => b.put rs }

/-- A bundle that opens at `a`. -/
def Bundle.open_ (a : Nat) : Bundle :=
  { slots := [], dests := [], addr := a, next := a, faults := [], res := [], ops := [], stores := [], rmt := [], ccr := [],
    bcp := [], mtc := [], bankWr := [], ct := false, taken := false, target := 0, leaves := false, memA := false,
    memV := false, fir := false, loop := none, reti := false, done := none, brk := false, acc := [] }

/-! ## Commit -/

/-- Which of several faults is reported: the bundle's own (ILLEGAL_BUNDLE, ILLEGAL_SEQ) first, then by slot (R98). -/
def pickFault (fs : List Flt) : Option Flt :=
  match fs.find? (fun f => decide (f.code = 2)) with
  | some f => some f
  | none => (List.range 4).findSome? (fun s => fs.find? (fun f => decide (f.slot = s)))

/-- Whether loop `l` is active, with its START and END. -/
def lpOf (b : Bank) (l : Nat) : Lp := if l = 0 then b.lp0 else b.lp1

/-- LOOP_ERR of a loop setup (R132, R134, R135). -/
def loopFault (d : Dev) (c : Nat) (x : Core) (b : Bank) (bun : Bundle) : Bool :=
  match bun.loop with
  | none => false
  | some (l, count, stop, _, rot) =>
    decide (count = 0) || decide (stop < bun.next) || (decide (l = 0) && b.lp1.active) || (lpOf b l).active
    || (decide (l = 1) && b.lp0.active && decide (bundleEnd d c b.lp0.stop ≤ stop))
    || (rot && ((b.lp0.active && b.lp0.rot) || (b.lp1.active && b.lp1.rot))) || decide (0 < x.dly)

/-- LOOP_ERR of a control transfer near the END of an active loop (R135). -/
def ctLoopFault (d : Dev) (c : Nat) (b : Bank) (bun : Bundle) : Bool :=
  let e1 := bundleEnd d c bun.next
  let e2 := bundleEnd d c e1
  bun.ct && [b.lp0, b.lp1].any (fun l => l.active && decide (bun.addr ≤ l.stop ∧ l.stop < e2))

/-- The bytes of a load as destination values: kinds 0 b, 1 bu, 2 h, 3 hu, 4 w, 5 d, 6 q, 7 a, 8 acc, 9 m (R120). -/
def loadVals (kind v : Nat) : List Nat :=
  match kind with
  | 0 => [pat 32 (sx 8 v)] | 1 => [v % 2 ^ 8] | 2 => [pat 32 (sx 16 v)] | 3 => [v % 2 ^ 16] | 4 => [v % 2 ^ 32]
  | 5 => [v % 2 ^ 32, v / 2 ^ 32 % 2 ^ 32]
  | 6 => [v % 2 ^ 32, v / 2 ^ 32 % 2 ^ 32, v / 2 ^ 64 % 2 ^ 32, v / 2 ^ 96 % 2 ^ 32]
  | 7 => [v % 2 ^ 32] | 8 => [v % 2 ^ 40]
  | _ => [v % 2 ^ 32, v / 2 ^ 32 % 2 ^ 32, v / 2 ^ 64 % 2 ^ 32]

/-- The size of a load or store kind. -/
def kindSize (kind : Nat) : Nat := [1, 1, 2, 2, 4, 8, 16, 4, 8, 16].getD kind 4

/-- The registers of a load or store kind, by logical code. -/
def kindCodes (kind rt : Nat) : List Nat :=
  match kind with
  | 5 => codes (cS rt) 2 | 6 => codes (cS rt) 4 | 7 => [cA rt] | 8 => [cAcc rt] | 9 => cMod rt | _ => [cS rt]

/-- A BCP register load (R158). -/
def bcpLoad (x : Core) (o : Nat) : Nat :=
  match o with
  | 0x04 => x.bcp.arg0.toNat | 0x08 => x.bcp.arg1.toNat | 0x0C => x.bcp.arg2.toNat | 0x10 => x.bcp.arg3.toNat
  | 0x14 => b2n (decide (0 < x.bcp.queue.length)) + min 4 x.bcp.queue.length * 2 + x.bcp.err.toNat * 2 ^ 8
            + x.bcp.errcmd.toNat * 2 ^ 16 + x.bcp.done.toNat * 2 ^ 24
  | _ => 0

/-- The deferred exception of a local read that finds a failing line (R100, R128, R156). -/
def ldmCrc (bank dreg eaddr : Nat) : Flt := ⟨0x11, 0, 0, eaddr, bank, dreg, 0, false⟩

/-- The first element of a vector load whose bytes lie in a line that fails. -/
def firstFailing (d : Dev) (c size : Nat) : List (Nat × Nat) → Option Nat
  | [] => none
  | (_, a) :: es =>
    match testLines d (linesOf (ldmBase c + a) size) with
    | (_, .ok) => firstFailing d c size es
    | _ => some a

/-- The results of one read of the bundle, with the device after the lines are tested and a deferred fault (R80, R122,
R128, R151, R155, R156). `t` is the bundle's index. -/
def doOp (d : Dev) (c : Nat) (x : Core) (bank t : Nat) : MemOp → Dev × List Inflight × List PSt × List Flt
  | .load addr kind dests dreg =>
    let n := kindSize kind
    let put (vs : List Nat) (lat : Nat) : List Inflight :=
      (dests.zip vs).map (fun e => ⟨bank, e.1, e.2, 2 ^ 512 - 1, t + lat, t, false⟩)
    match localRow addr n with
    | some .bcp => (d, put [bcpLoad x (addr - 0xF00000)] 4, [], [])
    | some .ccr =>
      let o := addr - 0xF10000
      let v := ccrWord d c o + (if n = 8 then ccrWord d c (o + 4) * 2 ^ 32 else 0)
      (used d, put (loadVals kind v) 4, [], [])
    | _ =>
      match memRead d (ldmBase c + addr) n with
      | (d, .ok, bs) => (d, put (loadVals kind (ofBytes bs)) 4, [], [])
      | (d, _, _) => (d, [], [], [ldmCrc bank dreg addr])
  | .fir addr acd mode frac clamp =>
    match memRead d (ldmBase c + addr) 8 with
    | (d, .ok, bs) =>
      let v := ofBytes bs
      let sa := v % 2 ^ 32
      let sb := v / 2 ^ 32
      let k : Ctx := ⟨d, c, x, bank, bankOf x bank, rrbOf (bankOf x bank), t, 0⟩
      let tm (i j : Nat) : Int := (if frac then 2 else 1) * (half sa i * half sb j)
      let (re, im) := match mode with
        | 0 => (tm 0 0 - tm 1 1, tm 0 1 + tm 1 0)
        | 1 => (tm 0 0 + tm 1 1, tm 1 0 - tm 0 1)
        | _ => (tm 0 0, tm 1 1)
      let out (i : Nat) (v : Int) : Inflight := ⟨bank, cAcc i, acc40 clamp (k.accF i + v), 2 ^ 512 - 1, t + 3, t, true⟩
      (d, [out acd re, out (acd + 1) im], [⟨addr + 8, toBytes 4 sa, true⟩], [])
    | (d, _, _) => (d, [], [], [ldmCrc bank (cAcc acd) addr])
  | .vload size els regs vt lat ff upd =>
    match firstFailing d c size els with
    | some a =>
      let (d, _) := testLines d (els.flatMap (fun e => linesOf (ldmBase c + e.2) size)).eraseDups
      (d, [], [], [ldmCrc bank (cV vt) a])
    | none =>
      let d := if els = [] then d else (testLines d (els.flatMap (fun e => linesOf (ldmBase c + e.2) size)).eraseDups).1
      let per := 64 / size
      let rs := (List.range regs.length).map (fun i =>
        let mine := els.filter (fun e => decide (e.1 / per = i))
        let val := mine.foldl (fun v e => v ||| getNum d.mem (ldmBase c + e.2) size * 2 ^ (8 * size * (e.1 % per))) 0
        let mask := mine.foldl (fun v e => v ||| (2 ^ (8 * size) - 1) * 2 ^ (8 * size * (e.1 % per))) 0
        (⟨bank, regs.getD i 0, val, mask, t + lat, t, false⟩ : Inflight))
      let vf := match ff with | some f => [(⟨bank, codeVff, f, 2 ^ 512 - 1, t + lat, t, false⟩ : Inflight)] | none => []
      let up := match upd with | some (k, v) => [(⟨bank, k, v, 2 ^ 512 - 1, t + 1, t, false⟩ : Inflight)] | none => []
      (d, rs ++ vf ++ up, [], [])

/-- All reads of the bundle. -/
def doOps (d : Dev) (c : Nat) (x : Core) (bank t : Nat) : List MemOp → Dev × List Inflight × List PSt × List Flt
  | [] => (d, [], [], [])
  | o :: os =>
    let (d, r, p, f) := doOp d c x bank t o
    let (d, r', p', f') := doOps d c x bank t os
    (d, r ++ r', p ++ p', f ++ f')

/-- The BCP entries of a committed bundle are applied: ARG values, then a command with the values that stand (R159, R171).
An `mtc` of the bundle waits for its command (R170). -/
def bcpApply (x : Core) (ctx : Nat) (mtc : List (Nat × Nat)) : List BcpEntry → Core
  | [] => x
  | .arg i v :: es =>
    let b := x.bcp
    let b := match i with
      | 0 => { b with arg0 := word v } | 1 => { b with arg1 := word v } | 2 => { b with arg2 := word v }
      | _ => { b with arg3 := BitVec.ofNat 16 v }
    bcpApply { x with bcp := b } ctx mtc es
  | .cmd w :: es =>
    let b := x.bcp
    let k : BcpCmd := { w := w, arg0 := b.arg0.toNat, arg1 := b.arg1.toNat, arg2 := b.arg2.toNat, arg3 := b.arg3.toNat,
                        ctx := ctx, begun := false, res := [], err := 0, eaddr := 0, rst := none, mtc := mtc }
    bcpApply { x with bcp := { b with queue := b.queue ++ [k] } } ctx mtc es

/-- Send the remote accesses of a committed bundle (R84, R85). -/
def sendRmt (d : Dev) (c : Nat) : List Rmt → Dev × List Rmt
  | [] => (d, [])
  | r :: rs =>
    let (d, tag) := if r.isSt then sendReq d (.core c) (if 0x4000000000 ≤ r.addr ∧ r.addr < 0x4004000000 then 0x20 else 0x02)
                        r.addr r.bytes r.prio r.data [] []
                    else sendReq d (.core c) 0x01 r.addr r.bytes r.prio [] [] []
    let (d, rs) := sendRmt d c rs
    (d, { r with tag := tag } :: rs)

/-- The loops that a taken branch leaves become inactive (R136). -/
def leaveLoops (b : Bank) (target : Nat) : Bank :=
  let out (l : Lp) : Bool := l.active && !decide (l.start ≤ target ∧ target ≤ l.stop)
  if out b.lp0 then { b with lp0 := { b.lp0 with active := false }, lp1 := { b.lp1 with active := false } }
  else if out b.lp1 then { b with lp1 := { b.lp1 with active := false } } else b

/-- `done` reports once its delay bundles have issued and nothing of any bank is outstanding (R119). -/
def settleDone (d : Dev) (c : Nat) : Dev :=
  let x := coreOf d c
  match x.doneDue with
  | some (st, bank) =>
    if x.dly = 0 ∧ bank = levelOf d c ∧ x.rmt = [] ∧ x.bcp.queue = [] ∧
        x.deferred.all (fun f => decide (f.ctx ≠ levelOf d c)) then
      let d := setCore d c { landAll x with running := false, doneDue := none, retiDue := [], deferred := [] }
      let d := ccrLandBank (ccrLandBank (ccrLandBank d c 0) c 1) c 2
      { d with tsy := { d.tsy with reports := d.tsy.reports ++ [.done c st] } }
    else d
  | none => d

/-- Whether the watchpoints of R466 see an access of the committed bundle; kept until the next bundle commits. -/
def noteAcc (x : Core) (bun : Bundle) : Core := { x with acc := bun.acc }

/-- The effects of a bundle that commits (R69, R75, R80, R98, R133). -/
def commitOk (d : Dev) (c : Nat) (x : Core) (bun : Bundle) : Dev :=
  let bank := levelOf d c
  let b := bankOf x bank
  let t := b.count
  let inB (l : Lp) : Bool := l.active && decide (bun.addr ≤ l.stop ∧ l.stop < bun.next)
  let due : Option LpDue :=
    if inB b.lp0 || inB b.lp1 then
      some ⟨(mget 0 b.gp 0x48).toNat, (mget 0 b.gp 0x49).toNat, rrbOf b, inB b.lp0, inB b.lp1⟩ else none
  let (d, rs, ps, fs) := doOps d c x bank t bun.ops
  let d := ((bun.stores ++ ps).filter (fun p => !p.vslot)).foldl (fun d p => memPut d (ldmBase c + p.addr) p.data) d
  let d := ((bun.stores ++ ps).filter (fun p => p.vslot)).foldl (fun d p => memPut d (ldmBase c + p.addr) p.data) d
  let (d, rmt) := sendRmt d c bun.rmt
  let b := if bun.taken && bun.leaves then leaveLoops b bun.target else b
  let b := match bun.loop with
    | some (l, _, stop, stg, rot) =>
      let lp : Lp := ⟨bun.next, stop, true, rot, stg + 1⟩
      if l = 0 then { b with lp0 := lp } else { b with lp1 := lp }
    | none => b
  let x := setBank x bank { b with count := t + 1 }
  let hasCmd := bun.bcp.any (fun e => match e with | .cmd _ => true | _ => false)
  let mtc := if hasCmd then [] else bun.mtc.map (fun e => (⟨bank, cC e.1, e.2, 2 ^ 512 - 1, t + 1, t, false⟩ : Inflight))
  let x := { x with flight := x.flight ++ bun.res ++ rs ++ mtc, rmt := x.rmt ++ rmt, ccr := x.ccr ++ bun.ccr,
                    deferred := x.deferred ++ fs }
  let x := bcpApply x bank (if hasCmd then bun.mtc else []) bun.bcp
  let x := bun.bankWr.foldl (fun x w => setBank x w.1 (bankWrite (bankOf x w.1) w.2.1 w.2.2)) x
  let x := landUpTo x bank (t + 1)
  let delay := decide (0 < x.dly)
  let (dly, taken, target) := if delay then (x.dly - 1, x.dlyTaken, x.dlyTarget)
                              else if bun.ct then (2, bun.taken, bun.target) else (0, false, 0)
  let pc := if delay ∧ dly = 0 ∧ taken then target else bun.next
  let step := x.stepArm && decide (dly = 0)
  let x := noteAcc { x with bun := none, pc := pc, dly := dly, dlyTaken := taken, dlyTarget := target, lpDue := due, fresh := false,
                            bpSkip := false, stepArm := x.stepArm && !step,
                            retiDue := if bun.reti then x.retiDue ++ [bank] else x.retiDue,
                            doneDue := match bun.done with | some s => some (s, bank) | none => x.doneDue } bun
  let d := cnt (setCore d c x) (ccr c 0x068) 1
  let d := ccrLand d c bank (t + 1)
  let d := if bun.brk then raiseIrq d c 2 else d
  let d := if step then raiseIrq d c 1 else d
  settleDone d c

/-- The end of a bundle: it commits, or its precise exception waits to be taken (R68, R98, R129, R135). -/
def commit (d : Dev) (c : Nat) (x : Core) (bun : Bundle) : Dev :=
  let b := bankOf x (levelOf d c)
  let fs := bun.faults ++ (if bun.fir && (bun.memA || bun.memV) then [(⟨1, 2, 0, 0, 0, 0, 0, false⟩ : Flt)] else [])
    ++ (if loopFault d c x b bun || ctLoopFault d c b bun then [(⟨0x0B, 0, 0, 0, 0, 0, 0, false⟩ : Flt)] else [])
  match pickFault fs with
  | some f => setCore d c { x with bun := none, fault := some { f with ctx := levelOf d c } }
  | none => commitOk d c x bun

/-! ## Issue -/

/-- The boundary before a bundle admits a bundle: the item runs, no exception waits, and no loop evaluation, `reti` or
`done` is due (R96, R119, R133). -/
def mayIssue (d : Dev) (c : Nat) (x : Core) : Bool :=
  corePresent d.grade c && x.running && !rbit d (ccr c 0x004) 4 && decide (x.fault = none) && decide (x.lpDue = none)
  && !(decide (x.dly = 0) && (x.retiDue.contains (levelOf d c) ||
       (match x.doneDue with | some (_, b) => decide (b = levelOf d c) | none => false)))

/-- The fetch of the bundle at the pc: the map and alignment of R82 and R76, then the packet's line (R387, R390). -/
def fetch (d : Dev) (c a : Nat) : Dev × Ans :=
  if a % 4 ≠ 0 ∨ !inProgMap a then (d, .poison) else decideLine d (lineOf (progAddr c a)) false

/-- The guard predicate of an instruction (R71). -/
def guardOf (k : Ctx) (i : Iss) : Bool := decide (k.rd (cP i.pg.toNat) = 1)

/-- One instruction joins its bundle (R67, R68, R71, R76, R114). -/
def joinBundle (d : Dev) (i : Iss) (slot : Nat) (x : Core) (bun : Bundle) (op : Ctx → Op) : Dev :=
  let c := i.core
  let bank := levelOf d c
  let b := bankOf x bank
  let k : Ctx := ⟨d, c, x, bank, b, rrbOf b, b.count, bun.next⟩
  let o := op k
  let ph (l : List Nat) : List Nat := l.map (phys k.rrb)
  if o.stall || (ph o.reads ++ ph o.dests ++ [phys k.rrb (cP i.pg.toNat)]).any (awaiting x bank) then d
  else
    let bun := if bun.slots.contains slot || o.dests.any bun.dests.contains then bun.fail 2 slot else bun
    let bun := if o.ct && decide (0 < x.dly) then bun.fail 3 slot else bun
    let bun := { bun with slots := bun.slots ++ [slot], dests := bun.dests ++ o.dests, ct := bun.ct || o.ct,
                          memA := bun.memA || decide (o.mem = 1), memV := bun.memV || decide (o.mem = 2) }
    let bun := if guardOf k i then (if o.legal then o.eff bun else bun.fail 1 slot) else bun
    let bun := { bun with next := bun.next + 4 }
    if i.eob then commit d c x bun
    else if bun.next % 16 = 0 then commit d c x (bun.fail 2 slot)
    else setCore d c { x with bun := some bun }

/-- A core issues one instruction: the first of a bundle is fetched, later ones join it. An instruction that may not
issue, or that stalls, changes nothing. -/
def issue (i : Iss) (slot : Nat) (op : Ctx → Op) (d : Dev) : Dev :=
  let c := i.core
  let x := coreOf d c
  if !mayIssue d c x then d
  else match x.bun with
    | some bun => joinBundle d i slot x bun op
    | none =>
      match fetch d c x.pc with
      | (d, .ok) => joinBundle d i slot x (Bundle.open_ x.pc) op
      | (d, .wait) => d
      | (d, _) => setCore d c { x with fault := some ⟨6, 0, 0, x.pc, levelOf d c, 0, 0, false⟩ }

/-! ## Handlers -/

/-- Whether the core is at a boundary at which it can take an interrupt (R91). -/
def atBoundary (d : Dev) (c : Nat) (x : Core) : Bool :=
  corePresent d.grade c && x.running && !rbit d (ccr c 0x004) 4 && decide (x.bun = none) && decide (x.fault = none) && decide (x.lpDue = none)
  && decide (x.dly = 0) && !x.fresh

/-- The offset of a register of level L: L = 1 at `o`, L = 2 at `o` + 0x10 (R102). -/
def lvlOff (l o : Nat) : Nat := o + 0x10 * (l - 1)

/-- Entry to level L (R95 step 2): EPC, EST, EBT and ECAUSE of the level, LEVEL, IE1, IE2 and the vector. -/
def enter (d : Dev) (c l cause vec : Nat) : Dev :=
  let x := coreOf d c
  let st := rw d (ccr c 0x004)
  let d := ww d (ccr c (lvlOff l 0x020)) x.pc
  let d := ww d (ccr c (lvlOff l 0x024)) (bits st 3 0 + x.dly % 4 * 2 ^ 4 + b2n (decide (0 < x.dly) && x.dlyTaken) * 2 ^ 6)
  let cur := bits st 1 0
  let isBr := decide (0 < x.dly) && !x.retiDue.contains cur &&
    (match x.doneDue with | some (_, b) => decide (b ≠ cur) | none => true)
  let d := if isBr then ww d (ccr c (lvlOff l 0x028)) x.dlyTarget
           else if 0 < x.dly then used (ww d (ccr c (lvlOff l 0x028)) (fresh d 40)) else d
  let d := ww d (ccr c (lvlOff l 0x02C)) cause
  let d := fset (cbit d (ccr c 0x004) 2) (ccr c 0x004) 1 0 l
  let d := if l = 2 then cbit d (ccr c 0x004) 3 else d
  setCore d c { x with pc := (rw d (ccr c 0x008) + vec) % 2 ^ 32, bun := none, dly := 0, dlyTaken := false, dlyTarget := 0, fault := none,
                       fresh := false, bpSkip := false }

/-- The value that ECAUSE takes for an exception (R98, R100, R102). -/
def causeOf (f : Flt) (deferred : Bool) : Nat :=
  f.code + f.slot % 4 * 2 ^ 13 + b2n deferred * 2 ^ 15 + f.elem % 64 * 2 ^ 16 + b2n f.st * 2 ^ 22
    + (if deferred then f.dreg % 256 * 2 ^ 24 else 0)

/-- Taking an exception: level 2 at VBASE + 0x800, with EADDR or EDADDR of a fault that has one (R97, R98, R100). -/
def takeException (d : Dev) (c : Nat) (f : Flt) (deferred : Bool) : Dev :=
  let d := enter d c 2 (causeOf f deferred) 0x800
  let d := if f.code = 4 ∨ f.code = 5 ∨ f.code = 6 ∨ f.code = 7 ∨ f.code = 0x11 ∨ f.code = 0x12 then ww d (ccr c 0x040) f.eaddr else d
  if f.code = 0x10 then wr64 d (ccr c 0x048) (f.edaddr % 2 ^ 48) else d

/-- The bank at PLEVEL; the value 3, which names no bank, gives a free one. -/
def plevelBank (d : Dev) (p : Nat) : Nat := if p < 3 then p else fresh d 41 % 3

/-- Return to the level in EST (R96 step 3). -/
def resume (d : Dev) (c : Nat) : Dev :=
  let l := levelOf d c
  let d := setCore d c (landBank (coreOf d c) l)
  let d := ccrLandBank d c l
  let x := coreOf d c
  let est := rw d (ccr c (lvlOff l 0x024))
  let p := plevelBank d (bits est 1 0)
  let d := if bits est 1 0 = 3 then used d else d
  let d := ww d (ccr c 0x004) (setBits (setBits (rw d (ccr c 0x004)) 1 0 p) 3 2 (bits est 3 2))
  let n := bits est 5 4
  setCore d c { x with pc := rw d (ccr c (lvlOff l 0x020)), dly := n, dlyTaken := decide (0 < n) && bit est 6,
                       dlyTarget := if 0 < n then rw d (ccr c (lvlOff l 0x028)) else 0,
                       retiDue := x.retiDue.filter (fun b => decide (b ≠ l)), fresh := true, bpSkip := decide (l = 2),
                       stepArm := rbit d (Reg.CPN_DBG_CTL c) 1 && decide (p < 2) }

/-- RETI_RESUME: the handler's results, loads and stores have landed (R96). -/
def retiResume (d : Dev) (c : Nat) : Dev :=
  let x := coreOf d c
  let l := levelOf d c
  if x.running ∧ x.dly = 0 ∧ x.bun = none ∧ x.fault = none ∧ (l = 1 ∨ l = 2) ∧ x.retiDue.contains l ∧
      x.rmt.all (fun r => decide (r.bank ≠ l)) ∧ x.deferred.all (fun f => decide (f.ctx ≠ l)) then settleDone (resume d c) c
  else d

/-- The interrupt that the core takes at a boundary: level and source (R90, R467). -/
def chooseIrq (d : Dev) (c : Nat) : Option (Nat × Nat) :=
  let st := rw d (ccr c 0x004)
  let pend := rw d (ccr c 0x010)
  let att := rbit d (Reg.CPN_DBG_CTL c) 0
  let en := rw d (ccr c 0x014) ||| 3 ||| (if att then 4 else 0)
  let lv := rw d (ccr c 0x018) ||| 3 ||| (if att then 4 else 0)
  let l := bits st 1 0
  let on (i : Nat) : Bool := pend.testBit i && en.testBit i
  match (if l < 2 then (List.range 32).find? (fun i => on i && lv.testBit i && (bit st 3 || decide (i < 2))) else none) with
  | some i => some (2, i)
  | none =>
    if bit st 2 ∧ l = 0 then ((List.range 32).find? (fun i => on i && !lv.testBit i)).map (fun i => (1, i)) else none

/-- INTERRUPT_ENTRY (R90, R91, R95). -/
def interruptEntry (d : Dev) (c : Nat) : Dev :=
  let x := coreOf d c
  if mayIssue d c x && atBoundary d c x then
    match chooseIrq d c with
    | some (l, i) => enter d c l (i * 2 ^ 8) (0x40 * i)
    | none => d
  else d

/-- LOOP_BACK: one evaluation for the END bundle that issued (R133). -/
def evalLoop (b : Bank) (l lc rrb start : Nat) (lp : Lp) : Bank × Option Nat :=
  let more := decide (1 < lc) || (lp.rot && decide (1 < lp.drn))
  let setLp (b : Bank) (p : Lp) : Bank := if l = 0 then { b with lp0 := p } else { b with lp1 := p }
  if !more then (bankWrite (setLp b { lp with active := false }) (0x48 + l) 0, none)
  else
    let lc' := if 1 < lc then lc - 1 else 0
    let lp' := if 1 < lc then lp else { lp with drn := lp.drn - 1 }
    let b := bankWrite (setLp b lp') (0x48 + l) lc'
    if lp.rot then
      let r := (rrb + 1) % 16
      (bankWrite (bankWrite b codeRrb r) (phys r (cP 4)) (b2n (decide (0 < lc'))), some start)
    else (b, some start)

/-- LOOP_BACK (R133). -/
def loopBack (d : Dev) (c : Nat) : Dev :=
  let x := coreOf d c
  match x.lpDue with
  | none => d
  | some q =>
    let bank := levelOf d c
    let b := bankOf x bank
    let (b, nx) := if q.l1 then evalLoop b 1 q.lc1 q.rrb b.lp1.start b.lp1 else (b, none)
    let (b, nx) := if q.l0 ∧ nx = none then evalLoop b 0 q.lc0 q.rrb b.lp0.start b.lp0 else (b, nx)
    setCore d c { (setBank x bank b) with lpDue := none, pc := nx.getD x.pc }

/-- An answer to a remote load of core `c` arrives: its data land, or REMOTE_ERR arises (R84). -/
def coreRdata (d : Dev) (c tag status : Nat) (data : List Byte) : Dev :=
  let x := coreOf d c
  match x.rmt.find? (fun r => decide (r.tag = tag) && !r.isSt) with
  | none => d
  | some r =>
    let x := { x with rmt := eraseFirst (fun q => decide (q.tag = tag) && !q.isSt) x.rmt }
    let x := if status = 0 then
        (r.dests.zip (loadVals r.kind (ofBytes data))).foldl (fun x e => setBank x r.bank (bankWrite (bankOf x r.bank) e.1 e.2)) x
      else { x with deferred := x.deferred ++ [⟨0x10, 0, 0, 0, r.bank, r.dreg, r.addr, false⟩] }
    settleDone (setCore d c x) c

/-- An acknowledgement of a remote store of core `c` arrives (R85). -/
def coreWack (d : Dev) (c tag status : Nat) : Dev :=
  let x := coreOf d c
  match x.rmt.find? (fun r => decide (r.tag = tag) && r.isSt) with
  | none => d
  | some r =>
    let x := { x with rmt := eraseFirst (fun q => decide (q.tag = tag) && q.isSt) x.rmt }
    let x := if status = 0 then x else { x with deferred := x.deferred ++ [⟨0x10, 0, 0, 0, r.bank, r.dreg, r.addr, true⟩] }
    settleDone (setCore d c x) c

/-! ## Meanings -/

def execLoopBack (c : Nat) (s : State) : Out := run s (fun d => loopBack d c)
def execRetiResume (c : Nat) (s : State) : Out := run s (fun d => retiResume d c)
def execInterruptEntry (c : Nat) (s : State) : Out := run s (fun d => interruptEntry d c)
/-- A write of CCR_IRQ_RAISE by any initiator (R89, R90, R102). -/
def execCcrIrqRaise (c : Nat) (v : Word) (s : State) : Out := run s (fun d =>
  if corePresent d.grade c then ccrStore d c 0x01C 4 v.toNat else d)

end Sys2Proof.Machine
end

