-- ==== Sys2Proof/Machine/Address.lean ====
section
/-! DEFINITION. The A slot of a Glesen core (R86 to R88, R120 to R122): loads, stores and address arithmetic. -/

namespace Sys2Proof.Machine

/-- An A-slot instruction. -/
def slotA (i : Iss) (op : Ctx → Op) (s : State) : Out := run s (issue i 1 op)

/-- Effective address and updated base of an AM instruction (R86, R121); the update is none for a reserved MODE. -/
def amAddr (k : Ctx) (f : FAM) (size : Nat) : Nat × Option Nat :=
  let an := k.a f.an.toNat
  let off := sx 9 f.off.toNat * (size : Int)
  let plus := pat 32 ((an : Int) + off)
  match f.mode.toNat with
  | 0 => (plus, some an)
  | 1 => (an, some plus)
  | 2 =>
    let m := f.off.toNat % 8
    (an, modUpdate an (k.rd (cM m)) (k.rd (cBase m)) (k.rd (cCtl m)))
  | _ => ((an + k.s (f.off.toNat % 32)) % 2 ^ 32, some an)

/-- The encoding rules of AM: operand register of the kind, and the OFF bits of MODE 2 and 3 (R112, R121). -/
def amLegal (f : FAM) (kind : Nat) (isSt : Bool) : Bool :=
  let rt := f.rt.toNat
  let m := f.mode.toNat
  (match kind with | 5 => isEven rt | 6 => isQuad rt | 7 => isA rt | 8 => isM rt | 9 => isM rt | _ => true)
  && (decide (m ≠ 2) || decide (f.off.toNat < 8)) && (decide (m ≠ 3) || decide (f.off.toNat < 32))
  && !(!isSt && decide (kind = 7) && decide (rt = f.an.toNat) && decide (m = 1 ∨ m = 2))

/-- The bytes that a store writes (R120). -/
def storeBytes (k : Ctx) (kind rt : Nat) : List Byte :=
  match kind with
  | 0 => toBytes 1 (k.s rt) | 2 => toBytes 2 (k.s rt) | 4 => toBytes 4 (k.s rt)
  | 5 => toBytes 4 (k.s rt) ++ toBytes 4 (k.s (rt + 1))
  | 6 => (List.range 4).flatMap (fun e => toBytes 4 (k.s (rt + e)))
  | 7 => toBytes 4 (k.a rt)
  | 8 => toBytes 8 (pat 64 (k.acc rt))
  | _ => toBytes 4 (k.rd (cM rt)) ++ toBytes 4 (k.rd (cBase rt)) ++ toBytes 4 (k.rd (cCtl rt)) ++ toBytes 4 0

/-- Registers that address an AM access. -/
def amReads (f : FAM) : List Nat :=
  cA f.an.toNat :: (match f.mode.toNat with | 2 => cMod (f.off.toNat % 8) | 3 => [cS (f.off.toNat % 32)] | _ => [])

/-- Whether MODE updates the base register. -/
def amUpd (f : FAM) : Bool := decide (f.mode.toNat = 1 ∨ f.mode.toNat = 2)

/-- The stalls of an access that goes ahead: BCP waits (R170), and eight loads or sixteen stores outstanding (R84, R85). -/
def amStall (k : Ctx) (ea n : Nat) (isSt : Bool) : Bool :=
  match localRow ea n with
  | some .bcp => cprstPending k.x || (isSt && decide (ea = 0xF00000) && decide (4 ≤ k.x.bcp.queue.length))
  | some .ldm => false
  | some .ccr => false
  | some _ => if isSt then decide (16 ≤ (k.x.rmt.filter (fun r => r.isSt)).length)
              else decide (8 ≤ (k.x.rmt.filter (fun r => !r.isSt)).length)
  | none => false

/-- What a load adds to its bundle (R84, R122). -/
def loadEff (k : Ctx) (kind rt ea : Nat) (u : Bundle) : Bundle :=
  let n := kindSize kind
  let cs := kindCodes kind rt
  let ph := cs.map (phys k.rrb)
  let u := { u with acc := u.acc ++ [(ea, n, false)] }
  match localRow ea n with
  | some .ldm => { u with ops := u.ops ++ [.load ea kind ph (cs.headD 0)] }
  | some .ccr => { u with ops := u.ops ++ [.load ea kind ph (cs.headD 0)] }
  | some .bcp => { u with ops := u.ops ++ [.load ea kind ph (cs.headD 0)] }
  | some r =>
    let (da, prio) := remoteAddr k.d k.c r ea
    { u with rmt := u.rmt ++ [⟨0, da, n, kind, ph, cs.headD 0, k.bank, false, [], prio⟩] }
  | none => u

/-- What a store adds to its bundle (R80, R85, R103, R158). -/
def storeEff (k : Ctx) (kind rt ea : Nat) (u : Bundle) : Bundle :=
  let n := kindSize kind
  let bs := storeBytes k kind rt
  let u := { u with acc := u.acc ++ [(ea, n, true)] }
  match localRow ea n with
  | some .ldm => { u with stores := u.stores ++ [⟨ea, bs, false⟩] }
  | some .ccr => { u with ccr := u.ccr ++ [⟨k.bank, k.n + 3, ea - 0xF10000, ofBytes bs, n⟩] }
  | some .bcp =>
    let v := ofBytes bs
    { u with bcp := u.bcp ++ (match ea - 0xF00000 with
        | 0x00 => [.cmd v] | 0x04 => [.arg 0 v] | 0x08 => [.arg 1 v] | 0x0C => [.arg 2 v] | 0x10 => [.arg 3 (v % 2 ^ 16)]
        | _ => []) }
  | some r =>
    let (da, prio) := remoteAddr k.d k.c r ea
    { u with rmt := u.rmt ++ [⟨0, da, n, kind, [], 0, k.bank, true, bs, prio⟩] }
  | none => u

/-- A load or store (R81, R83, R121, R122). -/
def opAM (i : Iss) (f : FAM) (kind : Nat) (isSt : Bool) (k : Ctx) : Op :=
  let rt := f.rt.toNat
  let n := kindSize kind
  let (ea, upd) := amAddr k f n
  let legal := amLegal f kind isSt
  let fc := scalarFault k.d k.c ea n isSt (decide (kind = 4))
  let cs := kindCodes kind rt
  { legal := legal, reads := amReads f ++ (if isSt then cs else []),
    dests := (if isSt then [] else cs) ++ (if amUpd f then [cA f.an.toNat] else []), ct := false,
    stall := guardOf k i && legal && decide (fc = 0) && amStall k ea n isSt, mem := 1,
    eff := fun u =>
      match upd with
      | none => u.fail 1 1
      | some an =>
        if fc ≠ 0 then u.failAt fc 1 0 ea
        else
          let u := if amUpd f then u.put [k.res (cA f.an.toNat) an 1] else u
          if isSt then storeEff k kind rt ea u else loadEff k kind rt ea u }

/-- `ld.b` (R120). -/
def execLdB (i : Iss) (f : FAM) (s : State) : Out := slotA i (opAM i f 0 false) s
/-- `ld.bu` (R120). -/
def execLdBu (i : Iss) (f : FAM) (s : State) : Out := slotA i (opAM i f 1 false) s
/-- `ld.h` (R120). -/
def execLdH (i : Iss) (f : FAM) (s : State) : Out := slotA i (opAM i f 2 false) s
/-- `ld.hu` (R120). -/
def execLdHu (i : Iss) (f : FAM) (s : State) : Out := slotA i (opAM i f 3 false) s
/-- `ld.w` (R120). -/
def execLdW (i : Iss) (f : FAM) (s : State) : Out := slotA i (opAM i f 4 false) s
/-- `ld.d` (R120). -/
def execLdD (i : Iss) (f : FAM) (s : State) : Out := slotA i (opAM i f 5 false) s
/-- `ld.q` (R120). -/
def execLdQ (i : Iss) (f : FAM) (s : State) : Out := slotA i (opAM i f 6 false) s
/-- `ld.a` (R120). -/
def execLdA (i : Iss) (f : FAM) (s : State) : Out := slotA i (opAM i f 7 false) s
/-- `ld.acc` (R120). -/
def execLdAcc (i : Iss) (f : FAM) (s : State) : Out := slotA i (opAM i f 8 false) s
/-- `ld.m` (R120). -/
def execLdM (i : Iss) (f : FAM) (s : State) : Out := slotA i (opAM i f 9 false) s
/-- `st.b` (R120). -/
def execStB (i : Iss) (f : FAM) (s : State) : Out := slotA i (opAM i f 0 true) s
/-- `st.h` (R120). -/
def execStH (i : Iss) (f : FAM) (s : State) : Out := slotA i (opAM i f 2 true) s
/-- `st.w` (R120). -/
def execStW (i : Iss) (f : FAM) (s : State) : Out := slotA i (opAM i f 4 true) s
/-- `st.d` (R120). -/
def execStD (i : Iss) (f : FAM) (s : State) : Out := slotA i (opAM i f 5 true) s
/-- `st.q` (R120). -/
def execStQ (i : Iss) (f : FAM) (s : State) : Out := slotA i (opAM i f 6 true) s
/-- `st.a` (R120). -/
def execStA (i : Iss) (f : FAM) (s : State) : Out := slotA i (opAM i f 7 true) s
/-- `st.acc` (R120). -/
def execStAcc (i : Iss) (f : FAM) (s : State) : Out := slotA i (opAM i f 8 true) s
/-- `st.m` (R120). -/
def execStM (i : Iss) (f : FAM) (s : State) : Out := slotA i (opAM i f 9 true) s

/-- `addi.a` (R120). -/
def execAddiA (i : Iss) (f : FAI) (s : State) : Out :=
  slotA i (fun k => Op.alu true [cA f.asrc.toNat] [cA f.ad.toNat]
    [k.res (cA f.ad.toNat) (pat 32 ((k.a f.asrc.toNat : Int) + sx 12 f.imm.toNat)) 1]) s
/-- `adda` (R120). -/
def execAdda (i : Iss) (f : FAR) (s : State) : Out :=
  slotA i (fun k => Op.alu (decide (f.z = 0)) [cA f.asrc.toNat, cS f.rs.toNat] [cA f.ad.toNat]
    [k.res (cA f.ad.toNat) ((k.a f.asrc.toNat + k.s f.rs.toNat) % 2 ^ 32) 1]) s
/-- `upd` (R86 to R88, R120). -/
def execUpd (i : Iss) (f : FAU) (s : State) : Out :=
  slotA i (fun k =>
    let m := f.mreg.toNat
    { legal := decide (f.z = 0), reads := cA f.asrc.toNat :: cMod m, dests := [cA f.ad.toNat], ct := false, stall := false, mem := 0,
      eff := fun u =>
        match modUpdate (k.a f.asrc.toNat) (k.rd (cM m)) (k.rd (cBase m)) (k.rd (cCtl m)) with
        | some a => u.put [k.res (cA f.ad.toNat) a 1]
        | none => u.fail 1 1 }) s

end Sys2Proof.Machine
end

