-- ==== Sys2Proof/Machine/Bcp.lean ====
section
/-! DEFINITION. The bit coprocessor (file 06): the checks of a command (R159, R162 to R169), its work on registers and LDM
streams, and its completion (R162, R168, R169). The command at the head of a core's queue runs; its register results wait
for BCP_COMMAND_COMPLETE. -/

namespace Sys2Proof.Machine

/-! ## Fields (R159) -/

def bCD (w : Nat) : Nat := bits w 11 8
def bCA (w : Nat) : Nat := bits w 15 12
def bCS (w : Nat) : Nat := bits w 19 16
def bN (w : Nat) : Nat := bits w 26 20 + 1
def bSEL (w : Nat) : Nat := bits w 29 27

/-- The bits of a command word that its command uses (R159, R162). -/
def bcpUsed (code : Nat) : Nat :=
  let cd := 0xF00
  let ca := 0xF000
  let cs := 0xF0000
  let n := 0x7F00000
  let sel := 0x38000000
  0xFF + match code with
    | 0x01 => cd | 0x02 => cd + cs | 0x03 => cd + ca + cs + n | 0x04 => cd + ca + n + sel | 0x10 => cs + sel | 0x11 => cd + sel
    | 0x12 => sel | 0x15 => sel | 0x21 => 0x3FFF00 | 0x22 => 0x3FFF00 | _ => 0

/-- The commands of R162. -/
def bcpKnown (code : Nat) : Bool := [0x01, 0x02, 0x03, 0x04, 0x10, 0x11, 0x12, 0x13, 0x14, 0x15, 0x20, 0x21, 0x22].contains code

/-- Whether fields and arguments meet their limits (R159, R162 to R167). -/
def bcpFieldsOk (k : BcpCmd) : Bool :=
  let w := k.w
  let code := bits w 7 0
  let lenOk := decide (1 ≤ k.arg2 ∧ k.arg2 ≤ 2097152)
  decide (w &&& (2 ^ 32 - 1 - bcpUsed code) = 0) &&
  (match code with
   | 0x01 => decide (k.arg0 < 2 ^ 31)
   | 0x02 => decide (bCD w ≠ bCS w)
   | 0x03 => decide (bCD w ≠ bCS w ∧ bCA w ≠ bCS w)
   | 0x04 => decide (bCD w ≠ bCA w ∧ bSEL w ≤ 5)
   | 0x10 => decide (bSEL w ≤ 1) && lenOk
   | 0x11 => decide (bSEL w ≤ 5) && lenOk
   | 0x12 => decide (bSEL w ≤ 3) && lenOk && [1, 2, 4, 6, 8, 10].contains k.arg3 && decide (k.arg2 % k.arg3 = 0)
   | 0x15 => decide (bSEL w ≤ 2) && lenOk
   | _ => true)

/-! ## Ranges (R168, R169) -/

/-- Bytes that `n` elements take: bits or bytes. -/
def streamBytes (isBits : Bool) (n : Nat) : Nat := if isBits then ceilDiv n 8 else n

/-- The failing address of an operand that leaves LDM. -/
def rangeBad (a n : Nat) : Option Nat := if a + n ≤ 0x40000 then none else some (max a 0x40000)

/-- The lowest address in both of two ranges. -/
def overlapAt (a n b m : Nat) : Option Nat := if a < b + m ∧ b < a + n then some (max a b) else none

/-- RANGE and OVERLAP of a source and a destination: error code and EADDR; `inPlace` allows equal starts (R167, R169). -/
def moveErr (src n dst m : Nat) (inPlace : Bool) : Option (Nat × Nat) :=
  match rangeBad src n, rangeBad dst m with
  | some a, _ => some (0x03, a)
  | none, some a => some (0x03, a)
  | none, none =>
    if inPlace ∧ src = dst then none
    else match overlapAt src n dst m with
      | some a => some (0x04, a)
      | none => none

/-! ## Reading LDM line by line (R169) -/

/-- Test lines in ascending order until one fails; the local address of the failure. -/
def scanLines (d : Dev) (base start : Nat) : List Nat → Dev × Option Nat
  | [] => (d, none)
  | la :: ls =>
    match decideLine d la false with
    | (d, .ok) => scanLines d base start ls
    | (d, _) => (d, some (max start (la - base)))

/-- Test the source of `n` bytes at local address `a` of core c. -/
def scanLdm (d : Dev) (c a n : Nat) : Dev × Option Nat := scanLines d (ldmBase c) a (linesOf (ldmBase c + a) n)

/-- Bit `i` of a stream at local address `a` (R160). -/
def ldmBit (d : Dev) (c a i : Nat) : Bool := (memByte d (ldmBase c + a + i / 8)).toNat.testBit (i % 8)
/-- Byte `i` of a stream. -/
def ldmByte (d : Dev) (c a i : Nat) : Nat := (memByte d (ldmBase c + a + i)).toNat

/-- Write a bit stream: the bits above it in its last byte stay (R160). -/
def putBits (d : Dev) (c a : Nat) (bs : List Bool) : Dev :=
  let by_ := (List.range (ceilDiv bs.length 8)).map (fun j =>
    let old := ldmByte d c a j
    BitVec.ofNat 8 ((List.range 8).foldl (fun v i =>
      let b := match bs[8 * j + i]? with | some b => b | none => old.testBit i
      v + b2n b * 2 ^ i) 0))
  memPut d (ldmBase c + a) by_

/-- Write bytes. -/
def putLdm (d : Dev) (c a : Nat) (bs : List Nat) : Dev := memPut d (ldmBase c + a) (bs.map (BitVec.ofNat 8))

/-- A soft value saturates to [−127, 127] (R160). -/
def soft (x : Int) : Nat := pat 8 (if 127 < x then 127 else if x < -127 then -127 else x)

/-! ## Gold sequence (R163) -/

/-- One step of the sequence state: x1, x2. -/
def goldStep (s : Nat × Nat) : Nat × Nat :=
  let f1 := b2n (xor (s.1.testBit 0) (s.1.testBit 3))
  let f2 := b2n (xor (xor (s.2.testBit 0) (s.2.testBit 1)) (xor (s.2.testBit 2) (s.2.testBit 3)))
  (s.1 / 2 + f1 * 2 ^ 30, s.2 / 2 + f2 * 2 ^ 30)

/-- The state after `n` steps. -/
def goldSkip : Nat → Nat × Nat → Nat × Nat
  | 0, s => s
  | n + 1, s => goldSkip n (goldStep s)

/-- The next `n` output bits and the state after them. -/
def goldBits : Nat → Nat × Nat → List Bool × (Nat × Nat)
  | 0, s => ([], s)
  | n + 1, s =>
    let (bs, t) := goldBits n (goldStep s)
    (xor (s.1.testBit 0) (s.2.testBit 0) :: bs, t)

/-- A state register and its parts (R163). -/
def packGold (s : Nat × Nat) (k : Nat) : Nat := s.1 % 2 ^ 31 + s.2 % 2 ^ 31 * 2 ^ 32 + k % 2 ^ 32 * 2 ^ 64
def goldState (v : Nat) : Nat × Nat := (bits v 30 0, bits v 62 32)
def goldK (v : Nat) : Nat := bits v 95 64

/-- The output bits of a state register, and the register after them. -/
def goldTake (v n : Nat) : List Bool × Nat :=
  let (bs, t) := goldBits n (goldState v)
  (bs, packGold t (goldK v + n))

/-- The number that bits spell, the first lowest. -/
def ofBits : List Bool → Nat
  | [] => 0
  | b :: bs => b2n b + 2 * ofBits bs

/-! ## CRC state (R164) -/

def crcLen (sel : Nat) : Nat := [24, 24, 24, 16, 11, 6].getD sel 24
def crcPoly (sel : Nat) : Nat := [0x864CFB, 0x800063, 0xB2B117, 0x1021, 0x621, 0x21].getD sel 0

/-- The CRC state register after the bits (R164). -/
def crcState (sel cd : Nat) (bs : List Bool) : Nat :=
  let l := crcLen sel
  revBits l (crcBits l (crcPoly sel) (revBits l (cd % 2 ^ l)) bs)

/-! ## Rate matching (R165) -/

/-- The non-filler positions of the circular buffer in reading order. -/
def rmPositions (ncb k0 fs fl : Nat) : List Nat :=
  ((List.range ncb).map (fun j => (k0 + j) % ncb)).filter (fun p => !decide (fs ≤ p ∧ p < fs + fl))

/-- The fields of a record and whether they meet R165. -/
def rmRecord (bs : List Byte) : (Nat × Nat × Nat × Nat × Nat) × Bool :=
  let h (o : Nat) : Nat := ofBytes ((bs.drop o).take 2)
  let ncb := h 0
  let k0 := h 2
  let e := ofBytes ((bs.drop 4).take 4)
  let fs := h 8
  let fl := h 10
  ((ncb, k0, e, fs, fl), decide (1 ≤ ncb ∧ ncb ≤ 25344 ∧ k0 < ncb ∧ 1 ≤ e ∧ e ≤ 131072 ∧ fs + fl ≤ ncb ∧ fl < ncb
    ∧ ofBytes ((bs.drop 12).take 4) = 0))

/-! ## Running the head command -/

/-- What a run gives: the device, register results, an error with EADDR, and values that CPRST restores. -/
structure BcpRun where
  d : Dev
  res : List (Nat × Nat)
  err : Nat
  eaddr : Nat
  rst : Option (List Nat)

/-- The address that a fault without one shows (R169). -/
def bcpNoAddr : Nat := 0x00F00000

def BcpRun.ok (d : Dev) (res : List (Nat × Nat)) : BcpRun := ⟨d, res, 0, 0, none⟩
def BcpRun.bad (d : Dev) (err eaddr : Nat) : BcpRun := ⟨d, [], err, eaddr, none⟩

/-- The compute commands GINIT, GSEQ, GXOR and CRCU (R162). -/
def bcpCompute (d : Dev) (x : Core) (k : BcpCmd) : BcpRun :=
  let w := k.w
  match bits w 7 0 with
  | 0x01 => .ok d [(bCD w, packGold (goldSkip (1600 + k.arg1) (1, k.arg0 % 2 ^ 31)) k.arg1)]
  | 0x02 =>
    let (bs, v) := goldTake (cReg x (bCS w)) 128
    .ok d [(bCD w, ofBits bs), (bCS w, v)]
  | 0x03 =>
    let n := bN w
    let (bs, v) := goldTake (cReg x (bCS w)) n
    let ca := cReg x (bCA w)
    .ok d [(bCD w, ((ca % 2 ^ n) ^^^ ofBits bs) + ca / 2 ^ n * 2 ^ n), (bCS w, v)]
  | _ => .ok d [(bCD w, crcState (bSEL w) (cReg x (bCD w)) ((List.range (bN w)).map (fun i => (cReg x (bCA w)).testBit i)))]

/-- GXORM: bits or soft values XOR the sequence; what precedes a failing line stays written (R162, R169). -/
def bcpGxorm (d : Dev) (c : Nat) (x : Core) (k : BcpCmd) : BcpRun :=
  let isBits := decide (bSEL k.w = 0)
  let n := k.arg2
  match moveErr k.arg0 (streamBytes isBits n) k.arg1 (streamBytes isBits n) true with
  | some (e, a) => .bad d e a
  | none =>
    let (d, f) := scanLdm d c k.arg0 (streamBytes isBits n)
    let (sq, v) := goldTake (cReg x (bCS k.w)) n
    let m := match f with | some a => if isBits then (a - k.arg0) * 8 else a - k.arg0 | none => n
    let d := if isBits then putBits d c k.arg1 ((List.range m).map (fun i => xor (ldmBit d c k.arg0 i) (sq.getD i false)))
             else putLdm d c k.arg1 ((List.range m).map (fun i =>
               soft (if sq.getD i false then - sx 8 (ldmByte d c k.arg0 i) else sx 8 (ldmByte d c k.arg0 i))))
    match f with
    | some a => .bad d 0x06 a
    | none => .ok d [(bCS k.w, v)]

/-- CRCM (R162, R164). -/
def bcpCrcm (d : Dev) (c : Nat) (x : Core) (k : BcpCmd) : BcpRun :=
  match rangeBad k.arg0 (streamBytes true k.arg2) with
  | some a => .bad d 0x03 a
  | none =>
    match scanLdm d c k.arg0 (streamBytes true k.arg2) with
    | (d, some a) => .bad d 0x06 a
    | (d, none) => .ok d [(bCD k.w, crcState (bSEL k.w) (cReg x (bCD k.w)) ((List.range k.arg2).map (ldmBit d c k.arg0)))]

/-- The source index of output element `p` of BILV (R166). -/
def bilvFrom (deint : Bool) (qm m p : Nat) : Nat := if deint then p / m + p % m * qm else p % qm * m + p / qm

/-- BILV; on a failing line a free number of destination lines is written (R166, R169). -/
def bcpBilv (d : Dev) (c : Nat) (k : BcpCmd) : BcpRun :=
  let isBits := !bit (bSEL k.w) 1
  let de := bit (bSEL k.w) 0
  let n := k.arg2
  let nb := streamBytes isBits n
  match moveErr k.arg0 nb k.arg1 nb false with
  | some (e, a) => .bad d e a
  | none =>
    let per := if isBits then 8 else 1
    let src (p : Nat) : Nat := bilvFrom de k.arg3 (n / k.arg3) p
    let (d, f) := scanLdm d c k.arg0 nb
    let put (d : Dev) (m : Nat) : Dev :=
      if isBits then putBits d c k.arg1 ((List.range m).map (fun p => ldmBit d c k.arg0 (src p)))
      else putLdm d c k.arg1 ((List.range m).map (fun p => ldmByte d c k.arg0 (src p)))
    match f with
    | none => .ok (put d n) []
    | some a =>
      let readable := ((List.range n).takeWhile (fun p => decide (k.arg0 + src p / per < a))).length
      let lines := ((k.arg1 + readable / per) / 64 - k.arg1 / 64)
      let pick := fresh d 43 % (lines + 1)
      let bytes := if pick = 0 then 0 else (k.arg1 / 64 + pick) * 64 - k.arg1
      .bad (put (used d) (min n (bytes * per))) 0x06 a

/-- RMSEL and RMREV (R165). -/
def bcpRm (d : Dev) (c : Nat) (k : BcpCmd) (rev : Bool) : BcpRun :=
  match rangeBad k.arg2 16 with
  | some a => .bad d 0x03 a
  | none =>
    if k.arg2 % 16 ≠ 0 then .bad d 0x05 bcpNoAddr
    else
      match scanLdm d c k.arg2 16 with
      | (d, some a) => .bad d 0x06 a
      | (d, none) =>
        let ((ncb, k0, e, fs, fl), ok) := rmRecord (getBytes d.mem (ldmBase c + k.arg2) 16)
        if !ok then .bad d 0x05 bcpNoAddr
        else
          let nsrc := if rev then e else streamBytes true ncb
          let ndst := if rev then ncb else streamBytes true e
          match moveErr k.arg0 nsrc k.arg1 ndst false with
          | some (er, a) => .bad d er a
          | none =>
            match scanLdm d c k.arg0 nsrc with
            | (d, some a) => .bad d 0x06 a
            | (d, none) =>
              let ps := rmPositions ncb k0 fs fl
              if rev then
                let sums := (List.range e).foldl (fun (m : Map Int) i =>
                  mmod 0 m (ps.getD (i % ps.length) 0) (fun v => v + sx 8 (ldmByte d c k.arg0 i))) []
                .ok (putLdm d c k.arg1 ((List.range ncb).map (fun p =>
                  if fs ≤ p ∧ p < fs + fl then 127 else soft (mget 0 sums p)))) []
              else .ok (putBits d c k.arg1 ((List.range e).map (fun i => ldmBit d c k.arg0 (ps.getD (i % ps.length) 0)))) []

/-- PACK (R167). -/
def bcpPack (d : Dev) (c : Nat) (k : BcpCmd) : BcpRun :=
  let sel := bSEL k.w
  let n := k.arg2
  let nsrc := streamBytes (decide (sel = 1)) n
  let ndst := streamBytes (decide (sel = 2)) n
  match moveErr k.arg0 nsrc k.arg1 ndst (decide (sel = 0)) with
  | some (e, a) => .bad d e a
  | none =>
    let (d, f) := scanLdm d c k.arg0 nsrc
    let m := match f with
      | none => n
      | some a => match sel with | 1 => min n ((a - k.arg0) * 8) | 2 => (a - k.arg0) / 8 * 8 | _ => a - k.arg0
    let d := match sel with
      | 0 => putLdm d c k.arg1 ((List.range m).map (fun i => revBits 8 (ldmByte d c k.arg0 i)))
      | 1 => putLdm d c k.arg1 ((List.range m).map (fun i => if ldmBit d c k.arg0 i then 0x81 else 0x7F))
      | _ => putBits d c k.arg1 ((List.range m).map (fun i => decide (128 ≤ ldmByte d c k.arg0 i)))
    match f with
    | some a => .bad d 0x06 a
    | none => .ok d []

/-- CPSAVE: the image of R173. -/
def bcpSave (d : Dev) (c : Nat) (x : Core) (k : BcpCmd) : BcpRun :=
  let a := bits k.w 21 8 * 16
  match rangeBad a 272 with
  | some e => .bad d 0x03 e
  | none =>
    let img := (List.range 16).flatMap (fun i => toBytes 16 (cReg x i)) ++ toBytes 4 k.arg0 ++ toBytes 4 k.arg1 ++ toBytes 4 k.arg2
      ++ toBytes 2 k.arg3 ++ toBytes 1 x.bcp.err.toNat ++ toBytes 1 x.bcp.errcmd.toNat
    .ok (memPut d (ldmBase c + a) img) []

/-- CPRST: every field of the image is restored at completion (R173). -/
def bcpRestore (d : Dev) (c : Nat) (k : BcpCmd) : BcpRun :=
  let a := bits k.w 21 8 * 16
  match rangeBad a 272 with
  | some e => .bad d 0x03 e
  | none =>
    match scanLdm d c a 272 with
    | (d, some e) => .bad d 0x06 e
    | (d, none) =>
      let g (o n : Nat) : Nat := getNum d.mem (ldmBase c + a + o) n
      ⟨d, (List.range 16).map (fun i => (i, g (16 * i) 16)), 0, 0,
        some [g 0x100 4, g 0x104 4, g 0x108 4, g 0x10C 2, g 0x10E 1, g 0x10F 1]⟩

/-- One command runs, once its fields are checked (R168, R169). -/
def bcpRun (d : Dev) (c : Nat) (x : Core) (k : BcpCmd) : BcpRun :=
  if !bcpFieldsOk k then .bad d 0x02 bcpNoAddr
  else match bits k.w 7 0 with
    | 0x10 => bcpGxorm d c x k
    | 0x11 => bcpCrcm d c x k
    | 0x12 => bcpBilv d c k
    | 0x13 => bcpRm d c k false
    | 0x14 => bcpRm d c k true
    | 0x15 => bcpPack d c k
    | 0x20 => .ok d []
    | 0x21 => bcpSave d c x k
    | 0x22 => bcpRestore d c k
    | _ => bcpCompute d x k

/-- While ERR ≠ 0 only STCLR, CPSAVE and CPRST are carried out (R169). -/
def bcpDiscards (x : Core) (k : BcpCmd) : Bool :=
  decide (x.bcp.err ≠ 0) && !([0x20, 0x21, 0x22].contains (bits k.w 7 0))

/-- The held `mtc` writes of a command that leaves the queue land (R170). -/
def bcpDrop (x : Core) (k : BcpCmd) : Core :=
  let x := { x with bcp := { x.bcp with queue := x.bcp.queue.tail } }
  k.mtc.foldl (fun x e => { x with c := mput 0 x.c e.1 (BitVec.ofNat 128 e.2) }) x

/-- The command of code `code` at the head of core c's queue runs (R161, R170). -/
def bcpStep (d : Dev) (c code : Nat) : Dev :=
  let x := coreOf d c
  match x.bcp.queue with
  | [] => d
  | k :: ks =>
    if bits k.w 7 0 ≠ code ∨ k.begun then d
    else if bcpDiscards x k then settleDone (setCore d c (bcpDrop x k)) c
    else
      let r := bcpRun d c x k
      setCore r.d c { x with bcp := { x.bcp with
        queue := { k with begun := true, res := r.res, err := r.err, eaddr := r.eaddr, rst := r.rst } :: ks } }

/-- DREG of a BCP_FAULT (R169). -/
def bcpDreg (w : Nat) : Nat := if [0x01, 0x02, 0x03, 0x04, 0x11].contains (bits w 7 0) then 0x90 + bCD w else 0xFF

/-- A command ends with an error: ERR and ERRCMD if ERR was 0, and BCP_FAULT for its context (R168, R169). -/
def bcpFail (x : Core) (k : BcpCmd) (err eaddr : Nat) : Core :=
  let x := if x.bcp.err = 0 then { x with bcp := { x.bcp with err := BitVec.ofNat 8 err, errcmd := BitVec.ofNat 8 k.w } } else x
  { x with deferred := x.deferred ++ [⟨0x12, 0, 0, eaddr, k.ctx, bcpDreg k.w, 0, false⟩] }

/-- A command completes: results land, DONE counts (R162, R168, R173). -/
def bcpFinish (x : Core) (k : BcpCmd) : Core :=
  let code := bits k.w 7 0
  let x := k.res.foldl (fun x e => { x with c := mput 0 x.c e.1 (BitVec.ofNat 128 e.2) }) x
  let b := x.bcp
  let b := if code = 0x20 ∨ code = 0x21 then { b with err := 0, errcmd := 0 } else b
  let b := match k.rst with
    | some [a0, a1, a2, a3, e, ec] =>
      { b with arg0 := word a0, arg1 := word a1, arg2 := word a2, arg3 := BitVec.ofNat 16 a3, err := BitVec.ofNat 8 e,
               errcmd := BitVec.ofNat 8 ec }
    | _ => b
  { x with bcp := { b with done := b.done + 1 } }

/-- BCP_COMMAND_COMPLETE: the begun command ends; a code that R162 does not list ends with BAD_CODE (R168, R169). -/
def bcpComplete (d : Dev) (c : Nat) : Dev :=
  let x := coreOf d c
  match x.bcp.queue with
  | [] => d
  | k :: _ =>
    if k.begun then
      let x := if k.err = 0 then bcpFinish x k else bcpFail x k k.err k.eaddr
      settleDone (setCore d c (bcpDrop x k)) c
    else if bcpDiscards x k then settleDone (setCore d c (bcpDrop x k)) c
    else if bcpKnown (bits k.w 7 0) then d
    else settleDone (setCore d c (bcpDrop (bcpFail x k 0x01 bcpNoAddr) k)) c

/-! ## Meanings -/

/-- GINIT (R162). -/
def execGinit (c : Nat) (s : State) : Out := run s (fun d => bcpStep d c 0x01)
/-- GSEQ (R162). -/
def execGseq (c : Nat) (s : State) : Out := run s (fun d => bcpStep d c 0x02)
/-- GXOR (R162). -/
def execGxor (c : Nat) (s : State) : Out := run s (fun d => bcpStep d c 0x03)
/-- CRCU (R162). -/
def execCrcu (c : Nat) (s : State) : Out := run s (fun d => bcpStep d c 0x04)
/-- GXORM (R162). -/
def execGxorm (c : Nat) (s : State) : Out := run s (fun d => bcpStep d c 0x10)
/-- CRCM (R162). -/
def execCrcm (c : Nat) (s : State) : Out := run s (fun d => bcpStep d c 0x11)
/-- BILV (R162). -/
def execBilv (c : Nat) (s : State) : Out := run s (fun d => bcpStep d c 0x12)
/-- RMSEL (R162). -/
def execRmsel (c : Nat) (s : State) : Out := run s (fun d => bcpStep d c 0x13)
/-- RMREV (R162). -/
def execRmrev (c : Nat) (s : State) : Out := run s (fun d => bcpStep d c 0x14)
/-- PACK (R162). -/
def execPack (c : Nat) (s : State) : Out := run s (fun d => bcpStep d c 0x15)
/-- STCLR (R162). -/
def execStclr (c : Nat) (s : State) : Out := run s (fun d => bcpStep d c 0x20)
/-- CPSAVE (R162). -/
def execCpsave (c : Nat) (s : State) : Out := run s (fun d => bcpStep d c 0x21)
/-- CPRST (R162). -/
def execCprst (c : Nat) (s : State) : Out := run s (fun d => bcpStep d c 0x22)
/-- BCP_COMMAND_COMPLETE (R162, R168). -/
def execBcpCommandComplete (c : Nat) (s : State) : Out := run s (fun d => bcpComplete d c)

end Sys2Proof.Machine
end

