-- ==== Sys2Proof/Machine/Air.lean ====
section
/-! DEFINITION. Air time (file 02): the discipline PLL, phase and steps (R44 to R47), timing outputs (R48), the commit
grid (R49), requests for commits and snapshots and how they overlap (R54, R57 to R59), and the end of a snapshot
(R63). Arming, deciding and applying a commit stand in Commit.lean, after every unit that takes part. -/

namespace Sys2Proof.Machine

/-! ## The discipline PLL (R44) -/

/-- AIR_STATUS.STATE: 0 FREE, 1 ACQUIRE, 2 LOCKED, 3 HOLDOVER. -/
def pllState (d : Dev) : Nat := fget d Reg.AIR_STATUS 1 0

/-- AIR_CTRL.SRC. -/
def airSrc (d : Dev) : Nat := fget d Reg.AIR_CTRL 1 0

/-- The selected source is present. -/
def srcPresent (d : Dev) : Bool :=
  match airSrc d with
  | 1 => d.air.synce.contains (fget d Reg.AIR_CTRL 7 2)
  | 2 => d.air.ppsPresent
  | _ => true

/-- Set the presence of the selected source. -/
def setPresent (d : Dev) (b : Bool) : Dev :=
  match airSrc d with
  | 1 =>
    let p := fget d Reg.AIR_CTRL 7 2
    let rest := d.air.synce.filter (· ≠ p)
    { d with air := { d.air with synce := if b then rest ++ [p] else rest } }
  | 2 => { d with air := { d.air with ppsPresent := b } }
  | _ => d

/-- The selected source is absent: SRC_LOST, and out of LOCKED the PLL enters HOLDOVER, with HOLD and ALERT_N (R44, R436). -/
def srcLost (d : Dev) : Dev :=
  let d := sbit d Reg.AIR_STATUS 4
  if pllState d = 2 then alert (sbit (fset d Reg.AIR_STATUS 1 0 3) Reg.AIR_STATUS 2) 1 else d

/-- What a change of AIR_CTRL's source does: FREE for SRC = 0, ACQUIRE for a source that is present (R44). -/
def srcSelected (d : Dev) : Dev :=
  match airSrc d with
  | 0 => fset (cbit d Reg.AIR_STATUS 4) Reg.AIR_STATUS 1 0 0
  | 3 => d
  | _ => if srcPresent d then fset (cbit d Reg.AIR_STATUS 4) Reg.AIR_STATUS 1 0 1 else srcLost d

/-! ## The commit grid (R49) -/

/-- Whether `t` is a boundary of the grid. -/
def isBoundary (grid t : Nat) : Bool :=
  match grid with
  | 0 => decide (t % 1966080 = 0)
  | 1 => decide (t % 983040 = 0)
  | _ => decide (t % 983040 = 0 ∨ t % 983040 = 492032)

/-- The first boundary after `t`. -/
def boundaryAfter (grid t : Nat) : Nat :=
  match grid with
  | 0 => (t / 1966080 + 1) * 1966080
  | 1 => (t / 983040 + 1) * 983040
  | _ => if t % 983040 < 492032 then t / 983040 * 983040 + 492032 else (t / 983040 + 1) * 983040

/-- AIR_COMMIT_GRID.GRID. -/
def gridOf (d : Dev) : Nat := fget d Reg.AIR_COMMIT_GRID 1 0

/-- The time from the arming point to the boundary (R54). -/
def ARM_LEAD : Nat := 4096

/-- The first boundary whose arming point lies ahead. -/
def nextBoundary (d : Dev) : Nat := boundaryAfter (gridOf d) (d.air.now + ARM_LEAD)

/-- AIR_COMMIT_STATUS.STATE and AIR_SNAP_STATUS.STATE: 0 IDLE, 1 PENDING, 2 ARMED. -/
def comState (d : Dev) : Nat := fget d Reg.AIR_COMMIT_STATUS 1 0
def snState (d : Dev) : Nat := fget d Reg.AIR_SNAP_STATUS 1 0
def comB (d : Dev) : Nat := rd64 d Reg.AIR_COMMIT_AT
def setComResult (d : Dev) (r : Nat) : Dev := fset d Reg.AIR_COMMIT_STATUS 7 4 r
def setSnResult (d : Dev) (r : Nat) : Dev := fset d Reg.AIR_SNAP_STATUS 7 4 r

/-- A write of the grid (R49). -/
def writeGrid (d : Dev) (v : Nat) : Dev :=
  if comState d ≠ 0 ∨ snState d ≠ 0 then sbit d Reg.AIR_COMMIT_STATUS 3
  else if v % 4 = 3 then d else fset d Reg.AIR_COMMIT_GRID 1 0 (v % 4)

/-! ## Snapshot requests (R57 to R59) -/

/-- The CLR flags of one request joined with those there. -/
def joinClr (old new : Option Bool) : Option Bool :=
  match old, new with
  | some a, some b => some (a || b)
  | some a, none => some a
  | none, x => x

/-- Two requests for one boundary merge. -/
def SnapReq.merge (r : SnapReq) (own com : Option Bool) : SnapReq :=
  { r with own := joinClr r.own own, com := joinClr r.com com }

/-- The snapshot becomes PENDING for the boundary of `r`. -/
def snapPend (d : Dev) (r : SnapReq) : Dev :=
  let d := { d with air := { d.air with sn := r, snTaken := false } }
  wr64 (fset d Reg.AIR_SNAP_STATUS 1 0 1) Reg.AIR_SNAP_AT r.b

/-- A request for boundary `b`, by AIR_SNAP_REQ (`own`) or with a commit (`com`); `follows` says that the request takes
any boundary already pending (MODE = NEXT through AIR_SNAP_REQ). -/
def snapRequest (d : Dev) (b : Nat) (isAt follows : Bool) (own com : Option Bool) : Dev :=
  let r : SnapReq := ⟨b, isAt, own, com⟩
  match snState d with
  | 0 => snapPend d r
  | 1 =>
    if follows || decide (d.air.sn.b = b) then { d with air := { d.air with sn := d.air.sn.merge own com } }
    else setSnResult d 4
  | _ =>
    if com.isSome && decide (d.air.sn.b = b) then { d with air := { d.air with sn := d.air.sn.merge own com } }
    else match d.air.snQueued with
      | none => { d with air := { d.air with snQueued := some r } }
      | some q =>
        if follows || decide (q.b = b) then { d with air := { d.air with snQueued := some (q.merge own com) } }
        else setSnResult d 4

/-- The boundary a request through AIR_SNAP_REQ or AIR_COMMIT_REQ takes: after an armed one, if any. -/
def requestBoundary (d : Dev) (armed : Bool) (b : Nat) : Nat :=
  if armed then boundaryAfter (gridOf d) (max b (d.air.now + ARM_LEAD)) else nextBoundary d

/-- Why an AT request for `t` is refused, 0 if it is not: 3 BADTARGET, 2 LATE (R57). -/
def atRefused (d : Dev) (armed : Bool) (armedB t : Nat) : Nat :=
  if !isBoundary (gridOf d) t then 3
  else if t ≤ d.air.now + ARM_LEAD ∨ (armed ∧ t ≤ armedB) then 2
  else 0

/-- AIR_SNAP_REQ with MODE = NEXT. -/
def snapNext (d : Dev) (clr : Bool) : Dev :=
  snapRequest d (requestBoundary d (snState d = 2) d.air.sn.b) false true (some clr) none

/-- AIR_SNAP_REQ with MODE = AT. -/
def snapAt (d : Dev) (clr : Bool) : Dev :=
  let t := rd64 d Reg.AIR_SNAP_TARGET
  let c := atRefused d (snState d = 2) d.air.sn.b t
  if c ≠ 0 then setSnResult d c else snapRequest d t true false (some clr) none

/-- Withdraw the request that a commit made for boundary `b`, unless the snapshot is armed (R59). -/
def snapWithdraw (d : Dev) (b : Nat) : Dev :=
  let d :=
    if snState d = 1 ∧ d.air.sn.b = b ∧ d.air.sn.com.isSome then
      let d := setSnResult { d with air := { d.air with sn := { d.air.sn with com := none } } } 6
      if d.air.sn.own.isSome then d else fset d Reg.AIR_SNAP_STATUS 1 0 0
    else d
  match d.air.snQueued with
  | some q =>
    if q.b = b ∧ q.com.isSome then
      setSnResult { d with air := { d.air with
        snQueued := if q.own.isSome then some { q with com := none } else none } } 6
    else d
  | none => d

/-! ## Commit requests (R54, R57) -/

/-- The commit becomes PENDING for boundary `r.b`. -/
def comPend (d : Dev) (r : ComReq) : Dev :=
  let d := { d with air := { d.air with comAt := r.isAt, comPersist := r.persist, decided := none, applied := false } }
  wr64 (fset d Reg.AIR_COMMIT_STATUS 1 0 1) Reg.AIR_COMMIT_AT r.b

/-- The snapshot part of a commit request that has boundary `b`. -/
def comSnap (d : Dev) (b : Nat) (isAt snap clr : Bool) : Dev :=
  if snap then snapRequest d b isAt false none (some clr) else d

/-- A commit request that is refused, and its snapshot request with it (R59). -/
def comRefuse (d : Dev) (c : Nat) (snap : Bool) : Dev :=
  let d := setComResult d c
  if snap then setSnResult d c else d

/-- A request for boundary `b`: pending, merged or queued, or BUSY (R57). -/
def comRequest (d : Dev) (b : Nat) (isAt persist snap clr : Bool) : Dev :=
  match comState d with
  | 0 => comSnap (comPend d ⟨b, isAt, persist⟩) b isAt snap clr
  | 1 =>
    if !isAt || decide (comB d = b) then
      comSnap { d with air := { d.air with comPersist := d.air.comPersist || persist } } (comB d) d.air.comAt snap clr
    else comRefuse d 4 snap
  | _ =>
    match d.air.comQueued with
    | none =>
      comSnap (sbit { d with air := { d.air with comQueued := some ⟨b, isAt, persist⟩ } } Reg.AIR_COMMIT_STATUS 2)
        b isAt snap clr
    | some q =>
      if !isAt || decide (q.b = b) then
        comSnap { d with air := { d.air with comQueued := some { q with persist := q.persist || persist } } } q.b q.isAt snap clr
      else comRefuse d 4 snap

/-- DISCARD = 1 (R57). Words latched by an armed commit stay. -/
def comDiscard (d : Dev) : Dev :=
  let d := { d with staged := [] }
  match comState d with
  | 0 => setComResult d 6
  | 1 => snapWithdraw (setComResult (fset d Reg.AIR_COMMIT_STATUS 1 0 0) 6) (comB d)
  | _ =>
    match d.air.comQueued with
    | some q => snapWithdraw (cbit { d with air := { d.air with comQueued := none } } Reg.AIR_COMMIT_STATUS 2) q.b
    | none => d

/-- AIR_COMMIT_REQ with MODE = NEXT. -/
def comNext (d : Dev) (persist snap clr discard : Bool) : Dev :=
  let d := if discard then comDiscard d else d
  comRequest d (requestBoundary d (comState d = 2) (comB d)) false persist snap clr

/-- AIR_COMMIT_REQ with MODE = AT. -/
def comAtReq (d : Dev) (persist snap clr discard : Bool) : Dev :=
  let d := if discard then comDiscard d else d
  let t := rd64 d Reg.AIR_COMMIT_TARGET
  let c := atRefused d (comState d = 2) (comB d) t
  if c ≠ 0 then comRefuse d c snap else comRequest d t true persist snap clr

/-! ## Timing outputs (R48) -/

def toutOf (d : Dev) (n : Nat) : TOut := mget TOut.reset d.air.tout n
def setTout (d : Dev) (n : Nat) (x : TOut) : Dev := { d with air := { d.air with tout := mput TOut.reset d.air.tout n x } }

/-- Tc in a PTP second. -/
def SECOND : Nat := 1966080000

/-- EN, PERIOD, OFFSET and the time high of output `n` under its values in effect; 8 is PPS_OUT. -/
def toutVals (d : Dev) (n : Nat) : Bool × Nat × Int × Nat :=
  if n = 8 then
    (rbit d Reg.AIR_PPSO_CFG 0, SECOND, sx 24 (fget d Reg.AIR_PPSO_CFG 31 8), fget d Reg.AIR_PPSO_CFG 7 1 * 1024)
  else (rbit d (Reg.AIR_TOUT_CTRL n) 0, rw d (Reg.AIR_TOUT_PERIOD n), rw d (Reg.AIR_TOUT_OFFSET n), rw d (Reg.AIR_TOUT_WIDTH n))

/-- The rising edge at or before air time `t`, if the formula has one. -/
def lastRise (d : Dev) (n t : Nat) : Option Int :=
  let (en, per, ofs, _) := toutVals d n
  if !en || decide (per = 0) || (decide (n < 8) && decide ((t : Int) < ofs)) then none
  else some (ofs + ((t : Int) - ofs) / per * per)

/-- Whether the values in effect put output `n` high at air time `t`, counting only rises at or after `nb`. -/
def toutHigh (d : Dev) (n t nb : Nat) : Bool :=
  match lastRise d n t with
  | some r => decide ((nb : Int) ≤ r) && decide ((t : Int) < r + (toutVals d n).2.2.2)
  | none => false

/-- The level of output `n` at air time `t`. -/
def toutLevel (d : Dev) (n t : Nat) : Bool :=
  let x := toutOf d n
  match x.holdEnd with
  | some e => decide (t < e) || toutHigh d n t (max e x.notBefore)
  | none => toutHigh d n t x.notBefore

/-- Output `n` takes its level at the present air time; a hold whose end has come gives way to the new values. -/
def toutUpdate (d : Dev) (n : Nat) : Dev :=
  let x := toutOf d n
  let lv := toutLevel d n d.air.now
  match x.holdEnd with
  | some e => if e ≤ d.air.now then setTout d n ⟨lv, none, max e x.notBefore⟩ else setTout d n { x with level := lv }
  | none => setTout d n { x with level := lv }

/-- Before a commit changes the values of output `n` at `b`: the end of its pulse, or `b`, bounds the next rise (R48). -/
def toutCommit (d : Dev) (n b : Nat) : Dev :=
  let x := toutOf d n
  if toutLevel d n b then
    let e := match x.holdEnd with
      | some e => if b < e then e else 0
      | none => 0
    let e := if e ≠ 0 then e else
      match lastRise d n b with
      | some r => (r + (toutVals d n).2.2.2).toNat
      | none => b
    setTout d n { x with holdEnd := some e, notBefore := e }
  else setTout d n { x with holdEnd := none, notBefore := b }

/-! ## Steps of air time (R47) -/

/-- Output `n` follows the formula at the new air time at once. -/
def toutStep (d : Dev) (n : Nat) : Dev := setTout d n ⟨toutHigh d n d.air.now 0, none, 0⟩

/-- A pending commit after a forward step. -/
def comStepped (d : Dev) : Dev :=
  if comState d = 1 then
    if d.air.comAt then
      if comB d ≤ d.air.now + ARM_LEAD then setComResult (fset d Reg.AIR_COMMIT_STATUS 1 0 0) 2 else d
    else wr64 d Reg.AIR_COMMIT_AT (nextBoundary d)
  else d

/-- A pending snapshot after a forward step. -/
def snStepped (d : Dev) : Dev :=
  if snState d = 1 then
    if d.air.sn.isAt then
      if d.air.sn.b ≤ d.air.now + ARM_LEAD then setSnResult (fset d Reg.AIR_SNAP_STATUS 1 0 0) 2 else d
    else wr64 { d with air := { d.air with sn := { d.air.sn with b := nextBoundary d } } } Reg.AIR_SNAP_AT (nextBoundary d)
  else d

/-- Apply a step. The counter holds even values: an odd step goes to one of the two next to it. -/
def applyStep (d : Dev) (st : Int) : Dev :=
  let (d, st) : Dev × Int := if st % 2 = 0 then (d, st) else (used d, if fresh d 50 % 2 = 0 then st - 1 else st + 1)
  let d := { d with air := { d.air with now := pat 64 ((d.air.now : Int) + st), pendStep := none } }
  let d := if 0 < st then snStepped (comStepped (actAllDue d)) else d
  (List.range 9).foldl toutStep d

/-- Whether a commit or a snapshot is armed. -/
def anyArmed (d : Dev) : Bool := decide (comState d = 2) || decide (snState d = 2)

/-- A step that waits is applied once nothing is armed. -/
def stepIfFree (d : Dev) : Dev :=
  match d.air.pendStep with
  | some st => if anyArmed d then d else applyStep d st
  | none => d

/-- An 8-byte write of AIR_STEP. -/
def airStep (d : Dev) (v : Int) : Dev :=
  if !rbit d Reg.AIR_CTRL 10 then sbit d Reg.AIR_STATUS 3
  else
    stepIfFree { d with air := { d.air with
      pendStep := some (v + (match d.air.pendStep with | some x => x | none => 0)) } }

/-- A write of AIR_PHASE_ADJ (R45). -/
def phaseAdj (d : Dev) (v : Int) : Dev := { d with air := { d.air with phase := d.air.phase + v } }

/-- A rising edge of PPS_IN at air time `t` (R46). An edge half way between two seconds takes either. -/
def ppsEdge (d : Dev) (t : Nat) : Dev :=
  if !rbit d Reg.AIR_CTRL 8 then d
  else
    let r := t % SECOND
    let (d, up) : Dev × Bool :=
      if r * 2 = SECOND then (used d, decide (fresh d 51 % 2 = 1)) else (d, decide (SECOND < 2 * r))
    let e : Int := if up then (r : Int) - SECOND else r
    let d := ww (wr64 d Reg.AIR_PPS_TS t) Reg.AIR_PPS_ERR (pat 32 e)
    if rbit d Reg.AIR_CTRL 9 then phaseAdj d (-e) else d

/-- The snapshot's arming point. -/
def snapArm (d : Dev) : Dev :=
  if snState d = 1 ∧ d.air.sn.b ≤ d.air.now + ARM_LEAD then fset d Reg.AIR_SNAP_STATUS 1 0 2 else d

/-- B + 1,024 Tc of a snapshot that has been taken (R63). -/
def snapEnd (d : Dev) : Dev :=
  if snState d = 2 ∧ d.air.snTaken ∧ d.air.sn.b + 1024 ≤ d.air.now then
    let d := setSnResult (fset d Reg.AIR_SNAP_STATUS 31 16 ((fget d Reg.AIR_SNAP_STATUS 31 16 + 1) % 2 ^ 16)) 1
    let d := match d.air.snQueued with
      | some q => snapPend { d with air := { d.air with snQueued := none } } q
      | none => fset { d with air := { d.air with snTaken := false } } Reg.AIR_SNAP_STATUS 1 0 0
    stepIfFree d
  else d

/-! ## One cycle of the air-time clock (R39, R45, R369) -/

/-- The phase still to be corrected after another 131,072 Tc of slewing: 1 Tc nearer to 0. -/
def slewed (p : Int) : Int := if 0 < p then p - 1 else if p < 0 then p + 1 else p

/-- One cycle: air time and the age count advance by 2, and phase is absorbed at 1 Tc per 131,072 Tc. The clock runs from
step 2 of start-up. -/
def tick (d : Dev) : Dev :=
  if live d && stepDone d 2 then
    let t := (d.air.now + 2) % 2 ^ 64
    { d with air := { d.air with now := t, phase := if t % 131072 = 0 then slewed d.air.phase else d.air.phase },
             fab := { d.fab with age := d.fab.age + 2 } }
  else d

/-! ## Meanings -/

def execPllLock (s : State) : Out :=
  run s (fun d => if pllState d = 1 then fset d Reg.AIR_STATUS 1 0 2 else d)
def execSourceLost (s : State) : Out :=
  run s (fun d => if airSrc d = 1 ∨ airSrc d = 2 then srcLost (setPresent d false) else d)
def execSourceReturn (s : State) : Out :=
  run s (fun d => if airSrc d = 1 ∨ airSrc d = 2 then srcSelected (setPresent d true) else d)
def execAirPhaseAdj (v : Word) (s : State) : Out := run s (fun d => phaseAdj d v.toInt)
def execPpsInEdge (odd : Bool) (s : State) : Out := run s (fun d => ppsEdge d (d.air.now + b2n odd))
def execAirStep (v : BitVec 64) (s : State) : Out := run s (fun d => airStep d v.toInt)
def execTimingOutEdge (n : Nat) (s : State) : Out := run s (fun d => if n < 8 then toutUpdate d n else d)
def execPpsOutEdge (s : State) : Out := run s (fun d => toutUpdate d 8)
def execAirCommitGrid (v : Word) (s : State) : Out := run s (fun d => writeGrid d v.toNat)
def execCommitNext (persist snap clr discard : Bool) (s : State) : Out := run s (fun d => comNext d persist snap clr discard)
def execCommitAt (persist snap clr discard : Bool) (s : State) : Out := run s (fun d => comAtReq d persist snap clr discard)
def execCommitDiscard (s : State) : Out := run s comDiscard
def execSnapNext (clr : Bool) (s : State) : Out := run s (fun d => snapNext d clr)
def execSnapAt (clr : Bool) (s : State) : Out := run s (fun d => snapAt d clr)
def execSnapshotArm (s : State) : Out := run s snapArm
def execSnapshotEnd (s : State) : Out := run s snapEnd

end Sys2Proof.Machine
end

