-- ==== Sys2Proof/Machine/Domains.lean ====
section
/-! DEFINITION. The switchable power domains (R37, R422 to R425): which domain serves an address, the state of each, and
the request of a wake. -/

namespace Sys2Proof.Machine

/-- The power domain that holds the unit behind an address, if it is switchable (R34, R37, R422); the registers
that R347 serves from the always-on part of a MAC stop lie in none. -/
def domainOf (a : Nat) : Option Nat :=
  if 0x1000000000 ≤ a ∧ a < 0x1020000000 then some ((a - 0x1000000000) / 0x1000000)
  else if 0x2000000000 ≤ a ∧ a < 0x21C0000000 then
    match (a - 0x2000000000) / 0x40000000 with
    | 0 => some 38 | 1 => some 37 | 2 => some 32 | 3 => some 33 | 4 => some 34 | 5 => some 35 | _ => some 36
  else if 0x3000000000 ≤ a ∧ a < 0x3010000000 then
    let i := (a - 0x3000000000) / 0x100000
    let o := a % 0x100000
    if 0x40 ≤ i ∧ i < 0x60 then some (i - 0x40)
    else if 0x20 ≤ i ∧ i < 0x2C ∧ ((0x60 ≤ o ∧ o < 0x70) ∨ (0xA0 ≤ o ∧ o < 0xE0) ∨ (i = 0x20 ∧ 0xC0000 ≤ o)) then none
    else if 0x20 ≤ i ∧ i < 0x2C then some (39 + (i - 0x20) / 2)
    else match i with
      | 0x0A => some 38 | 0x0B => some 37 | 0x0C => some 32 | 0x0D => some 33 | 0x0E => some 34 | 0x0F => some 35
      | 0x10 => some 36 | _ => none
  else none

/-- Whether a domain is present in the grade (R422). -/
def domPresent (g : Grade) (p : Nat) : Bool :=
  decide (p < 45) && (match g with | .af => true | .am => !(decide (24 ≤ p ∧ p < 32) || decide (43 ≤ p)))

/-- PWR_DOM_STATE.STATE: 0 ON, 1 DRAIN, 2 NPR, 3 OFF, 4 QUEUED, 5 WAKING (R423); an absent domain is permanently OFF. -/
def domState (d : Dev) (p : Nat) : Nat := if domPresent d.grade p then fget d (Reg.PWR_DOM_STATE p) 2 0 else 3
def setDom (d : Dev) (p st : Nat) : Dev := fset d (Reg.PWR_DOM_STATE p) 2 0 st

/-- Whether a domain serves: ON or in DRAIN. -/
def domServes (d : Dev) (p : Nat) : Bool := decide (domState d p ≤ 1)

/-- Whether the unit behind an address serves. -/
def addrServes (d : Dev) (a : Nat) : Bool := match domainOf a with | some p => domServes d p | none => true

/-- A substitution that waited for cluster p to be ON starts (R434). -/
def substStart (d : Dev) (p : Nat) : Dev :=
  { d with pwr := { d.pwr with subst := d.pwr.subst.map (fun s => if s.core / 8 = p then { s with started := true } else s) } }

/-- A power-down in DRAIN is abandoned: the domain is ON again (R373). -/
def drainAbandoned (d : Dev) (p : Nat) : Dev := substStart (cnt (setDom d p 0) Reg.FAB_CNT_PDABORT 1) p

/-- A wake request, by REQ = 2 or by a packet or job (R372, R424, R425). -/
def wakeRequest (d : Dev) (p : Nat) (byPkt : Bool) : Dev :=
  if !domPresent d.grade p then d
  else match domState d p with
  | 1 => drainAbandoned d p
  | 2 => if d.pwr.wakeNpr.any (fun e => e.1 = p) then d
         else { d with pwr := { d.pwr with wakeNpr := d.pwr.wakeNpr ++ [(p, byPkt)] } }
  | 3 =>
    let d := fset (setDom d p 4) (Reg.PWR_DOM_STATE p) 3 3 (b2n byPkt)
    { d with pwr := { d.pwr with wakeq := d.pwr.wakeq ++ [p] } }
  | _ => d

/-- The age count has moved `us` microseconds since `t`. -/
def usPassed (d : Dev) (t us : Nat) : Bool := decide (t * 1000 + us * 1966080 ≤ d.fab.age * 1000)

end Sys2Proof.Machine
end

