-- ==== Sys2Proof/Machine/Engines.lean ====
section
/-! DEFINITION. Jobs of the engines (R229 to R238, R272 to R276): taking a job, its checks, reading its inputs and writing
its outputs, its record and its end; and the FFT engine (R239 to R246). -/

namespace Sys2Proof.Machine

/-! ## Instances -/

/-- The key of an instance: kind of R209 and number within the kind. -/
def engKey (kind j : Nat) : Nat := 32 * kind + j
def engOf (d : Dev) (k : Nat) : Eng := mget Eng.reset d.eng k
def setEng (d : Dev) (k : Nat) (x : Eng) : Dev := { d with eng := mput Eng.reset d.eng k x }

/-- The control block of a kind, its index within the block, its power domain and its record KIND (R229, R268, R272). -/
def engBlock (kind : Nat) : Nat :=
  match kind with
  | 0 => 0x3000C00000 | 1 => 0x3000D00000 | 2 => 0x3000E00000 | 3 => 0x3000F00000 | 4 => 0x3000F00000
  | 5 => 0x3001000000 | 6 => 0x3001000000 | _ => 0x3000B00000
def engIdx (kind j : Nat) : Nat := if kind = 4 ∨ kind = 6 then 8 + j else j
def engDomain (kind : Nat) : Nat :=
  match kind with
  | 0 => 32 | 1 => 33 | 2 => 34 | 3 => 35 | 4 => 35 | 5 => 36 | 6 => 36 | _ => 37
def engRecKind (kind : Nat) : Nat :=
  match kind with
  | 0 => 0x10 | 1 => 0x11 | 2 => 0x13 | 3 => 0x14 | 4 => 0x15 | 5 => 0x16 | 6 => 0x17 | _ => 0x12

/-- INST_CFG.EN in effect; a burst finder has none (R238, R269). -/
def engEn (d : Dev) (kind j : Nat) : Bool := kind = 7 || rbit d (engBlock kind + 0x100 + 4 * engIdx kind j) 0

/-- Show the state of an instance: 0 IDLE, 1 BUSY, 3 WAIT_CQ. -/
def setEngState (d : Dev) (kind j st : Nat) : Dev :=
  if kind = 7 then d else fset d (engBlock kind + 0x200 + 4 * engIdx kind j) 1 0 st

/-- Bits of the 64-bit word at byte offset `o` of a descriptor. -/
def dbits (desc : List Byte) (o hi lo : Nat) : Nat := bits (ofBytes ((desc.drop o).take 8)) hi lo

/-! ## Taking a job (R231, R238) -/

/-- The queues bound to an instance that hold visible entries, served in rotation. -/
def engNext (d : Dev) (kind j : Nat) : Option Nat :=
  let qs := (d.qs.filter (fun e => decide (e.2.st = 1) && decide (qType d e.1 = 2) && decide (qUnit d e.1 = kind * 32 + j)
    && decide (0 < avail e.2.slots))).map (·.1)
  match qs.find? (fun q => (engOf d (engKey kind j)).rot ≤ q) with
  | some q => some q
  | none => qs.head?

/-- An instance that is free, enabled and in a domain that serves takes its next job; a visible job in a domain that is
off wakes it (R231). -/
def engTake (d : Dev) (kind j : Nat) : Dev :=
  let k := engKey kind j
  match engNext d kind j with
  | none => d
  | some q =>
    if !domServes d (engDomain kind) then wakeRequest d (engDomain kind) true
    else if domState d (engDomain kind) ≠ 0 ∨ !engEn d kind j ∨ (engOf d k).job.isSome then d
    else
      match hwTake d q with
      | (d, .entry bs) =>
        let d := setEng d k { engOf d k with job := some ⟨bs, none⟩, rot := q + 1 }
        let d := setEngState d kind j 1
        if kind = 7 then d
        else fset d (engBlock kind + 0x200 + 4 * engIdx kind j) 31 8 (dbits bs 4 23 0)
      | (d, .nothing) => d

/-! ## Checks (R232, R234) -/

/-- The "must be 0" fields of the common header, and the event number in NOTIFY. -/
def headerOk (x : List Byte) : Bool :=
  decide (dbits x 0 31 11 = 0) && decide (dbits x 4 31 24 = 0) && decide (dbits x 8 31 20 = 0) && decide (dbits x 12 31 24 = 0)
    && (dbits x 0 10 10 = 0 || decide (dbits x 12 23 12 = 0))

/-- The extent of a buffer: base and bytes. -/
abbrev Ext := Nat × Nat

/-- An extent is 64-byte aligned and lies inside one region of R31. -/
def extOk (e : Ext) : Bool := decide (e.1 % 64 = 0) && inRegion e.1 e.2

/-- Two extents overlap. -/
def Ext.meets (a b : Ext) : Bool := decide (a.1 < b.1 + b.2) && decide (b.1 < a.1 + a.2)

/-- The address checks that every job shares: 4 BAD_ADDR, 5 OVERLAP. -/
def extCause (ins outs : List Ext) : Nat :=
  if !((ins ++ outs).all extOk) then 4
  else match outs with
    | [] => 0
    | o :: os => if ins.any o.meets || os.any o.meets || os.any (fun p => ins.any p.meets) then 5 else 0

/-! ## Reading and writing (R235) -/

/-- What a read by a job gives. -/
inductive Got where
  | bytes (bs : List Byte) | wait | err (a : Nat)
  deriving DecidableEq, Repr

/-- The first line of a read that does not answer OK. -/
def firstBad (d : Dev) : List Nat → Dev × Option (Nat × Ans)
  | [] => (d, none)
  | la :: ls =>
    match decideLine d la false with
    | (d, .ok) => firstBad d ls
    | (d, x) => (d, some (la, x))

/-- A read of `n` bytes by a job. -/
def readIn (d : Dev) (a n : Nat) : Dev × Got :=
  if n = 0 then (d, .bytes [])
  else if absentWin d.grade a n then (d, .bytes (List.replicate n 0))
  else if !inMem d.grade a n then (d, .err a)
  else
    match firstBad d (linesOf a n) with
    | (d, none) => (d, .bytes (getBytes d.mem a n))
    | (d, some (_, .wait)) => (d, .wait)
    | (d, some (la, _)) => (d, .err (max la a))

/-- Several reads; their bytes in order. -/
def readAll (d : Dev) : List Ext → Dev × Got
  | [] => (d, .bytes [])
  | (a, n) :: es =>
    match readIn d a n with
    | (d, .bytes bs) =>
      match readAll d es with
      | (d, .bytes cs) => (d, .bytes (bs ++ cs))
      | x => x
    | x => x

/-- Whether a job of instance `k` may write a line: memory, not the Sorrel window, tail buffers only by their instance. -/
def mayWrite (d : Dev) (k a n : Nat) : Bool :=
  inMem d.grade a n &&
  (match memKind d.grade a with
    | some .sorrel => false
    | some (.tail j) => decide (k = engKey 0 j)
    | some _ => true
    | none => false)

/-- Write an output in lines; the address of the first that fails. -/
def writeOut (d : Dev) (k : Nat) : List (Nat × List Byte) → Dev × Option Nat
  | [] => (d, none)
  | (a, bs) :: ps =>
    if absentWin d.grade a bs.length then writeOut d k ps
    else if mayWrite d k a bs.length then writeOut (memPut d a bs) k ps else (d, some a)

/-- The lines of an output that begins on a 64-byte boundary. -/
def outLines (a : Nat) (bs : List Byte) : List (Nat × List Byte) :=
  (chunks 64 bs).zipIdx.map (fun e => (a + 64 * e.2, e.1))

/-- Pad with zeros to `n` bytes. -/
def padTo (n : Nat) (bs : List Byte) : List Byte := bs ++ List.replicate (n - bs.length) 0

/-- Round up to a multiple of 64. -/
def up64 (n : Nat) : Nat := (n + 63) / 64 * 64

/-! ## The end of a job (R233, R236, R268) -/

/-- What a job's computation gives: its outputs as (address, bytes), its STATUS, RESULT and INFO, and its cycles at full
speed. -/
structure JobOut where
  outs : List (Nat × List Byte)
  status : Nat
  result : Nat
  info : Nat
  cyc : Nat
  deriving DecidableEq, Repr

/-- CYCLES: the cycles of the formula, and those that the job waited for memory or ran on a throttled clock, which are
open (R229, R246). -/
def cyclesOf (d : Dev) (c : Nat) : Nat := (c + (Config.free 52 d.freeCtr)) % 2 ^ 32

/-- The job ends with an outcome; the record waits for JOB_COMPLETE. -/
def endJob (d : Dev) (kind j : Nat) (r : JobRes) : Dev :=
  let k := engKey kind j
  match (engOf d k).job with
  | none => d
  | some x => setEng d k { engOf d k with job := some { x with out := some r } }

/-- Run a job: its extents, the first failing check, and its computation over the input bytes (R233 to R235). -/
def runJob (d : Dev) (kind j : Nat) (cause : Nat) (ins : List Ext) (f : List Byte → JobOut) : Dev :=
  if cause ≠ 0 then endJob (used d) kind j ⟨0x40, cause, cyclesOf d 0, 0, 0, 0⟩
  else
    match readAll d ins with
    | (d, .wait) => d
    | (d, .err a) => endJob (used d) kind j ⟨0x41, 0, cyclesOf d 0, a, 0, 0⟩
    | (d, .bytes bs) =>
      let o := f bs
      match writeOut d (engKey kind j) (o.outs.flatMap (fun e => outLines e.1 e.2)) with
      | (d, some a) => endJob (used d) kind j ⟨0x42, 0, cyclesOf d 0, a, 0, 0⟩
      | (d, none) => endJob (used d) kind j ⟨o.status, 0, cyclesOf d o.cyc, 0, o.result, o.info⟩

/-- The completion record of a job (R236, R275). -/
def jobRecord (d : Dev) (kind j : Nat) (x : List Byte) (r : JobRes) : List Byte :=
  toBytes 4 (engRecKind kind + r.status * 2 ^ 8 + dbits x 0 7 0 * 2 ^ 16 + r.detail * 2 ^ 24)
    ++ toBytes 4 (dbits x 4 23 0 + j * 2 ^ 24) ++ toBytes 4 r.cyc ++ toBytes 4 (tickNow d % 2 ^ 32)
    ++ toBytes 8 (r.erraddr % 2 ^ 48) ++ toBytes 4 r.result ++ toBytes 4 r.info

/-- Count the end of a job in its block (R268, R269, R297). -/
def countJob (d : Dev) (kind j : Nat) (r : JobRes) : Dev :=
  let b := engBlock kind
  let i := engIdx kind j
  let bad := r.status = 0x40
  let err := r.status = 0x41 ∨ r.status = 0x42
  if kind = 7 then
    if bad then sbit d Reg.FEN_STATUS 2 else if err then sbit d Reg.FEN_STATUS 3 else cnt d Reg.FEN_CNT_SCAN 1
  else
    let d := cnt d (b + 0x1018 + 0x20 * i) r.cyc
    if bad ∨ err then
      let d := cnt d (b + (if bad then 0x1008 else 0x1010) + 0x20 * i) 1
      let d := sbit d b (if bad then 0 else 1)
      fset (fset d b (if kind < 2 then 11 else 12) 8 i) b 23 16 r.detail
    else
      let d := cnt d (b + 0x1000 + 0x20 * i) 1
      let d := if r.status = 0x03 then cnt d (b + 0x2000 + 0x10 * i) 1 else d
      let d := if kind = 2 then cnt d (b + 0x2008 + 0x10 * i) (bits r.result 5 0) else d
      let d := if kind = 5 then cnt d (b + 0x2008 + 0x10 * i) (bits r.result 4 0) else d
      if (kind = 2 ∨ kind = 5) ∧ r.result.testBit 8 then sbit d b 2 else d

/-- Steps 2 and 3 of R233: the record, unless CQ back-pressures the instance, then the notification. -/
def jobComplete (d : Dev) (kind j : Nat) : Dev :=
  let k := engKey kind j
  match (engOf d k).job with
  | some ⟨x, some r⟩ =>
    let finish (d : Dev) : Dev :=
      let d := if dbits x 0 9 9 = 1 then sendNotify d (dbits x 0 10 10 = 1) (dbits x 12 23 0) else d
      countJob (setEngState (setEng d k { engOf d k with job := none }) kind j 0) kind j r
    if dbits x 0 8 8 = 1 then
      match produce d (dbits x 8 19 0) (jobRecord d kind j x r) with
      | (d, .done) => finish d
      | (d, .pressed) => setEngState d kind j 3
    else finish d
  | _ => d

/-- The job of an instance that awaits its operation, if its OP is `op`. -/
def jobWith (d : Dev) (kind j op : Nat) : Option (List Byte) :=
  match (engOf d (engKey kind j)).job with
  | some ⟨x, none⟩ => if dbits x 0 7 0 = op then some x else none
  | _ => none

/-- The operations of an engine kind (R239, R247, R267, R280). The coding engines have one operation each, whose OP
value the spec does not print; any OP names it. -/
def opListed (kind op : Nat) : Bool :=
  match kind with
  | 0 => decide (1 ≤ op ∧ op ≤ 5)
  | 1 => decide (0x10 ≤ op ∧ op ≤ 0x17)
  | 7 => op = 0x20
  | _ => true

/-- A job whose OP is not listed ends with BAD_OP. -/
def badOp (d : Dev) (kind j : Nat) : Dev :=
  match (engOf d (engKey kind j)).job with
  | some ⟨x, none⟩ =>
    if opListed kind (dbits x 0 7 0) then d else endJob (used d) kind j ⟨0x40, 1, cyclesOf d 0, 0, 0, 0⟩
  | _ => d

/-! ## Numbers -/

/-- Round a quotient to the nearest integer, ties to even (R126). -/
def convQ (n : Int) (m : Nat) : Int :=
  let q := n / m
  let r := n - q * m
  if 2 * r < m then q else if (m : Int) < 2 * r then q + 1 else if q % 2 = 0 then q else q + 1

/-- Round a rational to the nearest integer, ties to even. -/
def convR (x : Rat) : Int := convQ x.num x.den

/-- π in units of 2^-64. -/
def PI64 : Nat := 57952155664616982739

/-- cos and sin of 2π × num / den, in units of 2^-40. -/
def expJ (num : Int) (den : Nat) : Int × Int :=
  let r : Int := num % den
  let r : Int := if (den : Int) < 2 * r then r - den else r
  let th : Int := 2 * PI64 * r / den
  let u : Int := (2 ^ 64 : Nat)
  let go := (List.range 40).foldl (fun (acc : Int × Int × Int) k =>
    let (t, c, s) := acc
    let (c, s) := match k % 4 with
      | 0 => (c + t, s) | 1 => (c, s + t) | 2 => (c - t, s) | _ => (c, s - t)
    (t * th / u / ((k : Int) + 1), c, s)) (u, 0, 0)
  (go.2.1 / (2 ^ 24 : Nat), go.2.2 / (2 ^ 24 : Nat))

/-- Complex product of values in units of 2^-40. -/
def cm40 (a b : Int × Int) : Int × Int :=
  let u : Int := (2 ^ 40 : Nat)
  ((a.1 * b.1 - a.2 * b.2) / u, (a.1 * b.2 + a.2 * b.1) / u)
def cadd (a b : Int × Int) : Int × Int := (a.1 + b.1, a.2 + b.2)
def csum (l : List (Int × Int)) : Int × Int := l.foldl cadd (0, 0)

/-- A ci16 value of 4 bytes (R17). -/
def ci16 (bs : List Byte) : Int × Int := (sx 16 (ofBytes (bs.take 2)), sx 16 (ofBytes ((bs.drop 2).take 2)))
/-- The ci16 values of a byte string, in units of 2^-40. -/
def ci40 (bs : List Byte) : List (Int × Int) :=
  (chunks 4 bs).map (fun x => let (a, b) := ci16 x; (a * (2 ^ 40 : Nat), b * (2 ^ 40 : Nat)))
def putCi16 (a b : Int) : List Byte := toBytes 2 (pat 16 a) ++ toBytes 2 (pat 16 b)

/-! ## FFT engine -/

/-- The fields of an FFT descriptor (R240). -/
structure FftD where
  op : Nat
  inA : Nat
  istr : Nat
  outA : Nat
  ostr : Nat
  n : Nat
  bfp : Bool
  phc : Bool
  tin : Bool
  tout : Bool
  sh : Nat
  nstr : Nat
  nsym : Nat
  ncp : Nat
  ncpl : Nat
  wlen : Nat
  long : Nat
  wtab : Nat
  fshift : Nat
  phase0 : Nat
  bfirst : Int
  bcount : Nat
  ofs : Nat
  dec : Nat
  zeros : Bool
  deriving DecidableEq, Repr

def fftD (x : List Byte) : FftD :=
  { op := dbits x 0 7 0, inA := dbits x 0x10 47 0, istr := dbits x 0x10 63 48, outA := dbits x 0x18 47 0,
    ostr := dbits x 0x18 63 48, n := dbits x 0x20 12 0, bfp := dbits x 0x20 13 13 = 1, phc := dbits x 0x20 14 14 = 1,
    tin := dbits x 0x20 15 15 = 1, tout := dbits x 0x20 16 16 = 1, sh := dbits x 0x20 20 17, nstr := dbits x 0x20 26 21 + 1,
    nsym := dbits x 0x20 31 27 + 1, ncp := dbits x 0x24 11 0, ncpl := dbits x 0x24 23 12, wlen := dbits x 0x24 31 24,
    long := dbits x 0x28 27 0, wtab := dbits x 0x28 31 28, fshift := dbits x 0x2C 31 0, phase0 := dbits x 0x30 31 0,
    bfirst := sx 13 (dbits x 0x34 12 0), bcount := dbits x 0x34 25 13, ofs := dbits x 0x38 11 0, dec := dbits x 0x38 14 12,
    zeros := decide (dbits x 0x34 31 26 = 0) && decide (dbits x 0x38 31 15 = 0) && decide (dbits x 0x3C 31 0 = 0) }

/-- The cyclic prefix of symbol t. -/
def FftD.cp (f : FftD) (t : Nat) : Nat := if f.long.testBit t then f.ncpl else f.ncp
/-- Samples of symbol t in a continuous layout. -/
def FftD.len (f : FftD) (t : Nat) : Nat := f.cp t + (if f.op = 5 then f.n * 2 ^ f.dec else f.n)
/-- The first sample of symbol t. -/
def FftD.start (f : FftD) (t : Nat) : Nat := ((List.range t).map f.len).foldl (· + ·) 0
/-- Values of a row of the input and of the output; 0 for a continuous layout. -/
def FftD.inRow (f : FftD) : Nat := match f.op with | 2 => f.bcount | 3 => f.n | 4 => f.n | _ => 0
def FftD.outRow (f : FftD) : Nat := match f.op with | 1 => f.bcount | 2 => 0 | _ => f.n
/-- Bytes of one stream of the input and of the output (R241). -/
def FftD.inBytes (f : FftD) : Nat := if f.inRow = 0 then 4 * f.start f.nsym else f.nsym * up64 (4 * f.inRow)
def FftD.outBytes (f : FftD) : Nat :=
  if f.op = 2 then 4 * f.start f.nsym else f.nsym * up64 (4 * f.outRow) + (if f.bfp then up64 f.nsym else 0)
def FftD.inExt (f : FftD) : Ext := (f.inA, (f.nstr - 1) * f.istr * 64 + f.inBytes)
def FftD.outExt (f : FftD) : Ext := (f.outA, (f.nstr - 1) * f.ostr * 64 + f.outBytes)

/-- Divide out a prime as often as it divides. -/
def strip (p : Nat) : Nat → Nat → Nat
  | 0, n => n
  | k + 1, n => if n % p = 0 then strip p k (n / p) else n

/-- 12 × M with M from 1 to 273 of the primes 2, 3 and 5. -/
def size12 (n : Nat) : Bool :=
  let m := n / 12
  n % 12 = 0 && decide (1 ≤ m ∧ m ≤ 273) && strip 5 8 (strip 3 8 (strip 2 8 m)) = 1

/-- The sizes of each operation (R239). -/
def FftD.sizeOk (f : FftD) : Bool :=
  match f.op with
  | 1 => [128, 256, 512, 1024, 2048, 4096, 1536, 3072].contains f.n
  | 2 => [128, 256, 512, 1024, 2048, 4096, 1536, 3072].contains f.n
  | 3 => size12 f.n || [139, 839, 1151].contains f.n
  | 4 => size12 f.n
  | _ => [139, 839, 1151].contains f.n

/-- Fields within their ranges, unused fields 0 (R234, R240, R241). -/
def FftD.fieldsOk (f : FftD) : Bool :=
  let cps (p : Nat → Bool) : Bool := (List.range f.nsym).all (fun t => p (f.cp t))
  let noCp := f.ncp = 0 && f.ncpl = 0 && f.long = 0
  let noShift := f.fshift = 0 && f.phase0 = 0
  let noBins := f.bfirst = 0 && f.bcount = 0
  let noWin := !f.tin && !f.tout && f.wlen = 0 && f.wtab = 0
  f.zeros && decide (f.nsym ≤ 28) && decide (f.long < 2 ^ f.nsym) && (!f.bfp || f.sh = 0)
    && decide (f.inBytes ≤ f.istr * 64) && decide (f.outBytes ≤ f.ostr * 64)
    && (match f.op with
      | 1 => noWin && f.dec = 0 && cps (fun c => f.ofs ≤ c) && decide (-(f.n / 2 : Nat) ≤ f.bfirst ∧ f.bfirst < (f.n / 2 : Nat))
          && decide (1 ≤ f.bcount ∧ f.bcount ≤ f.n)
      | 2 => !f.bfp && !f.phc && f.ofs = 0 && f.dec = 0 && cps (fun c => f.wlen ≤ c)
          && decide (-(f.n / 2 : Nat) ≤ f.bfirst ∧ f.bfirst < (f.n / 2 : Nat)) && decide (1 ≤ f.bcount ∧ f.bcount ≤ f.n)
      | 3 => !f.phc && noWin && noCp && noShift && noBins && f.ofs = 0 && f.dec = 0
      | 4 => !f.bfp && !f.phc && noWin && noCp && noShift && noBins && f.ofs = 0 && f.dec = 0
      | _ => !f.phc && noWin && noBins && decide (f.dec ≤ 6) && cps (fun c => f.ofs ≤ c))

/-- The first failing check of an FFT job (R234). -/
def FftD.cause (f : FftD) (x : List Byte) : Nat :=
  if !headerOk x || !f.fieldsOk then 2 else if !f.sizeOk then 3 else extCause [f.inExt] [f.outExt]

/-- Bin of output position i: ((BFIRST + i + N/2) mod N) − N/2. -/
def FftD.bin (f : FftD) (i : Nat) : Int := (f.bfirst + i + (f.n / 2 : Nat)) % f.n - (f.n / 2 : Nat)

/-- The frequency shift at sample n (R242). -/
def FftD.shift (f : FftD) (n : Nat) : Int × Int := expJ (((f.phase0 + n * f.fshift) % 2 ^ 32 : Nat)) (2 ^ 32)

/-- One transform value: Σ_m w[m] e^(∓j2πkm/N). -/
def dftAt (n : Nat) (sign k : Int) (w : List (Int × Int)) : Int × Int :=
  csum (w.zipIdx.map (fun e => cm40 e.1 (expJ (sign * k * e.2) n)))

/-- The exact output row of symbol t of one stream, in units of 2^-40 (R242, R244). -/
def FftD.row (f : FftD) (xs : List (Int × Int)) (t : Nat) : List (Int × Int) :=
  match f.op with
  | 1 =>
    let sh := xs.zipIdx.map (fun e => cm40 e.1 (f.shift e.2))
    let w := (sh.drop (f.start t + f.ofs)).take f.n
    (List.range f.bcount).map (fun i =>
      let k := f.bin i
      let v := dftAt f.n (-1) k w
      if f.phc then cm40 v (expJ (k * (f.cp t - f.ofs : Nat)) f.n) else v)
  | 3 => (List.range f.n).map (fun k : Nat => dftAt f.n (-1) (k : Int) ((xs.drop (t * (up64 (4 * f.n) / 4))).take f.n))
  | 4 => (List.range f.n).map (fun m : Nat => dftAt f.n 1 (m : Int) ((xs.drop (t * (up64 (4 * f.n) / 4))).take f.n))
  | _ =>
    let sh := xs.zipIdx.map (fun e => cm40 e.1 (f.shift e.2))
    let sym := (sh.drop (f.start t)).take (f.len t)
    let w := (List.range f.n).map (fun m =>
      if f.dec = 0 then (sym.drop f.ofs).getD m (0, 0) else Config.decim f.dec (sym.drop f.ofs) m)
    (List.range f.n).map (fun k : Nat => dftAt f.n (-1) (k : Int) w)

/-- Output part i of a job: the exact value × 2^-SH rounded convergently, at most 3 least significant bits away, and
saturated; with whether it saturated (R245). -/
def fftPart (desc inp : List Byte) (i : Nat) (v : Int) (sh : Nat) : Int × Bool :=
  let y := convQ v (2 ^ (40 + sh)) + (Config.job desc inp i % 7 - 3)
  (sat 16 y, decide (y ≠ sat 16 y))

/-- A row under shift `sh`: its bytes and saturated parts; `i0` numbers its first part. -/
def fftRow (desc inp : List Byte) (i0 : Nat) (row : List (Int × Int)) (sh : Nat) : List Byte × Nat :=
  row.zipIdx.foldl (fun acc e =>
    let (a, sa) := fftPart desc inp (i0 + 2 * e.2) e.1.1 sh
    let (b, sb) := fftPart desc inp (i0 + 2 * e.2 + 1) e.1.2 sh
    (acc.1 ++ putCi16 a b, acc.2 + b2n sa + b2n sb)) ([], 0)

/-- The shift of a row with BFP = 1: the smallest at which nothing saturates, or 15. -/
def bfpShift (desc inp : List Byte) (i0 : Nat) (row : List (Int × Int)) : Nat :=
  ((List.range 15).find? (fun s => (fftRow desc inp i0 row s).2 = 0)).getD 15

/-- One stream of an operation that writes rows: bytes and saturated parts. -/
def FftD.stream (f : FftD) (desc inp xs : List Byte) (s : Nat) : List Byte × Nat :=
  let v := ci40 xs
  let rows := (List.range f.nsym).map (fun t =>
    let row := f.row v t
    let i0 := (s * 32 + t) * 16384
    let sh := if f.bfp then bfpShift desc inp i0 row else f.sh
    let (bs, n) := fftRow desc inp i0 row sh
    (padTo (up64 (4 * f.outRow)) bs, n, sh))
  let bytes := (rows.map (·.1)).flatten
  let exps := if f.bfp then padTo (up64 f.nsym) (rows.map (fun r => BitVec.ofNat 8 r.2.2)) else []
  (bytes ++ exps, (rows.map (·.2.1)).foldl (· + ·) 0)

/-- Cycles of a job (R246). -/
def FftD.cycles (f : FftD) : Nat :=
  let sym (t : Nat) : Nat :=
    match f.op with
    | 1 => ceilDiv (max (f.len t) f.bcount) 8 + 64
    | 2 => ceilDiv (max f.bcount (f.len t)) 8 + 64
    | 5 => ceilDiv (f.len t) 8 + ceilDiv f.n 2 + 128
    | _ => ceilDiv f.n 4 + 64
  f.nstr * ((List.range f.nsym).map sym).foldl (· + ·) 0 + 400

/-- What a descriptor asks of an engine: its first failing check (0 none), the extents that it reads, and its computation over
the bytes read. -/
abbrev JobPlan := Nat × List Ext × (List Byte → JobOut)

/-- Run the job of an instance to its plan. -/
def runPlan (d : Dev) (kind j : Nat) (p : JobPlan) : Dev := runJob d kind j p.1 p.2.1 p.2.2

/-- FFT, DFT, IDFT and PRACH. -/
def fftPlan (x : List Byte) : JobPlan :=
  let f := fftD x
  (f.cause x, (List.range f.nstr).map (fun s => (f.inA + s * f.istr * 64, f.inBytes)), fun bs =>
    let rs : List (List Byte × Nat) := (List.range f.nstr).map (fun s => f.stream x bs ((bs.drop (s * f.inBytes)).take f.inBytes) s)
    let satc : Nat := (rs.map (·.2)).foldl (· + ·) 0
    ⟨rs.zipIdx.map (fun e => (f.outA + e.2 * f.ostr * 64, e.1.1)), b2n (decide (0 < satc)), satc % 2 ^ 32, 0, f.cycles⟩)

/-- A job of FFT, DFT, IDFT or PRACH. -/
def fftRows (d : Dev) (j op : Nat) : Dev :=
  match jobWith d 0 j op with
  | none => d
  | some x => runPlan d 0 j (fftPlan x)

/-! ### IFFT (R243) -/

/-- The samples x of symbol t of one stream. -/
def FftD.time (f : FftD) (xs : List (Int × Int)) (t : Nat) : List (Int × Int) :=
  let vs := (xs.drop (t * (up64 (4 * f.bcount) / 4))).take f.bcount
  (List.range f.n).map (fun m : Nat => csum (vs.zipIdx.map (fun e => cm40 e.1 (expJ (f.bin e.2 * (m : Int)) f.n))))

/-- Multiply by a Q15 coefficient. -/
def byQ15 (c : Int) (v : Int × Int) : Int × Int := (v.1 * c / 32768, v.2 * c / 32768)

/-- Windowed, prefixed symbols of one stream before the frequency shift, with the continuation of the last symbol.
`tail` is the continuation that enters the first symbol. -/
def ifftSyms (f : FftD) (win : List Int) (xs : List (Int × Int)) :
    List Nat → List (Int × Int) → List (Int × Int) × List (Int × Int)
  | [], tail => ([], tail)
  | t :: ts, tail =>
    let x := f.time xs t
    let sym := x.drop (f.n - f.cp t) ++ x
    let sym := sym.zipIdx.map (fun e =>
      let v := if e.2 < f.wlen then byQ15 (win.getD e.2 0) e.1 else e.1
      cadd v (tail.getD e.2 (0, 0)))
    let next := (List.range f.wlen).map (fun i => byQ15 (win.getD (f.wlen - 1 - i) 0) (x.getD i (0, 0)))
    let (rest, last) := ifftSyms f win xs ts next
    (sym ++ rest, last)

/-- The tail slot of stream s of instance j: die address (R230). -/
def tailAddr (j s : Nat) : Nat := 0x2080000000 + j * 0x100000 + s * 0x400

/-- IFFT with the window coefficients and the tails that it reads: `lens` values of each stream. -/
def ifftPlan (x : List Byte) (j : Nat) (win : List Int) (lens : Nat → Nat) (tailIn : Nat → List (Int × Int)) : JobPlan :=
  let f := fftD x
  let ins : List Ext := (List.range f.nstr).map (fun s => (f.inA + s * f.istr * 64, f.inBytes))
  let tails : List Ext := (List.range f.nstr).filterMap (fun s => if 0 < lens s then some (tailAddr j s, 4 * lens s) else none)
  let comp (bs : List Byte) (s : Nat) : List (Int × Int) × List (Int × Int) :=
    ifftSyms f win (ci40 ((bs.drop (s * f.inBytes)).take f.inBytes)) (List.range f.nsym) (tailIn s)
  (f.cause x, ins ++ tails, fun bs =>
    let inp := bs.take (f.nstr * f.inBytes)
    let rs : List (List Byte × List Byte × Nat) := (List.range f.nstr).map (fun s =>
      let (o, last) := comp inp s
      let (ob, n) := fftRow x bs (s * 262144) (o.zipIdx.map (fun e => cm40 e.1 (f.shift e.2))) f.sh
      let tb := (fftRow x bs (s * 262144 + 131072) last f.sh).1
      (ob, tb, n))
    let satc : Nat := (rs.map (·.2.2)).foldl (· + ·) 0
    ⟨rs.zipIdx.map (fun e => (f.outA + e.2 * f.ostr * 64, e.1.1))
      ++ (if f.tout then rs.zipIdx.map (fun e => (tailAddr j e.2, e.1.2.1)) else []),
     b2n (decide (0 < satc)), satc % 2 ^ 32, 0, f.cycles⟩)

/-- The tail slots of instance j take their lengths once its job has ended without error (R243). -/
def ifftTails (d : Dev) (j : Nat) (f : FftD) : Dev :=
  match (engOf d (engKey 0 j)).job with
  | some ⟨_, some r⟩ =>
    if r.status < 0x40 then
      let e := engOf d (engKey 0 j)
      let t := (List.range f.nstr).foldl (fun t s =>
        if f.tout then mput 0 t s f.wlen else if f.tin then mput 0 t s 0 else t) e.tails
      setEng d (engKey 0 j) { e with tails := t }
    else d
  | _ => d

/-- A job of IFFT. Tails are kept as ci16 after the output shift. -/
def ifft (d : Dev) (j : Nat) : Dev :=
  match jobWith d 0 j 2 with
  | none => d
  | some x =>
    let f := fftD x
    let lens (s : Nat) : Nat := if f.tin then min (mget 0 (engOf d (engKey 0 j)).tails s) f.wlen else 0
    let copy := if j < 8 then 0 else 2 ^ 48
    let wa := 0x2080000000 + 0x1000000 + f.wtab * 0x400 + copy
    let (d, wgot) : Dev × Got :=
      if f.cause x ≠ 0 ∨ f.wlen = 0 then (d, .bytes [])
      else match firstBad d (linesOf wa 512) with
        | (d, none) => (d, .bytes (getBytes d.mem wa 512))
        | (d, some (_, .wait)) => (d, .wait)
        | (d, some (la, _)) => (d, .err (la % 2 ^ 48))
    match wgot with
    | .wait => d
    | .err a => endJob (used d) 0 j ⟨0x41, 0, cyclesOf d 0, a, 0, 0⟩
    | .bytes wb =>
      let win := (chunks 2 wb).map (fun c => sx 16 (ofBytes c))
      let tailIn (s : Nat) : List (Int × Int) :=
        (ci40 (getBytes d.mem (tailAddr j s) (4 * lens s))).map (fun v => (v.1 * (2 ^ f.sh : Nat), v.2 * (2 ^ f.sh : Nat)))
      ifftTails (runPlan d 0 j (ifftPlan x j win lens tailIn)) j f

/-! ## Meanings -/

def execFft (j : Nat) (s : State) : Out := run s (fun d => fftRows d j 1)
def execIfft (j : Nat) (s : State) : Out := run s (fun d => ifft d j)
def execDft (j : Nat) (s : State) : Out := run s (fun d => fftRows d j 3)
def execIdft (j : Nat) (s : State) : Out := run s (fun d => fftRows d j 4)
def execPrach (j : Nat) (s : State) : Out := run s (fun d => fftRows d j 5)
/-- JOB_COMPLETE of instance j of a kind; a job whose OP is not listed ends first. -/
def execJobComplete (kind j : Nat) (s : State) : Out := run s (fun d => jobComplete (badOp d kind j) kind j)

end Sys2Proof.Machine
end

