-- ==== Sys2Proof/Machine/Coding.lean ====
section
/-! DEFINITION. The coding engines (file 10): LDPC decoder and encoder, turbo decoder, polar encoder and decoder, with HARQ
buffers. Tables of the 3GPP standards that the spec cites and does not print are open (`Config`). -/

namespace Sys2Proof.Machine

/-! ## Bits and soft values (R276) -/

/-- The first `n` bits of a byte string, bit 0 of each byte first (R160). -/
def bitsIn (n : Nat) (bs : List Byte) : List Bool := (bs.flatMap lsbFirst).take n
/-- Bits packed into bytes, padded with zeros to a 64-byte boundary. -/
def packBits (l : List Bool) : List Byte :=
  padTo (up64 (ceilDiv l.length 8)) ((chunks 8 l).map (fun c =>
    BitVec.ofNat 8 (c.zipIdx.foldl (fun acc e => acc + b2n e.1 * 2 ^ e.2) 0)))
/-- A soft value; −128 is read as −127. -/
def softIn (b : Byte) : Int := max (-127) b.toInt
/-- Clamp to [−127, 127]. -/
def clamp127 (x : Int) : Int := if 127 < x then 127 else if x < -127 then -127 else x
def putSoft (l : List Int) : List Byte := padTo (up64 l.length) (l.map (BitVec.ofInt 8))

/-- Whether a bit string that ends with its CRC has remainder 0 (R164). -/
def crcPass (sel : Nat) (l : List Bool) : Bool := crcState sel 0 l = 0
/-- The parity bits of a bit string. -/
def crcBitsOf (sel : Nat) (l : List Bool) : List Bool :=
  let p := crcState sel 0 l
  (List.range (crcLen sel)).map (fun i => p.testBit i)
/-- SEL of R164 for the CRC code of a decoder descriptor: 1 CRC24A, 2 CRC24B, 3 CRC16. -/
def decCrc (code : Nat) : Nat := [0, 0, 1, 3].getD code 0
/-- Length of that CRC. -/
def decCrcLen (code : Nat) : Nat := if code = 0 then 0 else crcLen (decCrc code)

/-! ## HARQ (R280, R283) -/

/-- What reading a HARQ buffer gives: its bytes and whether a line was lost, a wait, or the failing address. -/
inductive Hq where
  | got (bs : List Byte) (lost : Bool) | wait | err (a : Nat)
  deriving DecidableEq, Repr

/-- Read a HARQ buffer line by line; with `skip` a failing line reads as zeros. -/
def readHq (d : Dev) (skip : Bool) : List (Nat × Nat) → Dev × Hq
  | [] => (d, .got [] false)
  | (a, n) :: ls =>
    let next (d : Dev) (bs : List Byte) (l : Bool) : Dev × Hq :=
      match readHq d skip ls with
      | (d, .got cs m) => (d, .got (bs ++ cs) (l || m))
      | x => x
    match readIn d a n with
    | (d, .bytes bs) => next d bs false
    | (d, .wait) => (d, .wait)
    | (d, .err e) => if skip then next d (List.replicate n 0) true else (d, .err e)

/-- The lines of a buffer of `n` bytes. -/
def hqLines (a n : Nat) : List (Nat × Nat) := (List.range (ceilDiv n 64)).map (fun i => (a + 64 * i, min 64 (n - 64 * i)))

/-- The fields that every decoder descriptor with HARQ has. -/
structure HarqD where
  inA : Nat
  nIn : Nat
  outA : Nat
  nOut : Nat
  hin : Nat
  hout : Nat
  ncb : Nat
  rd : Bool
  wr : Bool
  skip : Bool
  deriving DecidableEq, Repr

/-- BAD_ADDR and OVERLAP of a decoder job (R234, R283). -/
def HarqD.extCause (g : Grade) (h : HarqD) : Nat :=
  let ins := [(h.inA, h.nIn)] ++ (if h.rd then [(h.hin, h.ncb)] else [])
  let outs := [(h.outA, h.nOut)] ++ (if h.wr then [(h.hout, up64 h.ncb)] else [])
  let c := Sys2Proof.Machine.extCause ins outs
  let inHbm (a : Nat) : Bool := decide (a + h.ncb ≤ hbmSize g)
  if (h.rd && !inHbm h.hin) || (h.wr && !inHbm h.hout) then 4 else c

/-- The combined buffer and the number of positions that clamped (R280). -/
def combine (inp hq : List Int) (rd : Bool) : List Int × Nat :=
  if rd then
    let s := inp.zipIdx.map (fun e => e.1 + hq.getD e.2 0)
    (s.map clamp127, (s.filter (fun x => decide (clamp127 x ≠ x))).length)
  else (inp.map clamp127, 0)

/-- Run a decoder job: `soft` maps the input bytes to NCB buffer values, `dec` the combined buffer to the decoded bits,
STATUS, RESULT and cycles. -/
def runHarq (d : Dev) (kind j : Nat) (cause : Nat) (h : HarqD) (soft : List Byte → List Int)
    (dec : List Int → List Bool × Nat × Nat × Nat) : Dev :=
  if cause ≠ 0 then endJob (used d) kind j ⟨0x40, cause, cyclesOf d 0, 0, 0, 0⟩
  else
    match readIn d h.inA h.nIn with
    | (d, .wait) => d
    | (d, .err a) => endJob (used d) kind j ⟨0x41, 0, cyclesOf d 0, a, 0, 0⟩
    | (d, .bytes bs) =>
      match readHq d h.skip (if h.rd then hqLines h.hin h.ncb else []) with
      | (d, .wait) => d
      | (d, .err a) => endJob (used d) kind j ⟨0x41, 0, cyclesOf d 0, a, 0, 0⟩
      | (d, .got hb lost) =>
        let (c, nsat) := combine (soft bs) (hb.map softIn) h.rd
        let (bits, status, result, cyc) := dec c
        let outs := outLines h.outA (packBits bits) ++ (if h.wr then outLines h.hout (putSoft c) else [])
        match writeOut d (engKey kind j) outs with
        | (d, some a) => endJob (used d) kind j ⟨0x42, 0, cyclesOf d 0, a, 0, 0⟩
        | (d, none) => endJob (used d) kind j ⟨status, 0, cyclesOf d cyc, 0, result + b2n lost * 2 ^ 8, nsat⟩

/-- What a decoder descriptor asks: its first failing check, its buffers, and the two functions of `runHarq`. -/
abbrev HarqPlan := Nat × HarqD × (List Byte → List Int) × (List Int → List Bool × Nat × Nat × Nat)

/-- Run the job of a decoder to its plan. -/
def runHarqPlan (d : Dev) (kind j : Nat) (p : HarqPlan) : Dev := runHarq d kind j p.1 p.2.1 p.2.2.1 p.2.2.2

/-! ## LDPC codes (R277) -/

/-- The set index of a lifting size (a = 2, 3, 5, 7, 9, 11, 13, 15), if it is one. -/
def zcSet (z : Nat) : Option Nat :=
  if 384 < z ∨ z < 2 then none
  else [2, 3, 5, 7, 9, 11, 13, 15].findIdx? (fun a => (List.range 8).any (fun m => z = a * 2 ^ m))

/-- K / Zc, the columns of the base graph, and the circular buffer's largest length / Zc. -/
def infoCols (bg : Nat) : Nat := if bg = 0 then 22 else 10
def allCols (bg : Nat) : Nat := if bg = 0 then 68 else 52
def bufCols (bg : Nat) : Nat := if bg = 0 then 66 else 50

/-- The entries of row r of a base graph: column and shift. -/
def rowOf (bg zc r : Nat) : List (Nat × Nat) :=
  (List.range (allCols bg)).filterMap (fun c =>
    (Config.ldpcShift bg ((zcSet zc).getD 0) r c).map (fun s => (c, s % zc)))

/-- The variables of check z of a row. -/
def checkVars (zc : Nat) (row : List (Nat × Nat)) (z : Nat) : List Nat := row.map (fun e => e.1 * zc + (z + e.2) % zc)

/-- The new messages of one check from its variable-to-check values (R281). -/
def minSum (scale ofs : Nat) (t : List Int) : List Int :=
  t.zipIdx.map (fun e =>
    let others := (t.zipIdx.filter (fun o => o.2 ≠ e.2)).map (·.1)
    let m := (others.map Int.natAbs).foldl min 128
    let neg := (others.filter (fun v => decide (v < 0))).length % 2 = 1
    let a : Int := ((m * scale / 16 - ofs : Nat) : Int)
    sat 8 (if neg then -a else a))

/-- One layer: posteriors and the layer's messages by check. -/
def layer (zc scale ofs : Nat) (row : List (Nat × Nat)) (post : List Int) (msg : List (List Int)) : List Int × List (List Int) :=
  (List.range zc).foldl (fun (acc : List Int × List (List Int)) z =>
    let vs := checkVars zc row z
    let old := msg.getD z []
    let t := vs.zipIdx.map (fun e => sat 8 (acc.1.getD e.1 0 - old.getD e.2 0))
    let new := minSum scale ofs t
    let post := (vs.zip (t.zip new)).foldl (fun p e => p.set e.1 (sat 10 (e.2.1 + e.2.2))) acc.1
    (post, acc.2 ++ [new])) (post, [])

/-- One iteration over the layers. -/
def iteration (zc scale ofs : Nat) : List (List (Nat × Nat)) → List Int → List (List (List Int)) → List Int × List (List (List Int))
  | [], post, _ => (post, [])
  | row :: rows, post, msgs =>
    let (post, m) := layer zc scale ofs row post (msgs.headD [])
    let (post, ms) := iteration zc scale ofs rows post msgs.tail
    (post, m :: ms)

/-- Checks of the layers that the hard decisions leave unsatisfied. -/
def unsat (zc : Nat) (rows : List (List (Nat × Nat))) (post : List Int) : Nat :=
  (rows.map (fun row => ((List.range zc).filter (fun z =>
    ((checkVars zc row z).filter (fun v => decide (post.getD v 0 < 0))).length % 2 = 1)).length)).foldl (· + ·) 0

/-- Iterate until the stopping rule of ET or MAXIT (R281): iterations run and the posteriors. -/
def ldpcIterate (stop : List Int → Bool) (zc scale ofs : Nat) (rows : List (List (Nat × Nat))) :
    Nat → Nat → List Int → List (List (List Int)) → Nat × List Int
  | 0, done, post, _ => (done, post)
  | n + 1, done, post, msgs =>
    let (post, msgs) := iteration zc scale ofs rows post msgs
    if stop post then (done + 1, post) else ldpcIterate stop zc scale ofs rows n (done + 1) post msgs

/-- LDPC_DECODE (R277 to R284). -/
def ldpcDecPlan (g : Grade) (x : List Byte) : HarqPlan :=
  let bg := dbits x 0x30 0 0
  let zc := dbits x 0x30 9 1
  let nrow := dbits x 0x30 15 10
  let maxit := dbits x 0x30 20 16
  let et := dbits x 0x30 22 21
  let crc := dbits x 0x30 24 23
  let ncb := dbits x 0x34 15 0
  let kp := dbits x 0x34 31 16
  let scale := dbits x 0x38 17 14
  let ofs := dbits x 0x38 20 18
  let k := infoCols bg * zc
  let h : HarqD := ⟨dbits x 0x10 47 0, ncb, dbits x 0x18 47 0, up64 (ceilDiv kp 8), dbits x 0x20 47 0, dbits x 0x28 47 0, ncb,
    dbits x 0x30 25 25 = 1, dbits x 0x30 26 26 = 1, dbits x 0x30 27 27 = 1⟩
  let fieldsOk := [0x10, 0x18, 0x20, 0x28].all (fun o => dbits x o 63 48 = 0) && dbits x 0x30 31 28 = 0
    && dbits x 0x38 13 0 = 0 && dbits x 0x38 31 21 = 0 && dbits x 0x3C 31 0 = 0
    && decide (4 ≤ nrow ∧ nrow ≤ (if bg = 0 then 46 else 42)) && decide (1 ≤ maxit) && decide (1 ≤ scale ∧ scale ≤ 15)
  let dimBad := kp = 0 || decide (k < kp) || decide (kp ≤ decCrcLen crc) || decide (ncb < k - 2 * zc)
    || decide (bufCols bg * zc < ncb) || (decide (2 ≤ et) && crc = 0) || (h.skip && !h.rd)
  let ext := h.extCause g
  let cause := if !headerOk x || !fieldsOk then 2 else if (zcSet zc).isNone then 3 else if ext ≠ 0 then ext
    else if dimBad then 6 else 0
  let nuse := min ncb ((infoCols bg - 2 + nrow) * zc)
  let rows := (List.range nrow).map (rowOf bg zc)
  (cause, h, fun bs => bs.map softIn, fun c =>
    let post0 := List.replicate (2 * zc) 0 ++ (List.range (bufCols bg * zc)).map (fun p => if p < nuse then c.getD p 0 else 0)
    let hard (post : List Int) : List Bool := (post.take kp).map (fun v => decide (v < 0))
    let crcOk (post : List Int) : Bool := crc ≠ 0 && crcPass (decCrc crc) (hard post)
    let pcOk (post : List Int) : Bool := unsat zc rows post = 0
    let stop (post : List Int) : Bool := match et with
      | 0 => false | 1 => pcOk post | 2 => crcOk post | _ => pcOk post && crcOk post
    let (it, post) := ldpcIterate stop zc scale ofs rows maxit 0 post0 []
    let ok := if crc = 0 then pcOk post else crcOk post
    let ld := if h.rd || h.wr then ceilDiv ncb 64 * (1 + b2n h.rd) else ceilDiv nuse 64
    let dec := it * nrow * (3 * ceilDiv zc 64 + 2)
    (hard post, if ok then 0 else 3,
     it + b2n (pcOk post) * 2 ^ 6 + b2n (crcOk post) * 2 ^ 7 + min 65535 (unsat zc rows post) * 2 ^ 16,
     100 + ld + max dec (if h.wr then ceilDiv ncb 64 else 0) + ceilDiv kp 512))

/-- The job of LDPC decoder j. -/
def ldpcDecode (d : Dev) (j : Nat) : Dev :=
  match (engOf d (engKey 2 j)).job with
  | some ⟨x, none⟩ => runHarqPlan d 2 j (ldpcDecPlan d.grade x)
  | _ => d

/-- The start position of a redundancy version (TS 38.212 table 5.4.2.1-2, cited). -/
def k0Of (bg ncb zc rv : Nat) : Nat :=
  let m := (if bg = 0 then [0, 17, 33, 56] else [0, 13, 25, 43]).getD rv 0
  m * ncb / (bufCols bg * zc) * zc

/-- The first `e` positions of a circular buffer from `k0` that are no filler. -/
def selectPos (ncb k0 e : Nat) (filler : Nat → Bool) : List Nat :=
  let ring := ((List.range ncb).map (fun i => (k0 + i) % ncb)).filter (fun p => !filler p)
  (List.range e).map (fun i => ring.getD (i % ring.length) 0)

/-- Bit interleaving (R166): out[i + j Qm] = in[i m + j]. -/
def interleave (qm : Nat) (l : List Bool) : List Bool :=
  let m := l.length / qm
  (List.range l.length).map (fun o => l.getD (o % qm * m + o / qm) false)

/-- LDPC_ENCODE (R285 to R287). -/
def ldpcEncPlan (x : List Byte) : JobPlan :=
  let bg := dbits x 0x20 0 0
  let zc := dbits x 0x20 9 1
  let nblk := dbits x 0x20 15 10 + 1
  let ne0 := dbits x 0x20 22 16
  let rv := dbits x 0x20 24 23
  let att := dbits x 0x20 25 25 = 1
  let ilv := dbits x 0x20 26 26 = 1
  let qc := dbits x 0x20 29 27
  let qm := [1, 2, 4, 6, 8, 10].getD qc 1
  let ncb := dbits x 0x24 15 0
  let kp := dbits x 0x24 31 16
  let e0 := dbits x 0x28 31 0
  let e1 := dbits x 0x2C 31 0
  let k := infoCols bg * zc
  let e (b : Nat) : Nat := if b < ne0 then e0 else e1
  let total := ((List.range nblk).map e).foldl (· + ·) 0
  let inBits := if att then kp - 24 else kp
  let row := ceilDiv inBits 512 * 64
  let inE : Ext := (dbits x 0x10 47 0, nblk * row)
  let outE : Ext := (dbits x 0x18 47 0, up64 (ceilDiv total 8))
  let fieldsOk := dbits x 0x10 63 48 = 0 && dbits x 0x18 63 48 = 0 && dbits x 0x20 31 30 = 0 && dbits x 0x30 63 0 = 0
    && dbits x 0x38 63 0 = 0 && decide (ne0 ≤ nblk) && decide (qc < 6) && decide (1 ≤ e0 ∧ e0 ≤ 131072)
    && (if ne0 = nblk then e1 = 0 else decide (1 ≤ e1 ∧ e1 ≤ 131072))
  let dimBad := kp = 0 || decide (k < kp) || (att && decide (kp ≤ 24)) || decide (ncb < k - 2 * zc)
    || decide (bufCols bg * zc < ncb) || (ilv && (decide (e0 % qm ≠ 0) || decide (e1 % qm ≠ 0)))
  let ext := extCause [inE] [outE]
  let cause := if !headerOk x || !fieldsOk then 2 else if (zcSet zc).isNone then 3 else if ext ≠ 0 then ext
    else if dimBad then 6 else 0
  (cause, [inE], fun bs =>
    let block (b : Nat) : List Bool :=
      let raw := bitsIn inBits ((bs.drop (b * row)).take row)
      let raw := if att then raw ++ crcBitsOf 1 raw else raw
      let info := raw ++ List.replicate (k - kp) false
      let word (p : Nat) : Bool := if p + 2 * zc < k then info.getD (p + 2 * zc) false
        else Config.ldpcParity bg zc info (p + 2 * zc - k)
      let sel := (selectPos ncb (k0Of bg ncb zc rv) (e b)
        (fun p => decide (kp ≤ p + 2 * zc ∧ p + 2 * zc < k))).map word
      if ilv then interleave qm sel else sel
    ⟨[(outE.1, packBits ((List.range nblk).map block).flatten)], 0, total % 2 ^ 32, 0,
     60 + ((List.range nblk).map (fun b => ceilDiv kp 128 + ceilDiv (e b) 64 + 8)).foldl (· + ·) 0⟩)

/-- The job of LDPC encoder j. -/
def ldpcEncode (d : Dev) (j : Nat) : Dev :=
  match (engOf d (engKey 3 j)).job with
  | some ⟨x, none⟩ => runPlan d 3 j (ldpcEncPlan x)
  | _ => d

/-! ## Turbo decoder (R288 to R290) -/

/-- The block sizes of TS 36.212 table 5.1.3-3, cited. -/
def turboK (k : Nat) : Bool :=
  (decide (40 ≤ k ∧ k ≤ 512) && k % 8 = 0) || (decide (512 < k ∧ k ≤ 1024) && k % 16 = 0)
  || (decide (1024 < k ∧ k ≤ 2048) && k % 32 = 0) || (decide (2048 < k ∧ k ≤ 6144) && k % 64 = 0)

/-- The inter-column permutation of the sub-block interleaver (TS 36.212 table 5.1.4-1, cited). -/
def colPerm (i : Nat) : Nat :=
  [0, 16, 8, 24, 4, 20, 12, 28, 2, 18, 10, 26, 6, 22, 14, 30, 1, 17, 9, 25, 5, 21, 13, 29, 3, 19, 11, 27, 7, 23, 15, 31].getD i 0

/-- Whether position p of the circular buffer w holds no transmitted bit: a dummy of the interleaver or a filler bit of
the first two streams (TS 36.212 clause 5.1.4.1, cited). -/
def turboNull (k f p : Nat) : Bool :=
  let dlen := k + 4
  let r := ceilDiv dlen 32
  let kp := 32 * r
  let nd := kp - dlen
  let stream := if p < kp then 0 else 1 + (p - kp) % 2
  let i := if p < kp then p else (p - kp) / 2
  let pos := if stream = 2 then (colPerm (i / r) + 32 * (i % r) + 1) % kp else i % r * 32 + colPerm (i / r)
  decide (pos < nd) || (decide (stream < 2) && decide (pos < nd + f))

/-- Iterate a turbo job: iterations run and whether the last one's half-iterations agree. -/
def turboIterate (stop : Nat → Bool) : Nat → Nat → Nat
  | 0, done => done
  | n + 1, done => if stop (done + 1) then done + 1 else turboIterate stop n (done + 1)

/-- TURBO_DECODE (R288 to R290). -/
def turboPlan (g : Grade) (x : List Byte) : HarqPlan :=
  let k := dbits x 0x30 12 0
  let f := dbits x 0x30 18 13
  let rv := dbits x 0x30 20 19
  let maxit := dbits x 0x30 25 21
  let et := dbits x 0x30 27 26
  let crc := dbits x 0x30 29 28
  let ncb := dbits x 0x34 15 0
  let e := dbits x 0x38 16 0
  let scale := dbits x 0x38 23 20
  let r := ceilDiv (k + 4) 32
  let h : HarqD := ⟨dbits x 0x10 47 0, e, dbits x 0x18 47 0, up64 (ceilDiv (k - f) 8), dbits x 0x20 47 0, dbits x 0x28 47 0, ncb,
    dbits x 0x38 17 17 = 1, dbits x 0x38 18 18 = 1, dbits x 0x38 19 19 = 1⟩
  let fieldsOk := [0x10, 0x18, 0x20, 0x28].all (fun o => dbits x o 63 48 = 0) && dbits x 0x30 31 30 = 0
    && dbits x 0x34 31 16 = 0 && dbits x 0x38 31 24 = 0 && dbits x 0x3C 31 0 = 0 && decide (1 ≤ maxit ∧ maxit ≤ 16)
    && decide (crc ≠ 3) && decide (1 ≤ e ∧ e ≤ 98304) && decide (1 ≤ scale)
  let dimBad := ncb = 0 || decide (96 * r < ncb) || (et % 2 = 1 && crc = 0) || (h.skip && !h.rd)
  let ext := h.extCause g
  let cause := if !headerOk x || !fieldsOk then 2 else if !turboK k then 3 else if ext ≠ 0 then ext
    else if dimBad then 6 else 0
  let k0 := r * (2 * ceilDiv ncb (8 * r) * rv + 2)
  let params := [k, f, scale, ncb]
  (cause, h, fun bs =>
      let pos := selectPos ncb (k0 % ncb) e (turboNull k f)
      let sums := (pos.zip (bs.map softIn)).foldl (fun (acc : Map Int) p => mmod 0 acc p.1 (· + p.2)) []
      (List.range ncb).map (fun p => clamp127 (mget 0 sums p)),
    fun c =>
      let bitsAt (it : Nat) : List Bool := (List.range (k - f)).map (fun i => Config.turboBit params c it (f + i))
      let crcOk (it : Nat) : Bool := crc ≠ 0 && crcPass (decCrc crc) (bitsAt it)
      let agree (it : Nat) : Bool := Config.turboAgree params c it
      let stop (it : Nat) : Bool := match et with
        | 0 => false | 1 => crcOk it | 2 => agree it | _ => crcOk it || agree it
      let it := turboIterate stop maxit 0
      let ok := if crc = 0 then agree it else crcOk it
      (bitsAt it, if ok then 0 else 3, it + b2n (crcOk it) * 2 ^ 7 + b2n (agree it) * 2 ^ 9,
       100 + ceilDiv e 64 + ceilDiv ncb 64 * (1 + b2n h.rd) + it * (ceilDiv k 8 + 64) + ceilDiv k 512))

/-- The job of turbo decoder j. -/
def turboDecode (d : Dev) (j : Nat) : Dev :=
  match (engOf d (engKey 5 j)).job with
  | some ⟨x, none⟩ => runHarqPlan d 5 j (turboPlan d.grade x)
  | _ => d

/-! ## Polar engines (R291 to R294) -/

/-- The fields of a polar descriptor. -/
structure PolD where
  inA : Nat
  outA : Nat
  a : Nat
  crc : Nat
  prep : Bool
  nmax : Nat
  iil : Bool
  ibil : Bool
  rnti : Nat
  e : Nat
  rntiEn : Bool
  logl : Nat
  zeros : Bool
  deriving DecidableEq, Repr

def polD (x : List Byte) : PolD :=
  { inA := dbits x 0x10 47 0, outA := dbits x 0x18 47 0, a := dbits x 0x20 9 0, crc := dbits x 0x20 11 10,
    prep := dbits x 0x20 12 12 = 1, nmax := if dbits x 0x20 13 13 = 1 then 10 else 9, iil := dbits x 0x20 14 14 = 1,
    ibil := dbits x 0x20 15 15 = 1, rnti := dbits x 0x20 31 16, e := dbits x 0x24 13 0, rntiEn := dbits x 0x24 14 14 = 1,
    logl := dbits x 0x24 16 15,
    zeros := dbits x 0x10 63 48 = 0 && dbits x 0x18 63 48 = 0 && dbits x 0x24 31 17 = 0 && dbits x 0x28 63 0 = 0
      && dbits x 0x30 63 0 = 0 && dbits x 0x38 63 0 = 0 }

/-- SEL of R164 for the CRC code, and L. -/
def PolD.sel (p : PolD) : Nat := [0, 2, 4, 5].getD p.crc 0
def PolD.l (p : PolD) : Nat := if p.crc = 0 then 0 else crcLen p.sel
def PolD.k (p : PolD) : Nat := p.a + p.l

/-- Ceiling of log2. -/
def clog2 (n : Nat) : Nat := ((List.range 32).find? (fun i => decide (n ≤ 2 ^ i))).getD 32

/-- N of TS 38.212 clause 5.3.1.2, cited. -/
def PolD.n (p : PolD) : Nat :=
  let c := clog2 p.e
  let n1 := if 8 * p.e ≤ 9 * 2 ^ (c - 1) ∧ 16 * p.k < 9 * p.e then c - 1 else c
  2 ^ max 5 (min n1 (min (clog2 (8 * p.k)) p.nmax))

/-- The first failing check; `enc` for the encoder. -/
def PolD.cause (p : PolD) (x : List Byte) (enc : Bool) : Nat :=
  let ins : List Ext := [(p.inA, if enc then ceilDiv p.a 8 else p.e)]
  let outs : List Ext := [(p.outA, up64 (ceilDiv (if enc then p.e else p.a) 8))]
  let ext := extCause ins outs
  if !headerOk x || !p.zeros || decide (p.e < 1 ∨ 8192 < p.e) || (enc && decide (p.logl ≠ 0)) then 2
  else if ext ≠ 0 then ext
  else if p.k < 18 ∨ 1023 < p.k ∨ p.e < p.k ∨ (p.iil ∧ 164 < p.k) ∨ (p.rntiEn ∧ p.l < 16) then 6
  else 0

/-- The CRC bits of a payload, with PREP1 and RNTI applied; RNTI's most significant bit goes first. -/
def PolD.crcOf (p : PolD) (l : List Bool) : List Bool :=
  if p.crc = 0 then []
  else
    let c := crcBitsOf p.sel ((if p.prep then List.replicate 24 true else []) ++ l)
    c.zipIdx.map (fun e =>
      if p.rntiEn && decide (p.l ≤ e.2 + 16) then xor e.1 (p.rnti.testBit (15 - (e.2 + 16 - p.l))) else e.1)

def PolD.params (p : PolD) : List Nat := [p.n, p.e, b2n p.iil, b2n p.ibil]

/-- POLAR_ENCODE (R291 to R294). -/
def polarEncPlan (x : List Byte) : JobPlan :=
  let p := polD x
  (p.cause x true, [(p.inA, ceilDiv p.a 8)], fun bs =>
    let a := bitsIn p.a bs
    let info := a ++ p.crcOf a
    ⟨[(p.outA, packBits ((List.range p.e).map (Config.polarEnc p.params info)))], 0, p.e, 0,
     40 + ceilDiv p.n 32 + ceilDiv p.e 64⟩)

/-- The job of polar encoder j. -/
def polarEncode (d : Dev) (j : Nat) : Dev :=
  match (engOf d (engKey 4 j)).job with
  | some ⟨x, none⟩ => runPlan d 4 j (polarEncPlan x)
  | _ => d

/-- POLAR_DECODE (R291 to R294). -/
def polarDecPlan (x : List Byte) : JobPlan :=
  let p := polD x
  (p.cause x false, [(p.inA, p.e)], fun bs =>
    let soft := bs.map softIn
    let prm := p.params ++ [p.a, p.l, p.logl]
    let path (l : Nat) : List Bool := (List.range p.k).map (Config.polarBit prm soft l)
    let ok (l : Nat) : Bool := p.crc ≠ 0 && decide ((path l).drop p.a = p.crcOf ((path l).take p.a))
    let hit := (List.range (2 ^ p.logl)).find? ok
    let l := hit.getD 0
    ⟨[(p.outA, packBits ((path l).take p.a))], if p.crc ≠ 0 ∧ hit.isNone then 3 else 0,
     b2n (hit.isSome) * 2 ^ 7 + l * 2 ^ 8, Config.polarMetric prm soft l % 2 ^ 32,
     60 + ceilDiv p.e 64 + ceilDiv (p.n * clog2 p.n) 16 * max 1 (2 ^ p.logl / 4)⟩)

/-- The job of polar decoder j. -/
def polarDecode (d : Dev) (j : Nat) : Dev :=
  match (engOf d (engKey 6 j)).job with
  | some ⟨x, none⟩ => runPlan d 6 j (polarDecPlan x)
  | _ => d

/-! ## Meanings -/

def execLdpcDecode (j : Nat) (s : State) : Out := run s (fun d => ldpcDecode d j)
def execLdpcEncode (j : Nat) (s : State) : Out := run s (fun d => ldpcEncode d j)
def execTurboDecode (j : Nat) (s : State) : Out := run s (fun d => turboDecode d j)
def execPolarEncode (j : Nat) (s : State) : Out := run s (fun d => polarEncode d j)
def execPolarDecode (j : Nat) (s : State) : Out := run s (fun d => polarDecode d j)

end Sys2Proof.Machine
end

