-- ==== Sys2Proof/Machine/FrontEnd.lean ====
section
/-! DEFINITION. The front end (file 09): gain loops with their freezes (R255 to R260), burst finders with their watch entries
and result sets (R261 to R266), scan jobs (R267), and the front end's part in a commit (R258, R261, R271). -/

namespace Sys2Proof.Machine

/-! ## Symbols (R43) -/

/-- The length of a symbol that does not begin a half subframe, for NUM 0 15 kHz, 1 30 kHz, 2 60 kHz, 3 LTE. -/
def symLen (num : Nat) : Nat := match num with | 1 => 70144 | 2 => 35072 | _ => 140288

/-- The start and end of the symbol that holds air time t. -/
def symbolAt (num t : Nat) : Nat × Nat :=
  let h := t / 983040 * 983040
  let o := t % 983040
  let l := symLen num
  if o < l + 1024 then (h, h + l + 1024)
  else
    let i := (o - l - 1024) / l
    (h + l + 1024 + i * l, h + l + 1024 + (i + 1) * l)

/-! ## Gain (R256 to R258) -/

/-- The largest integer r below 2^k with r^40 × den ≤ num. -/
def root40 (k num den : Nat) : Nat :=
  (List.range k).foldl (fun r i => let t := r + 2 ^ (k - 1 - i); if t ^ 40 * den ≤ num then t else r) 0

/-- M(G) = round(4,096 × 10^((G − 60) / 40)) (R256). -/
def gainM (g : Nat) : Nat :=
  let r := if 60 ≤ g then root40 20 (8192 ^ 40 * 10 ^ (g - 60)) 1 else root40 20 (8192 ^ 40) (10 ^ (60 - g))
  (r + 1) / 2

/-- L: the largest integer j with 10^(j/20) ≤ P / 2^30, where P = sum / n, clamped to [−128, 127] (R257). -/
def levelL (sum n : Nat) : Int :=
  let b := (n * 2 ^ 30) ^ 20
  (List.range 256).foldl (fun (best : Int) (i : Nat) =>
    let j : Int := (i : Int) - 128
    let ok : Bool := if 0 ≤ j then decide (10 ^ j.toNat * b ≤ sum ^ 20) else decide (b ≤ sum ^ 20 * 10 ^ (-j).toNat)
    if ok then j else best) (-128)

def glOf (d : Dev) (s : Nat) : Gl := mget Gl.reset d.fen.gl s
def setGl (d : Dev) (s : Nat) (x : Gl) : Dev := { d with fen := { d.fen with gl := mput Gl.reset d.fen.gl s x } }

/-- The automatic loop of a stream runs (R258). -/
def glAuto (d : Dev) (s : Nat) : Bool := rbit d (Reg.FEN_GL_CFG s) 0 && !rbit d (Reg.FEN_GL_CFG s) 1

/-- The code of a symbol that begins now (R258). -/
def glCode (d : Dev) (s : Nat) : Nat :=
  if !rbit d Reg.FEN_CTRL 0 || !rbit d (Reg.FEN_GL_CFG s) 0 then 60
  else if rbit d (Reg.FEN_GL_CFG s) 1 then fget d (Reg.FEN_GL_CFG s) 8 2
  else (glOf d s).next

/-- A freeze was in force at some air time of the symbol (R259). -/
def frozenIn (x : Gl) : Bool := x.frz.any (fun f => decide (f.t0 < x.symEnd ∧ x.symStart < f.t1))

/-- The next code (R257). -/
def nextCode (d : Dev) (s : Nat) (g clips : Nat) (l : Int) : Nat :=
  let p := Reg.FEN_GL_PROF (fget d (Reg.FEN_GL_CFG s) 12 9)
  let e := l - sx 8 (fget d p 7 0)
  let hys : Int := fget d p 11 8
  let decay : Int := fget d p 15 12
  let clip : Int := fget d p 21 16
  let g : Int := g
  (if 0 < clips then max 0 (g - max clip e)
   else if hys < e then max 0 (g - e)
   else if e < -hys then min 120 (g + min decay (-e))
   else g).toNat

/-- Show FROZEN: a freeze is in force at the present air time (R269). -/
def showFrozen (d : Dev) (s : Nat) : Dev :=
  fset d (Reg.FEN_GL_STATE s) 7 7
    (b2n (glAuto d s && (glOf d s).frz.any (fun f => decide (f.t0 ≤ d.air.now ∧ d.air.now < f.t1))))

/-- The end of the symbol under way: measured, and the next code set unless a freeze discards it (R257 to R260). -/
def gainUpdate (d : Dev) (s : Nat) : Dev :=
  let x := glOf d s
  if x.n = 0 then d
  else
    let l := levelL x.sum x.n
    let d := fset (fset d (Reg.FEN_GL_STATE s) 15 8 (pat 8 l)) (Reg.FEN_GL_STATE s) 31 16 (min 65535 x.clips)
    let g := if glAuto d s && rbit d Reg.FEN_CTRL 0 && !frozenIn x then nextCode d s x.code x.clips l else x.next
    setGl d s { x with next := g, n := 0, sum := 0, clips := 0, frz := x.frz.filter (fun f => decide (x.symEnd ≤ f.t1)) }

/-! ## Watch entries (R261 to R264, R270) -/

/-- The configuration of a watch entry in effect. -/
structure BfE where
  en : Bool
  modeS : Bool
  frz : Bool
  ntEn : Bool
  first : Nat
  nstr : Nat
  wstart : Nat
  wper : Nat
  wlen : Nat
  firstSamp : Nat
  nsamp : Nat
  frzLen : Nat
  p0 : Nat
  p1 : Nat
  p2 : Nat
  refBase : Nat
  event : Nat
  deriving DecidableEq, Repr

def bfOf (d : Dev) (b w : Nat) : BfE :=
  let c := rw d (Reg.FEN_BF_CTL b w)
  { en := bit c 0, modeS := bit c 1, frz := bit c 2, ntEn := bit c 3, first := bits c 14 4, nstr := bits c 20 15 + 1,
    wstart := rw d (Reg.FEN_BF_WSTART b w), wper := rw d (Reg.FEN_BF_WPERIOD b w), wlen := rw d (Reg.FEN_BF_WLEN b w),
    firstSamp := fget d (Reg.FEN_BF_REGION b w) 15 0, nsamp := fget d (Reg.FEN_BF_REGION b w) 31 16,
    frzLen := fget d (Reg.FEN_BF_FREEZE b w) 23 0, p0 := rw d (Reg.FEN_BF_P0 b w), p1 := rw d (Reg.FEN_BF_P1 b w),
    p2 := rw d (Reg.FEN_BF_P2 b w), refBase := fget d (Reg.FEN_BF_REF b w) 15 0, event := fget d (Reg.FEN_BF_NT b w) 11 0 }

def BfE.ewin (e : BfE) : Nat := bits e.p1 8 0
def BfE.nref (e : BfE) : Nat := bits e.p1 15 9 + 1
def BfE.lagmax (e : BfE) : Nat := bits e.p1 25 16
def BfE.qthr (e : BfE) : Nat := bits e.p2 15 0
def BfE.reflen (e : BfE) : Nat := bits e.p2 31 16
def BfE.wordLen (e : BfE) : Nat := bits e.p2 5 0 + 1
def BfE.tol (e : BfE) : Nat := bits e.p2 9 6
def BfE.slice (e : BfE) : Nat := bits e.p2 11 10
def BfE.dec (e : BfE) : Nat := bits e.p2 15 12 + 1
def BfE.dlag (e : BfE) : Nat := bits e.p2 25 16
def BfE.word (e : BfE) : Nat := e.p0 + e.p1 * 2 ^ 32

/-- The ranges of R270 that the parameters of a mode keep. -/
def BfE.paramsOk (e : BfE) : Bool :=
  if e.modeS then decide (8 ≤ e.wordLen) && decide (e.slice ≤ 2) && decide (1 ≤ e.dlag) && bits e.p2 31 26 = 0
  else decide (4 ≤ e.ewin ∧ e.ewin ≤ 256) && bits e.p1 31 26 = 0 && decide (1 ≤ e.reflen ∧ e.reflen ≤ 1024)
    && decide (e.refBase * 64 + e.nref * e.reflen * 4 ≤ 262144)

/-- The ranges of an enabled entry (R270, R271). -/
def BfE.ok (e : BfE) : Bool :=
  e.paramsOk && decide (e.first + e.nstr ≤ 1536) && decide (1 ≤ e.wlen) && (e.wper = 0 || decide (e.wlen ≤ e.wper))
    && decide (1 ≤ e.nsamp)

/-- The sequences of a group: one list of samples per stream. -/
abbrev Seqs := List (List Smp)

/-- Samples that every stream has. -/
def common (q : Seqs) : Nat := (q.map List.length).foldl min ((q.headD []).length)

/-- The energy stage triggers at position p (R262). -/
def BfE.fires (e : BfE) (q : Seqs) (p : Nat) : Bool :=
  let sum := (q.map (fun s => ((List.range e.ewin).map (fun i =>
    match s[p - i]? with | some x => (x.re * x.re + x.im * x.im).toNat | none => 0)).foldl (· + ·) 0)).foldl (· + ·) 0
  decide (e.ewin ≤ p + 1) && decide (e.p0 * e.ewin * e.nstr ≤ sum)

/-- The first trigger at or after position `from_`. -/
def BfE.trigger (e : BfE) (q : Seqs) (from_ : Nat) : Option Nat :=
  (List.range (common q)).find? (fun p => decide (from_ ≤ p) && e.fires q p)

/-- The metric of reference r at lag g, from the first sample `st`, rounded down to 16 bits (R262); open where it is 0/0. -/
def BfE.metricAt (e : BfE) (q : Seqs) (refs : List (Int × Int)) (st r g ctr : Nat) : Nat :=
  let at_ (s : List Smp) (i : Nat) : Int × Int := match s[i]? with | some x => (x.re, x.im) | none => (0, 0)
  let rf (n : Nat) : Int × Int := refs.getD (r * e.reflen + n) (0, 0)
  let ns := List.range e.reflen
  let num := (q.map (fun s =>
    let c := ns.foldl (fun (acc : Int × Int) n =>
      let x := at_ s (st + n + g)
      let y := rf n
      (acc.1 + x.1 * y.1 + x.2 * y.2, acc.2 + x.2 * y.1 - x.1 * y.2)) (0, 0)
    (c.1 * c.1 + c.2 * c.2).toNat)).foldl (· + ·) 0
  let pow (f : Nat → Int × Int) : Nat := (ns.map (fun n => let v := f n; (v.1 * v.1 + v.2 * v.2).toNat)).foldl (· + ·) 0
  let den := ((q.map (fun s => pow (fun n => at_ s (st + n + g)))).foldl (· + ·) 0) * pow rf
  if den = 0 then Config.free 60 (ctr + r * 1024 + g) % 65536 else min 65535 (num * 65536 / den)

/-- The qualifier's maximum: metric, reference and lag, the lowest on ties. -/
def BfE.qualify (e : BfE) (q : Seqs) (refs : List (Int × Int)) (st ctr : Nat) : Nat × Nat × Nat :=
  (List.range e.nref).foldl (fun acc r =>
    (List.range (e.lagmax + 1)).foldl (fun (acc : Nat × Nat × Nat) g =>
      let c := e.metricAt q refs st r g ctr
      if acc.1 < c ∨ (r = 0 ∧ g = 0) then (c, r, g) else acc) acc) (0, 0, 0)

/-- RES_PEAK of mode E. -/
def peakE (m : Nat × Nat × Nat) : Nat := m.2.1 + m.2.2 * 2 ^ 8 + m.1 * 2 ^ 32

/-- The bits of one phase of a stream with their sample index (R263). -/
def BfE.phaseBits (e : BfE) (s : List Smp) (ph : Nat) : List (Nat × Bool) :=
  (s.zipIdx.filter (fun x => x.2 % e.dec = ph)).flatMap (fun x =>
    match e.slice with
    | 0 => [(x.2, decide (x.1.re < (0 : Int)))]
    | 1 => [(x.2, decide (x.1.re < (0 : Int))), (x.2, decide (x.1.im < (0 : Int)))]
    | _ =>
      if x.2 < e.dlag then []
      else match s[x.2 - e.dlag]? with
        | some y => [(x.2, decide (x.1.re * y.re + x.1.im * y.im < (0 : Int)))]
        | none => [])

/-- A match: sample index, errors, phase, stream, and its bit number in the phase. -/
structure WMatch where
  n : Nat
  err : Nat
  phase : Nat
  stream : Nat
  i : Nat
  deriving DecidableEq, Repr

/-- A number that names a match within a window. -/
def WMatch.key (m : WMatch) : Nat := ((m.i * 16) + m.phase) * 64 + m.stream

/-- Every match of a group, in the order of their samples (R263). -/
def BfE.wmatches (e : BfE) (q : Seqs) : List WMatch :=
  let all := q.zipIdx.flatMap (fun s => (List.range e.dec).flatMap (fun ph =>
    let bs := e.phaseBits s.1 ph
    bs.zipIdx.filterMap (fun b =>
      if b.2 + 1 < e.wordLen then none
      else
        let errs := ((List.range e.wordLen).filter (fun k =>
          (bs.getD (b.2 + 1 - e.wordLen + k) (0, false)).2 != e.word.testBit k)).length
        if errs ≤ e.tol then some ⟨b.1.1, errs, ph, s.2, b.2⟩ else none)))
  all.foldl (fun acc m => insertBy WMatch.n m acc) []

/-- RES_PEAK of mode S. -/
def peakS (m : WMatch) : Nat := m.err + m.phase * 2 ^ 4 + m.stream * 2 ^ 8

def watchKey (b w : Nat) : Nat := 16 * b + w
def watchOf (d : Dev) (b w : Nat) : Watch := mget Watch.reset d.fen.watch (watchKey b w)
def setWatch (d : Dev) (b w : Nat) (x : Watch) : Dev :=
  { d with fen := { d.fen with watch := mput Watch.reset d.fen.watch (watchKey b w) x } }
def winOf (x : Watch) (k : Nat) : Win := mget Win.reset x.wins k
def setWin (x : Watch) (k : Nat) (y : Win) : Watch := { x with wins := mput Win.reset x.wins k y }

/-- An entry evaluates: enabled, with BF_EN in effect. -/
def bfRuns (d : Dev) (b w : Nat) : Bool := decide (b < 4) && decide (w < 16) && rbit d Reg.FEN_CTRL 1 && (bfOf d b w).en

/-- The tick at which window k of an entry starts (R261). -/
def BfE.winStart (e : BfE) (x : Watch) (k : Nat) : Nat := x.base + k * e.wper
/-- Window k exists: a period of 0 gives the one window 0. -/
def BfE.hasWin (e : BfE) (k : Nat) : Bool := decide (e.wper ≠ 0) || decide (k = 0)

/-- The window that holds an air time, at or after the one whose result comes next. -/
def BfE.winAt (e : BfE) (x : Watch) (t : Nat) : Option Nat :=
  let tick := t / 64
  if tick < x.base then none
  else
    let k := if e.wper = 0 then 0 else (tick - x.base) / e.wper
    if x.next ≤ k ∧ tick < e.winStart x k + e.wlen then some k else none

/-- A sample reaches entry w of finder b: index `i` within its symbol (R261). -/
def watchSample (d : Dev) (b w s i : Nat) (smp : Smp) : Dev :=
  let e := bfOf d b w
  if bfRuns d b w && decide (e.first ≤ s ∧ s < e.first + e.nstr) && decide (e.firstSamp ≤ i ∧ i < e.firstSamp + e.nsamp) then
    let x := watchOf d b w
    match e.winAt x smp.t with
    | none => d
    | some k =>
      let y := winOf x k
      let y := { y with seqs := mmod [] y.seqs (s - e.first) (fun l => insertBy Smp.t smp l) }
      setWatch d b w (setWin x k y)
  else d

/-- A sample of stream s at air time `t` with index `i` in its symbol: gained, measured, and seen by the watch entries
(R255 to R257). The answer is the gained sample. -/
def gainSample (d : Dev) (s t i symStart symEnd : Nat) (re im : Int) : Dev × Int × Int :=
  let x := glOf d s
  let fresh_ := decide (x.symEnd = 0) || decide (x.symStart ≠ symStart)
  let d := if fresh_ then gainUpdate d s else d
  let code := if fresh_ then glCode d s else x.code
  let m : Int := gainM code
  let a := convQ (re * m) 4096
  let b := convQ (im * m) 4096
  let c := b2n (decide (sat 16 a ≠ a)) + b2n (decide (sat 16 b ≠ b))
  let x := glOf d s
  let d := setGl d s { x with code := code, symStart := symStart, symEnd := symEnd, n := x.n + 1,
                              sum := x.sum + (a * a + b * b).toNat, clips := x.clips + c, last := max x.last t }
  let d := fset d (Reg.FEN_GL_STATE s) 6 0 code
  let d := cnt (cnt d Reg.FEN_CNT_SAMPLES 1) Reg.FEN_CNT_CLIP c
  let d := (List.range 64).foldl (fun d bw => watchSample d (bw / 16) (bw % 16) s i ⟨t, sat 16 a, sat 16 b⟩) d
  (showFrozen d s, sat 16 a, sat 16 b)

/-! ## Freezes (R259, R260) -/

/-- Freeze every stream of an entry's group from air time t. -/
def freezeFrom (d : Dev) (b w t : Nat) : Dev :=
  let e := bfOf d b w
  if e.frz then
    (List.range e.nstr).foldl (fun d i =>
      let s := e.first + i
      let x := glOf d s
      showFrozen (setGl d s { x with frz := x.frz ++ [⟨t, t + e.frzLen * 64, if e.modeS then none else some (watchKey b w)⟩] }) s) d
  else d

/-- The mode-E freezes of an entry end at once (R259). -/
def freezeReject (d : Dev) (b w : Nat) : Dev :=
  let e := bfOf d b w
  (List.range e.nstr).foldl (fun d i =>
    let s := e.first + i
    let x := glOf d s
    showFrozen (setGl d s { x with frz := x.frz.map (fun f =>
      if f.entry = some (watchKey b w) then { f with t1 := min f.t1 d.air.now, entry := none } else f) }) s) d

/-- FEN_GL_UNFREEZE: every freeze of a stream ends at once (R260). -/
def unfreeze (d : Dev) (s : Nat) : Dev :=
  if s < 1536 then
    let x := glOf d s
    showFrozen (setGl d s { x with frz := x.frz.map (fun f => { f with t1 := min f.t1 d.air.now }) }) s
  else d

/-! ## Detections and results (R262 to R266) -/

/-- The sequences of window k. -/
def seqsOf (e : BfE) (y : Win) : Seqs := (List.range e.nstr).map (fun i => mget [] y.seqs i)

/-- ENERGY_TRIGGER: the next trigger of the window whose result comes next (R262). -/
def energyTrigger (d : Dev) (b w : Nat) : Dev :=
  let e := bfOf d b w
  let x := watchOf d b w
  let y := winOf x x.next
  if bfRuns d b w && !e.modeS && y.qual.isNone then
    match e.trigger (seqsOf e y) y.pos with
    | none => d
    | some p =>
      let t := ((((seqsOf e y).headD [])[p]?).map Smp.t).getD 0
      freezeFrom (setWatch d b w (setWin x x.next { y with qual := some p })) b w t
  else d

/-- The air time at which window k ends, and whether every stream of the group has delivered a sample from then on. -/
def winEnd (e : BfE) (x : Watch) (k : Nat) : Nat := (e.winStart x k + e.wlen) * 64
def allPast (d : Dev) (e : BfE) (t : Nat) : Bool := (List.range e.nstr).all (fun i => decide (t ≤ (glOf d (e.first + i)).last))

/-- The reference values of an entry (R230). -/
def refMem (d : Dev) (b : Nat) (e : BfE) : Dev × List (Int × Int) :=
  let (d, _, bs) := memRead d (0x2040000000 + b * 0x100000 + e.refBase * 64) (e.nref * e.reflen * 4)
  (d, (chunks 4 bs).map ci16)

/-- A detection enters the window. -/
def detect (d : Dev) (y : Win) (t metric peak : Nat) (better : Bool) : Dev × Win :=
  let y := { y with ndet := y.ndet + 1, first := if y.ndet = 0 then t else y.first }
  (cnt d Reg.FEN_CNT_DET 1, if better then { y with metric := metric, peak := peak } else y)

/-- QUALIFIER_DONE: the trigger under qualification is accepted or rejected (R262). Samples past the window's end that no
stream will deliver into it count as 0. -/
def qualifierDone (d : Dev) (b w : Nat) : Dev :=
  let e := bfOf d b w
  let x := watchOf d b w
  let y := winOf x x.next
  match y.qual with
  | none => d
  | some p =>
    let st := p + 1 - e.ewin
    let q := seqsOf e y
    if common q < st + e.reflen + e.lagmax ∧ !allPast d e (winEnd e x x.next) then d
    else
      let (d, refs) := refMem d b e
      let m := e.qualify q refs st d.freeCtr
      let d := { d with freeCtr := d.freeCtr + 131072 }
      let y := { y with qual := none, pos := st + e.reflen + e.lagmax }
      if e.qthr ≤ m.1 then
        let t := (((q.headD [])[p]?).map Smp.t).getD 0
        let (d, y) := detect d y t m.1 (peakE m) (decide (y.ndet = 0 ∨ y.metric < m.1))
        setWatch d b w (setWin x x.next y)
      else freezeReject (cnt (setWatch d b w (setWin x x.next y)) Reg.FEN_CNT_REJ 1) b w

/-- The first match of a window that has not been reported. -/
def nextMatch (e : BfE) (y : Win) : Option WMatch := (e.wmatches (seqsOf e y)).find? (fun m => !y.seen.contains m.key)

/-- WORD_MATCH: the next match is a detection (R263). -/
def wordMatch (d : Dev) (b w : Nat) : Dev :=
  let e := bfOf d b w
  let x := watchOf d b w
  let y := winOf x x.next
  if bfRuns d b w && e.modeS then
    match nextMatch e y with
    | none => d
    | some m =>
      let t := (((((seqsOf e y).getD m.stream []))[m.n]?).map Smp.t).getD 0
      let (d, y) := detect d { y with seen := y.seen ++ [m.key] } t m.err (peakS m) (decide (y.ndet = 0 ∨ m.err < y.metric))
      freezeFrom (setWatch d b w (setWin x x.next y)) b w t
  else d

/-- Nothing of a window is still to be evaluated. -/
def evaluated (e : BfE) (y : Win) : Bool :=
  if e.modeS then (nextMatch e y).isNone else y.qual.isNone && (e.trigger (seqsOf e y) y.pos).isNone

/-- Write the result set of the window whose result comes next (R264, R265). With no detection TIME and PEAK are open. -/
def writeResult (d : Dev) (b w : Nat) (part : Bool) : Dev :=
  let e := bfOf d b w
  let x := watchOf d b w
  let y := winOf x x.next
  let a := Reg.FEN_BF_RES0 b w
  let ovr := rbit d a 0
  let d := if ovr then sbit (cnt d Reg.FEN_CNT_RESOVR 1) Reg.FEN_STATUS 1 else d
  let seq := (fget d a 31 16 + 1) % 65536
  let d := ww d a (1 + b2n (decide (0 < y.ndet)) * 2 + b2n ovr * 4 + b2n part * 8 + b2n y.skip * 16 + min 255 y.ndet * 2 ^ 8 + seq * 2 ^ 16)
  let (d, t, pk) : Dev × Nat × Nat :=
    if y.ndet = 0 then (used (used d), fresh d 61, fresh (used d) 62) else (d, y.first, y.peak)
  let d := wr64 (wr64 d (Reg.FEN_BF_RES_TIME b w) (t % 2 ^ 64)) (Reg.FEN_BF_RES_PEAK b w) (pk % 2 ^ 64)
  let d := setWatch d b w { (setWin x x.next Win.reset) with next := x.next + 1 }
  if e.ntEn then { d with owed := d.owed ++ [.event e.event 1] } else d

/-- WINDOW_RESULT: the window has been evaluated (R264). -/
def windowResult (d : Dev) (b w : Nat) : Dev :=
  let e := bfOf d b w
  let x := watchOf d b w
  if bfRuns d b w && e.hasWin x.next && decide (winEnd e x x.next ≤ d.air.now) && allPast d e (winEnd e x x.next)
    && evaluated e (winOf x x.next) then writeResult d b w false
  else d

/-- BF_GRACE_EXPIRY: the grace after a window's end has passed (R264). -/
def graceExpiry (d : Dev) (b w : Nat) : Dev :=
  let e := bfOf d b w
  let x := watchOf d b w
  if bfRuns d b w && e.hasWin x.next && decide (winEnd e x x.next + fget d Reg.FEN_BF_GRACE 23 0 * 64 ≤ d.air.now) then
    writeResult d b w true
  else d

/-- BF_SAMPLE_DROP: the finder drops the newest `n` samples of its highest-numbered entry with an open window (R266). -/
def sampleDrop (d : Dev) (b n : Nat) : Dev :=
  let open_ (w : Nat) : Bool := bfRuns d b w && (bfOf d b w).hasWin (watchOf d b w).next
    && decide ((bfOf d b w).winStart (watchOf d b w) (watchOf d b w).next * 64 ≤ d.air.now)
  match (List.range 16).reverse.find? open_ with
  | none => d
  | some w =>
    let e := bfOf d b w
    let x := watchOf d b w
    let y := winOf x x.next
    let drop1 (acc : Map (List Smp) × Nat) (_ : Nat) : Map (List Smp) × Nat :=
      let best := (List.range e.nstr).foldl (fun (o : Option (Nat × Nat)) i =>
        match (mget [] acc.1 i).getLast? with
        | none => o
        | some s => match o with
          | none => some (i, s.t)
          | some (_, t) => if t ≤ s.t then some (i, s.t) else o) none
      match best with
      | none => acc
      | some (i, _) => (mmod [] acc.1 i List.dropLast, acc.2 + 1)
    let (seqs, k) := (List.range n).foldl drop1 (y.seqs, 0)
    sbit (cnt (setWatch d b w (setWin x x.next { y with seqs := seqs, skip := true })) Reg.FEN_CNT_SKIP k) Reg.FEN_STATUS 0

/-- FEN_BF_ACK (R265). -/
def bfAck (d : Dev) (b w v : Nat) : Dev :=
  if v % 65536 = fget d (Reg.FEN_BF_RES0 b w) 31 16 then cbit d (Reg.FEN_BF_RES0 b w) 0 else cnt d Reg.FEN_CNT_ACKBAD 1

/-! ## Scan jobs (R267) -/

/-- Scan in mode E: detections, the first one's sample index, the best metric and peak. -/
def scanE (e : BfE) (q : Seqs) (refs : List (Int × Int)) (ctr : Nat) : Nat → Nat → Nat × Option Nat × Nat × Nat → Nat × Option Nat × Nat × Nat
  | 0, _, acc => acc
  | fuel + 1, pos, acc =>
    match e.trigger q pos with
    | none => acc
    | some p =>
      let st := p + 1 - e.ewin
      let m := e.qualify q refs st ctr
      let acc := if e.qthr ≤ m.1 then
          (acc.1 + 1, some (acc.2.1.getD p), if acc.1 = 0 ∨ acc.2.2.1 < m.1 then (m.1, peakE m) else acc.2.2)
        else acc
      scanE e q refs ctr fuel (st + e.reflen + e.lagmax) acc

/-- The watch entry whose parameters a scan takes, with the job's number of streams (R267). -/
def scanEntry (d : Dev) (b : Nat) (x : List Byte) : BfE := { bfOf d b (dbits x 0x1C 9 6) with nstr := dbits x 0x1C 5 0 + 1 }

/-- The streams of a scan: base, distance, and samples of each. -/
def scanIns (x : List Byte) : List Ext :=
  (List.range (dbits x 0x1C 5 0 + 1)).map (fun s => (dbits x 0x10 47 0 + s * dbits x 0x20 31 0, 4 * dbits x 0x18 23 0))

/-- The first failing check of a scan (R234, R267). -/
def scanCause (e : BfE) (x : List Byte) : Nat :=
  let istr := dbits x 0x20 31 0
  let ok := dbits x 0x10 63 48 = 0 && dbits x 0x18 31 24 = 0 && dbits x 0x1C 31 10 = 0 && dbits x 0x24 31 0 = 0
    && dbits x 0x28 63 0 = 0 && dbits x 0x30 63 0 = 0 && dbits x 0x38 63 0 = 0 && istr % 64 = 0 && e.paramsOk
  if !headerOk x || !ok then 2 else extCause [(dbits x 0x10 47 0, (e.nstr - 1) * istr + 4 * dbits x 0x18 23 0)] []

/-- The samples that a scan has read, by stream. -/
def scanSeqs (e : BfE) (x : List Byte) (bs : List Byte) : Seqs :=
  let n := 4 * dbits x 0x18 23 0
  (List.range e.nstr).map (fun s => (chunks 4 ((bs.drop (s * n)).take n)).map (fun c => let (r, i) := ci16 c; ⟨0, r, i⟩))

/-- The match with the fewest errors, the first on ties. -/
def bestMatch (ms : List WMatch) : Option WMatch :=
  ms.foldl (fun (o : Option WMatch) m => match o with
    | none => some m | some k => if m.err < k.err then some m else some k) none

/-- SCAN: the job of finder b. -/
def scan (d : Dev) (b : Nat) : Dev :=
  match jobWith d 7 b 0x20 with
  | none => d
  | some x =>
    let e := scanEntry d b x
    if scanCause e x ≠ 0 then endJob (used d) 7 b ⟨0x40, scanCause e x, cyclesOf d 0, 0, 0, 0⟩
    else
      match readAll d (scanIns x) with
      | (d, .wait) => d
      | (d, .err ea) => endJob (used d) 7 b ⟨0x41, 0, cyclesOf d 0, ea, 0, 0⟩
      | (d, .bytes bs) =>
        let q := scanSeqs e x bs
        let (d, n, first, peak) : Dev × Nat × Option Nat × Nat :=
          if e.modeS then
            let ms := e.wmatches q
            (d, ms.length, (ms.head?).map WMatch.n, ((bestMatch ms).map peakS).getD 0)
          else
            let (d, refs) := refMem d b e
            let r := scanE e q refs d.freeCtr (dbits x 0x18 23 0 + 1) 0 (0, none, 0, 0)
            ({ d with freeCtr := d.freeCtr + 131072 }, r.1, r.2.1, r.2.2.2)
        let d := cnt d Reg.FEN_CNT_DET n
        let (d, peak) : Dev × Nat := if n = 0 then (used d, fresh d 62 % 2 ^ 48) else (d, peak)
        endJob (used d) 7 b ⟨0, min 255 n, cyclesOf d 0, peak, first.getD 0xFFFFFFFF, 0⟩

/-! ## Commit (R258, R261, R271) -/

/-- The front end's checks over the values that a commit would leave (R271). -/
def fenCheck (d : Dev) : Bool :=
  (List.range 64).all (fun k => let e := bfOf d (k / 16) (k % 16); !e.en || e.ok) &&
  (List.range 1536).all (fun s => !rbit d (Reg.FEN_GL_CFG s) 0 || decide (fget d (Reg.FEN_GL_CFG s) 8 2 ≤ 120))

/-- An entry's windows begin anew from boundary `b`: WIN_START becomes a full tick, and windows that have ended are
passed over. -/
def bfResolve (d : Dev) (f w b : Nat) : Dev :=
  let e := bfOf d f w
  let now := b / 64
  let base := fullTick now e.wstart
  let next :=
    if e.wper = 0 then (if base + e.wlen ≤ now then 1 else 0)
    else if now < base + e.wlen then 0 else (now - base - e.wlen) / e.wper + 1
  setWatch d f w ⟨base, next, []⟩

/-- What the front end does once a commit at boundary `b` has applied the words at `keys`; `old` is the device before. -/
def fenApplied (old d : Dev) (keys : List Nat) (b : Nat) : Dev :=
  let d := (List.range 64).foldl (fun d k =>
    if keys.contains Reg.FEN_CTRL || keys.any (fun a => decide (Reg.FEN_BF_CTL (k / 16) (k % 16) ≤ a ∧ a < Reg.FEN_BF_CTL (k / 16) (k % 16) + 0x2C))
    then bfResolve d (k / 16) (k % 16) b else d) d
  keys.foldl (fun d a =>
    if Reg.FEN_GL_CFG 0 ≤ a ∧ a < Reg.FEN_GL_CFG 1536 then
      let s := (a - Reg.FEN_GL_CFG 0) / 4
      if glAuto d s && !glAuto old s then setGl d s { glOf d s with next := fget d (Reg.FEN_GL_CFG s) 8 2 } else d
    else d) d

/-! ## Meanings -/

def execGainUpdate (st : Nat) (s : State) : Out :=
  run s (fun d => if st < 1536 ∧ (glOf d st).symEnd ≤ d.air.now then gainUpdate d st else d)
def execFreezeEnd (st : Nat) (s : State) : Out := run s (fun d => if st < 1536 then showFrozen d st else d)
def execFenGlUnfreeze (v : Word) (s : State) : Out := run s (fun d => unfreeze d (bits v.toNat 10 0))
def execEnergyTrigger (b w : Nat) (s : State) : Out := run s (fun d => energyTrigger d b w)
def execQualifierDone (b w : Nat) (s : State) : Out := run s (fun d => if bfRuns d b w then qualifierDone d b w else d)
def execWordMatch (b w : Nat) (s : State) : Out := run s (fun d => wordMatch d b w)
def execWindowResult (b w : Nat) (s : State) : Out := run s (fun d => windowResult d b w)
def execBfGraceExpiry (b w : Nat) (s : State) : Out := run s (fun d => graceExpiry d b w)
def execBfSampleDrop (b n : Nat) (s : State) : Out := run s (fun d => if b < 4 then sampleDrop d b n else d)
def execFenBfAck (b w : Nat) (v : Word) (s : State) : Out := run s (fun d => if b < 4 ∧ w < 16 then bfAck d b w v.toNat else d)
def execScan (b : Nat) (s : State) : Out := run s (fun d => scan d b)

end Sys2Proof.Machine
end

