-- ==== Sys2Proof/Machine/Shaping.lean ====
section
/-! DEFINITION. Transmit shaping (file 11): patterns and their checks (R299 to R301), PA_EN outputs (R302, R303), ramps on
time-domain streams (R304, R305), drop latches (R306), and TXS's part in a commit. -/

namespace Sys2Proof.Machine

/-! ## Patterns (R299 to R301) -/

/-- A pattern: PERIOD, ANCHOR, its ON intervals, RAMP, PLACE, ALWON, and the check of R301. Offsets in ticks. -/
structure Pat where
  period : Nat
  anchor : Nat
  ivs : List (Nat × Nat)
  ramp : Nat
  place : Nat
  alwon : Bool
  ok : Bool
  deriving DecidableEq, Repr

/-- A word of a pattern bank. -/
def patWord (d : Dev) (bank p o : Nat) : Nat := rw d (Reg.TXS_BANK bank (256 * p + o / 4))

/-- Consecutive intervals with the gap after each, the last one to the first of the next period. -/
def patGaps (period : Nat) (ivs : List (Nat × Nat)) : List Int :=
  (List.range ivs.length).map (fun i =>
    let off := (ivs.getD i (0, 0)).2
    if i + 1 < ivs.length then ((ivs.getD (i + 1) (0, 0)).1 : Int) - off
    else ((ivs.headD (0, 0)).1 : Int) + period - off)

/-- Pattern p of a bank. -/
def patOf (d : Dev) (bank p : Nat) : Pat :=
  let w := patWord d bank p
  let c := w 8
  let n := bits c 6 0
  let ivs := (List.range (min n 64)).map (fun i => (w (0x40 + 8 * i), w (0x44 + 8 * i)))
  let period := w 0
  let ramp := bits c 14 8
  let place := bits c 17 16
  let gaps := patGaps period ivs
  let gapMin (m : Nat) : Bool := gaps.all (fun g => decide ((m : Int) ≤ g))
  let lens (m : Nat) : Bool := ivs.all (fun e => decide (e.1 + m ≤ e.2))
  let zeros := bits c 7 7 = 0 && bits c 15 15 = 0 && bits c 31 19 = 0
    && (List.range 13).all (fun i => w (0xC + 4 * i) = 0)
  let free := bit c 18 || n = 0
  { period := period, anchor := w 4, ivs := ivs, ramp := ramp, place := place, alwon := bit c 18,
    ok := zeros && (free || (decide (1 ≤ period ∧ period < 2 ^ 31) && decide (n ≤ 64)
      && ivs.all (fun e => decide (e.1 < e.2 ∧ e.2 ≤ period)) && gapMin 0 && decide (ramp ≤ 122) && decide (place < 3)
      && (match place with
        | 0 => gapMin (max 1 ramp)
        | 1 => ramp % 2 = 0 && gapMin (max 1 ramp) && lens ramp
        | _ => gapMin 1 && lens (2 * ramp)))) }

/-- The bank in effect. -/
def txsBank (d : Dev) : Nat := b2n (rbit d Reg.TXS_CTRL 1)
def patNow (d : Dev) (p : Nat) : Pat := patOf d (txsBank d) p
/-- A_t of a pattern, in Tc. -/
def patAnchor (d : Dev) (p : Nat) : Int := (mget 0 d.txs.anchor p * 64 : Nat)

/-- The ON intervals of a pattern near air time t, as (ON, OFF) in Tc; `reach` Tc on each side are covered. -/
def Pat.near (x : Pat) (anchor t reach : Int) : List (Int × Int) :=
  if x.period = 0 then []
  else
    let per : Int := (x.period * 64 : Nat)
    let k0 := (t - reach - anchor) / per - 1
    let n := ((2 * reach) / per).toNat + 3
    (List.range n).flatMap (fun i : Nat => x.ivs.map (fun e =>
      (anchor + (k0 + (i : Int)) * per + (e.1 * 64 : Nat), anchor + (k0 + (i : Int)) * per + (e.2 * 64 : Nat))))

/-- The pattern is ON at air time t. -/
def Pat.isOn (x : Pat) (anchor t : Int) : Bool :=
  x.alwon || (x.near anchor t 0).any (fun e => decide (e.1 ≤ t ∧ t < e.2))

/-- L in Tc. -/
def Pat.len (x : Pat) : Int := (x.ramp * 64 : Nat)
/-- The start of the up ramp and of the down ramp of an interval (R300). -/
def Pat.up (x : Pat) (a : Int) : Int := match x.place with | 0 => a - x.len | 1 => a - x.len / 2 | _ => a
def Pat.down (x : Pat) (b : Int) : Int := match x.place with | 0 => b | 1 => b - x.len / 2 | _ => b - x.len

/-- Where an air time lies under a pattern. -/
inductive Seg where
  | zero | full | up (u : Int) | down (v : Int)
  deriving DecidableEq, Repr

/-- The segment of R300 that holds air time t. -/
def Pat.seg (x : Pat) (anchor t : Int) : Seg :=
  if x.alwon then .full
  else
    let l := x.len
    (x.near anchor t (l + 64)).foldl (fun s e =>
      let u := x.up e.1
      let v := x.down e.2
      if u ≤ t ∧ t < u + l then .up u
      else if u + l ≤ t ∧ t < v then .full
      else if v ≤ t ∧ t < v + l then .down v
      else s) .zero

/-! ## PA_EN (R302) -/

/-- The active spans of an output near t: from U − LEAD × 8 to D + LAG × 8. -/
def paSpans (d : Dev) (n : Nat) (t : Int) : List (Int × Int) :=
  let p := fget d (Reg.TXS_PAEN_CFG n) 3 0
  let x := patNow d p
  let lead : Int := (fget d (Reg.TXS_PAEN_TIM n) 11 0 * 8 : Nat)
  let lag : Int := (fget d (Reg.TXS_PAEN_TIM n) 27 16 * 8 : Nat)
  (x.near (patAnchor d p) t (2 * (x.len + lead + lag + 64))).map (fun e => (x.up e.1 - lead, x.down e.2 + x.len + lag))

/-- The pattern makes output n active at t. -/
def paPattern (d : Dev) (n : Nat) (t : Int) : Bool :=
  (patNow d (fget d (Reg.TXS_PAEN_CFG n) 3 0)).alwon || (paSpans d n t).any (fun e => decide (e.1 ≤ t ∧ t < e.2))

/-- The start of the active span, joined with those it touches, that holds t; `none` when it has no beginning. -/
def paStart (d : Dev) (n : Nat) (t : Int) : Option Int :=
  if (patNow d (fget d (Reg.TXS_PAEN_CFG n) 3 0)).alwon then none
  else
    let spans := paSpans d n t
    let lo := spans.foldl (fun m e => min m e.1) t
    let st := spans.foldl (fun s _ => spans.foldl (fun s e => if e.1 < s ∧ s ≤ e.2 then e.1 else s) s) t
    let st := if spans.any (fun e => decide (e.1 ≤ t ∧ t < e.2)) then st else t
    if st = lo ∧ 1 < spans.length then none else some st

/-- The drop latch of output n. -/
def paLatch (d : Dev) (n : Nat) : Bool := rbit d Reg.TXS_PAEN_DROP n

/-- After a release, output n waits for the first active span that begins later (R306). -/
def paWaits (d : Dev) (n : Nat) (t : Int) : Bool :=
  let w := mget 0 d.txs.wait n
  if w = 0 then false
  else !(paPattern d n t && (match paStart d n t with | some s => decide ((w : Int) ≤ s) | none => false))

/-- A down ramp that a commit began keeps the output active until it ends plus LAG (R303). -/
def paHold (d : Dev) (n : Nat) (t : Int) : Bool :=
  let r := mget Trans.reset d.txs.outTr n
  decide (r.mode = 1) && decide (t < (r.till : Int))

/-- Whether output n is active at air time t, first match deciding (R298, R302 to R304, R306, R451). -/
def paActive (d : Dev) (n : Nat) (t : Int) : Bool :=
  let c := rw d (Reg.TXS_PAEN_CFG n)
  if !rbit d Reg.SRL_BOOT 15 || !domServes d 38 || !rbit d Reg.TXS_CTRL 0 || d.pkg.tripped then false
  else if paLatch d n || paWaits d n t then false
  else match bits c 7 6 with
    | 1 => false
    | 2 => true
    | _ => bit c 4 && (paPattern d n t || paHold d n t)

/-- The level at the ball: before the restore every output is low, then POL gives the active level (R298, R302). -/
def paPin (d : Dev) (n : Nat) (active : Bool) : Bool :=
  if !stepDone d 7 then false else xor active (rbit d (Reg.TXS_PAEN_CFG n) 5)

/-- Yarrow sees an edge at the ball of output n: sequences of the bank in effect and an injected request whose trigger it
is (R308, R310). -/
def yrwEdge (d : Dev) (n : Nat) (rising : Bool) : Dev :=
  let bank := b2n (rbit d Reg.YRW_CTRL 1)
  let kind := if rising then 2 else 3
  let d := (List.range 8).foldl (fun d q =>
    let w := rw d (Reg.YRW_BANK bank (32 * q))
    if bits w 2 1 = kind && bits w 7 3 = n then
      let x := mget YSeq.reset d.yrw.seqs q
      { d with yrw := { d.yrw with seqs := mput YSeq.reset d.yrw.seqs q { x with edges := x.edges ++ [d.air.now] } } }
    else d) d
  match d.yrw.inj with
  | some i =>
    if i.trig = kind ∧ i.paen = n ∧ i.trigAt.isNone then
      { d with yrw := { d.yrw with inj := some { i with trigAt := some d.air.now } } }
    else d
  | none => d

/-- Output n takes its level at the present air time. -/
def paUpdate (d : Dev) (n : Nat) : Dev :=
  let t : Int := d.air.now
  let a := paActive d n t
  let d := if a && mget 0 d.txs.wait n ≠ 0 then { d with txs := { d.txs with wait := mput 0 d.txs.wait n 0 } } else d
  let d := fset d Reg.TXS_PAEN_LEVEL n n (b2n a)
  let old := mget false d.txs.pin n
  let new := paPin d n a
  let d := { d with txs := { d.txs with pin := mput false d.txs.pin n new } }
  if old = new then d else yrwEdge d n new

/-- Every output takes its level. -/
def paUpdateAll (d : Dev) : Dev := (List.range 32).foldl paUpdate d

/-! ## Drop latches (R306) -/

/-- A comparator of channel c drops output n. -/
def paDrop (d : Dev) (n c : Nat) : Dev :=
  let d := { d with txs := { d.txs with setBy := mmod 0 d.txs.setBy n (· ||| 2 ^ c) } }
  let d := if paLatch d n then d else sbit (cnt (sbit d Reg.TXS_PAEN_DROP n) Reg.TXS_CNT_DROP 1) Reg.TXS_STATUS 0
  paUpdate d n

/-- The latch of output n is released. -/
def paRelease (d : Dev) (n : Nat) : Dev :=
  if paLatch d n then
    let d := cbit d Reg.TXS_PAEN_DROP n
    let d := { d with txs := { d.txs with setBy := mput 0 d.txs.setBy n 0, wait := mput 0 d.txs.wait n (d.air.now + 1) } }
    paUpdate d n
  else d

/-- TXS_PAEN_CLR. -/
def paClr (d : Dev) (v : Nat) : Dev := (List.range 32).foldl (fun d n => if v.testBit n then paRelease d n else d) d

/-- A result of channel c inside its window: outputs with REARM = 1 are released once every comparator that set them has
delivered one (R306). -/
def paInside (d : Dev) (c : Nat) : Dev :=
  (List.range 32).foldl (fun d n =>
    let m := mget 0 d.txs.setBy n
    if m.testBit c then
      let m := m - 2 ^ c
      let d := { d with txs := { d.txs with setBy := mput 0 d.txs.setBy n m } }
      if m = 0 ∧ paLatch d n ∧ rbit d (Reg.TXS_PAEN_CFG n) 8 then paRelease d n else d
    else d) d

/-! ## Streams (R304, R305) -/

/-- G of a ramp: min(32,767, round(32,768 × g)), g = (1 ∓ cos(πτ/L)) / 2. -/
def rampGain (tau len : Int) (up : Bool) : Int :=
  let c := (expJ tau (2 * len.toNat)).1
  let u : Int := (2 ^ 40 : Nat)
  let x := 16384 * (if up then u - c else u + c)
  min 32767 ((x + u / 2) / u)

/-- The segment of stream s at air time t, with the transition of its last commit (R303). -/
def strSeg (d : Dev) (s : Nat) (t : Int) : Seg :=
  let p := fget d (Reg.TXS_STR_CFG s) 4 1
  let r := mget Trans.reset d.txs.strTr s
  if (r.b : Int) ≤ t ∧ t < (r.till : Int) then
    match r.mode with
    | 1 => .down r.b
    | 2 => .up r.b
    | 3 => .full
    | 4 => .zero
    | _ => (patNow d p).seg (patAnchor d p) t
  else (patNow d p).seg (patAnchor d p) t

/-- A sample of stream s at air time t passes TXS. -/
def txsSample (d : Dev) (s : Nat) (t : Int) (v : Int × Int) : Dev × Int × Int :=
  let c := rw d (Reg.TXS_STR_CFG s)
  let d := cnt d Reg.TXS_CNT_SAMPLES 1
  if !bit c 0 then (d, v)
  else if !rbit d Reg.TXS_CTRL 0 then (d, 0, 0)
  else if bit c 12 && (paLatch d (bits c 11 7) || paWaits d (bits c 11 7) d.air.now) then (cnt d Reg.TXS_CNT_MUTED 1, 0, 0)
  else
    let len := (patNow d (bits c 4 1)).len
    let by_ (g : Int) : Int × Int := (convQ (v.1 * g) 32768, convQ (v.2 * g) 32768)
    match strSeg d s t with
    | .full => (d, v)
    | .zero => (d, 0, 0)
    | .up u => (d, by_ (rampGain (t - u) len true))
    | .down w => (d, by_ (rampGain (t - w) len false))

/-! ## Commit (R301, R303) -/

/-- TXS's checks over the values a commit would leave: the bank that it puts into effect (R301). -/
def txsCheck (d : Dev) (keys : List Nat) : Bool :=
  !keys.contains Reg.TXS_CTRL || (List.range 16).all (fun p => (patNow d p).ok)

/-- How a user of pattern x passes boundary b: from ON or OFF before, under the new pattern (R303). -/
def transAt (x : Pat) (anchor : Int) (oldOn : Bool) (b : Nat) : Trans :=
  let t : Int := b
  let l := x.ramp * 64
  let on := x.isOn anchor t
  match oldOn, on with
  | true, false => ⟨b, 1, b + l⟩
  | false, true => ⟨b, 2, b + l⟩
  | true, true =>
    match x.seg anchor t with
    | .up u => ⟨b, 3, (u + l).toNat⟩
    | .down v => if v < t then ⟨b, 1, b + l⟩ else Trans.reset
    | _ => Trans.reset
  | false, false =>
    match x.seg anchor t with
    | .up u => if u < t then ⟨b, 2, b + l⟩ else Trans.reset
    | .down v => ⟨b, 4, (v + l).toNat⟩
    | _ => Trans.reset

/-- Resolve every ANCHOR of the bank in effect into its full tick (R299). -/
def txsResolve (d : Dev) (b : Nat) : Dev :=
  { d with txs := { d.txs with anchor := (List.range 16).foldl (fun m p => mput 0 m p (fullTick (b / 64) (patNow d p).anchor)) [] } }

/-- What TXS does once a commit at `b` has applied the words at `keys`; `old` is the device before. -/
def txsApplied (old d : Dev) (keys : List Nat) (b : Nat) : Dev :=
  let mine := keys.filter (fun a => decide (0x3000A00000 ≤ a ∧ a < 0x3000B00000))
  if mine.isEmpty then d
  else
    let d := if keys.contains Reg.TXS_CTRL then txsResolve d b else d
    let t : Int := b
    let outOn (d : Dev) (n : Nat) : Bool :=
      let c := rw d (Reg.TXS_PAEN_CFG n)
      rbit d Reg.TXS_CTRL 0 && bit c 4 && (patNow d (bits c 3 0)).isOn (patAnchor d (bits c 3 0)) t
    let strOn (d : Dev) (s : Nat) : Bool :=
      let c := rw d (Reg.TXS_STR_CFG s)
      !bit c 0 || (rbit d Reg.TXS_CTRL 0 && (patNow d (bits c 4 1)).isOn (patAnchor d (bits c 4 1)) t)
    let d := (List.range 32).foldl (fun d n =>
      if keys.contains Reg.TXS_CTRL || keys.contains (Reg.TXS_PAEN_CFG n) then
        let c := rw d (Reg.TXS_PAEN_CFG n)
        let r := transAt (patNow d (bits c 3 0)) (patAnchor d (bits c 3 0)) (outOn old n) b
        let r := if r.mode = 1 then { r with till := r.till + fget d (Reg.TXS_PAEN_TIM n) 27 16 * 8 } else r
        let d := { d with txs := { d.txs with outTr := mput Trans.reset d.txs.outTr n r } }
        if r.mode = 2 ∧ mget 0 d.txs.wait n ≠ 0 then { d with txs := { d.txs with wait := mput 0 d.txs.wait n 0 } } else d
      else d) d
    let d := (List.range 384).foldl (fun d s =>
      if keys.contains Reg.TXS_CTRL || keys.contains (Reg.TXS_STR_CFG s) then
        let c := rw d (Reg.TXS_STR_CFG s)
        let r := transAt (patNow d (bits c 4 1)) (patAnchor d (bits c 4 1)) (strOn old s) b
        { d with txs := { d.txs with strTr := mput Trans.reset d.txs.strTr s r } }
      else d) d
    paUpdateAll d

/-! ## Meanings -/

def execPaEnEdge (n : Nat) (s : State) : Out := run s (fun d => if n < 32 then paUpdate d n else d)
def execTxsPaenClr (v : Word) (s : State) : Out := run s (fun d => paClr d v.toNat)

end Sys2Proof.Machine
end

