-- ==== Sys2Proof/Machine/Yarrow.lean ====
section
/-! DEFINITION. Yarrow, the supervisory converters (file 11): sequences (R308, R309), the injected request (R310), order of
service (R311), window comparators (R312), calibration (R313) and results (R314). Times are in 10^-5 Tc: 4 ns are
786,432 and a conversion of 200 ns is 39,321,600. The codes that the converters give are operands of the rows. -/

namespace Sys2Proof.Machine

/-- An air time of the device in 10^-5 Tc. -/
def fine (t : Nat) : Nat := t * 100000
/-- 200 ns. -/
def CONV : Nat := 39321600

def setYrw (d : Dev) (x : Yrw) : Dev := { d with yrw := x }
def yseq (d : Dev) (q : Nat) : YSeq := mget YSeq.reset d.yrw.seqs q
def setYseq (d : Dev) (q : Nat) (x : YSeq) : Dev := { d with yrw := { d.yrw with seqs := mput YSeq.reset d.yrw.seqs q x } }

/-- The sequence bank in effect. -/
def yrwBank (d : Dev) : Nat := b2n (rbit d Reg.YRW_CTRL 1)
/-- The ten words of sequence q of a bank. -/
def yrwWords (d : Dev) (bank q : Nat) : List Nat := (List.range 10).map (fun i => rw d (Reg.YRW_BANK bank (32 * q + i)))

/-- Steps of a definition. -/
def ySteps (w : List Nat) : Nat := bits (at0 0 w 0) 11 9 + 1
/-- The map entry of converter k in step j, as the channel it names. -/
def yMap (w : List Nat) (j k : Nat) : Option Nat :=
  let e := bits (at0 0 w (4 + j / 2)) (16 * (j % 2) + 4 * k + 3) (16 * (j % 2) + 4 * k)
  if bit e 3 then some (8 * k + bits e 2 0) else none
/-- The (slot, channel) pairs of a run, in sampling order. -/
def ySlots (w : List Nat) : List (Nat × Nat) :=
  (List.range (ySteps w)).flatMap (fun j => (List.range 4).filterMap (fun k => (yMap w j k).map (fun c => (4 * j + k, c))))

/-! ## Triggers and sampling instants (R308, R309) -/

/-- An overrun: counted, and reported in the sequence's next result. -/
def yOverrun (d : Dev) (q : Nat) : Dev := setYseq (cnt d Reg.YRW_CNT_OVR 1) q { yseq d q with ovr := true }

/-- A trigger of sequence q at air time t arrives. -/
def yTrigger (d : Dev) (q t : Nat) : Dev :=
  if !rbit d Reg.YRW_CTRL 0 then d
  else if (yseq d q).armed.isSome then yOverrun d q
  else
    let delay := bits (rw d (Reg.YRW_BANK (yrwBank d) (32 * q + 1))) 15 0
    setYseq d q { yseq d q with armed := some (t, fine t + delay * 786432) }

/-- YRW_SW_TRIG: bits 7 to 0 trigger their sequences now, whatever their TRIG. -/
def yrwSwTrig (d : Dev) (v : Nat) : Dev := (List.range 8).foldl (fun d q => if v.testBit q then yTrigger d q d.air.now else d) d

/-- SEQ_TRIGGER: the oldest PA_EN edge that the sequence has seen, or the next air time START + k × PERIOD. -/
def seqTrigger (d : Dev) (q : Nat) : Dev :=
  let x := yseq d q
  match x.edges with
  | t :: ts => yTrigger (setYseq d q { x with edges := ts }) q t
  | [] =>
    let w := yrwWords d (yrwBank d) q
    let per := at0 0 w 3
    let t := (x.base + x.k * per) * 64
    if bits (at0 0 w 0) 2 1 = 1 ∧ (per ≠ 0 ∨ x.k = 0) ∧ t ≤ d.air.now then yTrigger (setYseq d q { x with k := x.k + 1 }) q t
    else d

/-- Begin work; Yarrow is busy. -/
def yBegin (d : Dev) (w : YWork) : Dev := sbit { d with yrw := { d.yrw with work := some w } } Reg.YRW_STATUS 3

/-- Start a run of sequence q at `at_`, if the bank in effect enables it. -/
def yRun (d : Dev) (q at_ : Nat) (late : Bool) : Option Dev :=
  let w := yrwWords d (yrwBank d) q
  if bit (at0 0 w 0) 0 then some (yBegin d (.seq q at_ (at_ + ySteps w * CONV) late false w)) else none

/-- When the work ends. -/
def YWork.ends : YWork → Nat
  | .seq _ _ e _ _ _ => e
  | .inj _ e => e
  | .cal _ _ _ e => e

/-- SAMPLING_INSTANT: an ARMED sequence meets its first sampling instant. Work that has ended by then must first have
given its result. -/
def samplingInstant (d : Dev) (q : Nat) : Dev :=
  let x := yseq d q
  match x.armed with
  | none => d
  | some (t, i) =>
    if fine d.air.now < i then d
    else
      let off := setYseq d q { x with armed := none }
      match d.yrw.work with
      | none => (yRun off q i false).getD off
      | some w =>
        if w.ends ≤ i then d
        else if bit (rw d (Reg.YRW_BANK (yrwBank d) (32 * q))) 8 && x.pend.isNone then
          setYseq d q { x with armed := none, pend := some t }
        else yOverrun off q

/-! ## The injected request (R310) -/

/-- The sampling instant of the injected request, once its trigger is known. -/
def YInj.instant (x : YInj) : Option Nat := x.trigAt.map (fun t => fine t + x.delay * 786432)

/-- The (slot, channel) pairs of an injected request. -/
def YInj.slots (x : YInj) : List (Nat × Nat) :=
  (List.range 4).filterMap (fun k => if bit x.ch (4 * k + 3) then some (k, 8 * k + bits x.ch (4 * k + 2) (4 * k)) else none)

/-- A write of GO. -/
def injGo (d : Dev) : Dev :=
  if d.yrw.inj.isSome then cnt (sbit d Reg.YRW_STATUS 0) Reg.YRW_CNT_INJREF 1
  else
    let c := rw d Reg.YRW_INJ_CFG
    let trig := bits c 17 16
    let x : YInj := {
      ch := bits c 15 0, trig := trig, paen := bits c 22 18, delay := fget d (Reg.YRW_INJ_CFG + 4) 15 0,
      trigAt := match trig with
        | 0 => some d.air.now
        | 1 => some (fullTick (tickNow d) (rw d Reg.YRW_INJ_AT) * 64)
        | _ => none,
      start := none }
    if x.slots.isEmpty then d else { d with yrw := { d.yrw with inj := some x } }

/-- A write of CANCEL: a conversion that has not begun ends without a result; a step boundary kept for it is given back. -/
def injCancel (d : Dev) : Dev :=
  match d.yrw.inj with
  | some x => if x.start.all (fun t => decide (fine d.air.now < t)) then
      let work := match d.yrw.work with
        | some (.seq q first ends late shift w) =>
          if x.start.isSome then some (.seq q first (ends - CONV) late shift w) else d.yrw.work
        | w => w
      { d with yrw := { d.yrw with inj := none, work := work } }
    else d
  | none => d

/-- Start the injected conversion at `at_` as Yarrow's work. -/
def injRun (d : Dev) (x : YInj) (at_ : Nat) : Dev :=
  yBegin { d with yrw := { d.yrw with inj := some { x with start := some at_ } } } (.inj at_ (at_ + CONV))

/-- INJ_SAMPLING: the sampling instant comes. In a running sequence the conversion takes the next step boundary; a boundary
at or after the last step, and a calibration, leave it waiting until Yarrow is free (R311). -/
def injSampling (d : Dev) : Dev :=
  match d.yrw.inj with
  | none => d
  | some x =>
    match x.instant with
    | none => d
    | some i =>
      if x.start.isSome ∨ fine d.air.now < i then d
      else match d.yrw.work with
        | none => injRun d x i
        | some (.seq q first ends late shift w) =>
          let i := max i first
          let b := first + max 1 ((i - first + CONV - 1) / CONV) * CONV
          if b < ends then
            { d with yrw := { d.yrw with inj := some { x with start := some b }, work := some (.seq q first (ends + CONV) late shift w) } }
          else d
        | _ => d

/-! ## Order of service (R311) -/

/-- Start the first of the given pending runs whose sequence is enabled; a run without EN is discarded. -/
def ySeqs (d : Dev) (e : Nat) : List (Nat × Nat × Bool) → Dev
  | [] => d
  | (_, q, late) :: rest =>
    let x := yseq d q
    let d := setYseq d q (if late then { x with pend := none } else { x with armed := none })
    match yRun d q e late with
    | some d => d
    | none => ySeqs d e rest

/-- Start the waiting calibration phase at `e`. -/
def calStart (d : Dev) (e : Nat) : Dev :=
  match d.yrw.cal with
  | none => d
  | some (ch, ph, tgt) =>
    yBegin (fset { d with yrw := { d.yrw with cal := none } } Reg.YRW_CAL_STATUS 1 0 2) (.cal ch ph tgt (e + 64 * CONV))

/-- Yarrow becomes free at `e` and starts what R311 puts first. -/
def yServe (d : Dev) (e : Nat) : Dev :=
  let d := cbit { d with yrw := { d.yrw with work := none } } Reg.YRW_STATUS 3
  let pend := (List.range 8).filterMap (fun q => (yseq d q).pend.map (fun t => (t, q, true)))
  let now := (List.range 8).filterMap (fun q => match (yseq d q).armed with
    | some (t, i) => if i = e then some (t, q, false) else none
    | none => none)
  let runs := (pend ++ now).foldr (fun r l => insertBy (fun r => r.1 * 8 + r.2.1) r l) []
  match d.yrw.inj with
  | some x =>
    if x.start.isNone && x.instant.any (fun i => decide (i ≤ e)) then injRun d x e else ySeqs d e runs
  | none => if d.yrw.cal.isSome then calStart d e else ySeqs d e runs

/-! ## Results (R312, R314) -/

/-- The calibrated result y of raw code r of channel c (R314). -/
def yCal (d : Dev) (c r : Nat) : Nat :=
  let w := rw d (Reg.YRW_CAL_CH c)
  (max 0 (min 4095 (convQ ((((16 * r : Nat) : Int) - (bits w 11 0 : Nat)) * (bits w 31 16 : Nat)) (2 ^ 18)))).toNat

/-- The comparator of channel c takes result y; whether it crosses (R312). -/
def yWindow (d : Dev) (c y : Nat) : Dev × Bool :=
  let w := rw d (Reg.YRW_WIN_LIM c)
  let consec := bits w 29 28 + 1
  if bits w 11 0 ≤ y ∧ y ≤ bits w 27 16 then
    (paInside { d with yrw := { d.yrw with cons := mput 0 d.yrw.cons c 0 } } c, false)
  else
    let n := mget 0 d.yrw.cons c + 1
    let d := { d with yrw := { d.yrw with cons := mput 0 d.yrw.cons c n } }
    if !bit w 31 || decide (n < consec) then (d, false)
    else
      let drop := rw d (Reg.YRW_WIN_DROP c)
      let dropAll (d : Dev) : Dev := (List.range 32).foldl (fun d o => if drop.testBit o then paDrop d o c else d) d
      if n = consec then
        let d := cnt (sbit d Reg.YRW_WIN_STAT c) Reg.YRW_CNT_WIN 1
        let d := if bit w 30 && rbit d Reg.YRW_CTRL 2 then hlkSrc d 2 else d
        (dropAll d, true)
      else (dropAll d, false)

/-- The comparators take the results of a run, in sampling order; whether one crosses. -/
def yWindows (d : Dev) (ys : List (Nat × Nat × Nat)) : Dev × Bool :=
  ys.foldl (fun s e => let (d, x) := yWindow s.1 e.2.1 e.2.2; (d, s.2 || x)) (d, false)

/-- The calibrated results of a run: (slot, channel, y) for each slot used, from the raw codes by slot. -/
def yResults (d : Dev) (slots : List (Nat × Nat)) (raws : List Word) : List (Nat × Nat × Nat) :=
  slots.map (fun e => (e.1, e.2, yCal d e.2 ((at0 0 raws e.1).toNat % 4096)))

/-- Write result set r; the flags are those of KIND's STATUS nibble: OVR, LATE, SHIFT, WIN (R265, R314). -/
def ySet (d : Dev) (r flags time : Nat) (ys : List (Nat × Nat × Nat)) : Dev :=
  let a := Reg.YRW_RES0 r
  let lostOne := rbit d a 0
  let d := if lostOne then sbit (cnt d Reg.YRW_CNT_RESOVR 1) Reg.YRW_STATUS 2 else d
  let seq := (fget d a 31 16 + 1) % 65536
  let d := ww d a (1 + flags * 2 + b2n lostOne * 32 + seq * 2 ^ 16)
  let d := wr64 d (Reg.YRW_RES_TIME r) (time % 2 ^ 64)
  let y (i : Nat) : Nat := ((ys.find? (fun e => e.1 = i)).map (fun e => e.2.2)).getD 0
  (List.range 16).foldl (fun d w => ww d (Reg.YRW_RES_Y r w) (y (2 * w) + y (2 * w + 1) * 2 ^ 16)) d

/-- The record of a run (R314). -/
def yRecord (q flags seq time : Nat) (ys : List (Nat × Nat × Nat)) : List Byte :=
  toBytes 4 (0x18 + flags * 2 ^ 8) ++ toBytes 4 (seq + q * 2 ^ 16) ++ toBytes 8 time
    ++ toBytes 48 ((ys.map (fun e => e.2.2 * 2 ^ (12 * e.1))).foldl (· + ·) 0)

/-- SEQUENCE_RESULT: a run has ended; `raws` are the raw codes by slot 4j + k. -/
def sequenceResult (d : Dev) (raws : List Word) : Dev :=
  match d.yrw.work with
  | some (.seq q first ends late shift w) =>
    if fine d.air.now < ends ∨ d.yrw.inj.any (fun x => x.start.isSome) then d
    else
      let slots := ySlots w
      let d := cnt d Reg.YRW_CNT_CONV slots.length
      let ys := yResults d slots raws
      let (d, win) := yWindows d ys
      let x := yseq d q
      let flags := b2n x.ovr + 2 * b2n late + 4 * b2n shift + 8 * b2n win
      let d := setYseq d q { x with ovr := false }
      let d := if late then cnt d Reg.YRW_CNT_LATE 1 else d
      let time := first / 100000
      let d := ySet d q flags time ys
      let c := at0 0 w 0
      let d := if bit c 12 then sendRecord d (bits (at0 0 w 8) 19 0) (yRecord q flags (fget d (Reg.YRW_RES0 q) 31 16) time ys) else d
      let d := if bit c 13 then sendNotify d (bit c 14) (bits (at0 0 w 9) 23 0) else d
      yServe d ends
  | _ => d

/-- INJ_RESULT: the injected conversion completes; `raws` are the raw codes by converter. -/
def injResult (d : Dev) (raws : List Word) : Dev :=
  match d.yrw.inj with
  | some x =>
    match x.start with
    | none => d
    | some st =>
      if fine d.air.now < st + CONV then d
      else
        let d := cnt { d with yrw := { d.yrw with inj := none } } Reg.YRW_CNT_CONV x.slots.length
        let ys := yResults d x.slots raws
        let (d, win) := yWindows d ys
        let d := ySet d 8 (8 * b2n win) (st / 100000) ys
        match d.yrw.work with
        | some (.inj _ e) => yServe d e
        | some (.seq q first ends late _ w) => { d with yrw := { d.yrw with work := some (.seq q first ends late true w) } }
        | _ => d
  | none => d

/-! ## Calibration (R313) -/

/-- A YRW_CAL write. -/
def calRequest (d : Dev) (ch ph tgt : Nat) : Dev :=
  let d := fset d Reg.YRW_CAL_STATUS 9 5 ch
  let running := match d.yrw.work with | some (.cal _ _ _ _) => true | _ => false
  if d.yrw.cal.isSome || running then fset d Reg.YRW_CAL_STATUS 4 2 3
  else fset (fset { d with yrw := { d.yrw with cal := some (ch, ph, tgt) } } Reg.YRW_CAL_STATUS 1 0 1) Reg.YRW_CAL_STATUS 4 2 0

/-- CAL_PHASE_START: no injected request is pending and Yarrow is free. -/
def calPhaseStart (d : Dev) : Dev := if d.yrw.inj.isNone ∧ d.yrw.work.isNone then calStart d (fine d.air.now) else d

/-- OFS16 and GAIN from the sums of the 64 codes of each phase; `none` where GAIN or M0 is out of range. -/
def calValues (s0 s1 tgt : Nat) : Option (Nat × Nat) :=
  if 255 * 64 < s0 ∨ s1 ≤ s0 then none
  else
    let ofs := (2 * s0 + 4) / 8
    let g := (2 * (2 ^ 14 * tgt * 64) + (s1 - s0)) / (2 * (s1 - s0))
    if 0x3800 ≤ g ∧ g ≤ 0x4800 then some (ofs, g) else none

/-- CAL_PHASE_END: the 64 conversions have ended. -/
def calPhaseEnd (d : Dev) (raws : List Word) : Dev :=
  match d.yrw.work with
  | some (.cal ch ph tgt ends) =>
    if fine d.air.now < ends then d
    else
      let d := fset (cnt d Reg.YRW_CNT_CONV 64) Reg.YRW_CAL_STATUS 1 0 3
      let sum := (List.range 64).foldl (fun s i => s + (at0 0 raws i).toNat % 4096) 0
      let d :=
        if ph = 0 then fset { d with yrw := { d.yrw with m0 := mput 0 d.yrw.m0 ch (sum + 1) } } Reg.YRW_CAL_STATUS 4 2 0
        else
          let m := mget 0 d.yrw.m0 ch
          let d := { d with yrw := { d.yrw with m0 := mput 0 d.yrw.m0 ch 0 } }
          if m = 0 then fset d Reg.YRW_CAL_STATUS 4 2 2
          else match calValues (m - 1) sum tgt with
            | none => fset d Reg.YRW_CAL_STATUS 4 2 1
            | some (ofs, g) =>
              let d := fset (ww d (Reg.YRW_CAL_CH ch) (ofs + g * 2 ^ 16)) Reg.YRW_CAL_STATUS 4 2 0
              { d with srl := { d.srl with cal := mput 0 d.srl.cal ch (ofs + g * 2 ^ 16) } }
      yServe d ends
  | _ => d

/-- YRW_RES_ACK (R265, R314). -/
def yrwAck (d : Dev) (r v : Nat) : Dev :=
  if v % 65536 = fget d (Reg.YRW_RES0 r) 31 16 then cbit d (Reg.YRW_RES0 r) 0 else cnt d Reg.YRW_CNT_ACKBAD 1

/-! ## Commit -/

/-- A sequence's definition is well formed: every step names a converter and the must-be-0 bits are 0 (R308, R318). -/
def ySeqOk (w : List Nat) : Bool :=
  !bit (at0 0 w 0) 0 ||
  ((List.range (ySteps w)).all (fun j => (List.range 4).any (fun k => (yMap w j k).isSome))
    && bits (at0 0 w 0) 31 15 = 0 && bits (at0 0 w 1) 31 16 = 0 && bits (at0 0 w 8) 31 20 = 0 && bits (at0 0 w 9) 31 24 = 0)

/-- Yarrow's checks over the values a commit would leave (R308, R318). -/
def yrwCheck (d : Dev) (keys : List Nat) : Bool :=
  let mine := keys.any (fun a => decide (0x3000900000 ≤ a ∧ a < 0x3000A00000))
  !mine || ((!keys.contains Reg.YRW_CTRL || (List.range 8).all (fun q => ySeqOk (yrwWords d (yrwBank d) q)))
    && (List.range 32).all (fun c => decide (fget d (Reg.YRW_WIN_LIM c) 11 0 ≤ fget d (Reg.YRW_WIN_LIM c) 27 16)))

/-- A commit at `b` that writes YRW_CTRL resolves START of every sequence of the bank in effect; the next trigger is the
first at or after `b` (R308). -/
def yrwApplied (d : Dev) (keys : List Nat) (b : Nat) : Dev :=
  if !keys.contains Reg.YRW_CTRL then d
  else (List.range 8).foldl (fun d q =>
    let w := yrwWords d (yrwBank d) q
    let per := at0 0 w 3
    let base := fullTick (b / 64) (at0 0 w 2)
    let k := if per = 0 ∨ b ≤ base * 64 then 0 else (b - base * 64 + per * 64 - 1) / (per * 64)
    setYseq d q { yseq d q with base := base, k := k }) d

/-! ## Meanings -/

def execYrwSwTrig (v : Word) (s : State) : Out := run s (fun d => yrwSwTrig d v.toNat)
def execSeqTrigger (q : Nat) (s : State) : Out := run s (fun d => if q < 8 then seqTrigger d q else d)
def execSamplingInstant (q : Nat) (s : State) : Out := run s (fun d => if q < 8 then samplingInstant d q else d)
def execSequenceResult (raws : List Word) (s : State) : Out := run s (fun d => sequenceResult d raws)
def execInjGo (s : State) : Out := run s injGo
def execInjCancel (s : State) : Out := run s injCancel
def execInjSampling (s : State) : Out := run s injSampling
def execInjResult (raws : List Word) (s : State) : Out := run s (fun d => injResult d raws)
def execCalPhase0 (ch : Nat) (s : State) : Out := run s (fun d => calRequest d (ch % 32) 0 0)
def execCalPhase1 (ch target : Nat) (s : State) : Out := run s (fun d => calRequest d (ch % 32) 1 (target % 4096))
def execCalPhaseStart (s : State) : Out := run s calPhaseStart
def execCalPhaseEnd (raws : List Word) (s : State) : Out := run s (fun d => calPhaseEnd d raws)
def execYrwResAck (r : Nat) (v : Word) (s : State) : Out := run s (fun d => if r < 9 then yrwAck d r v.toNat else d)

end Sys2Proof.Machine
end

