-- ==== Sys2Proof/Machine/EthMac.lean ====
section
/-! DEFINITION. Fronthaul lanes and Ethernet MACs (file 12): modes and links (R320 to R322), receiving a frame (R323 to
R331), delivery to buffers (R332 to R338), transmission (R339 to R342), timestamps (R343 to R347), what the ports do in
the Listen state (R349, R350), and the MACs' part in a commit. -/

namespace Sys2Proof.Machine

def macOf (d : Dev) (m : Nat) : MacSt := mget MacSt.reset d.mac m
def setMac (d : Dev) (m : Nat) (x : MacSt) : Dev := { d with mac := mput MacSt.reset d.mac m x }

/-- The lanes that MODE gives to local MAC i; 0 for a MAC that is Off (R320). -/
def modeLanes (mode i : Nat) : Nat :=
  match mode with
  | 1 => at0 0 [8, 0, 0, 0] i
  | 2 => at0 0 [4, 0, 4, 0] i
  | 3 => at0 0 [2, 2, 2, 2] i
  | 4 => at0 0 [4, 0, 4, 0] i
  | 5 => at0 0 [1, 1, 1, 1] i
  | 6 => at0 0 [4, 0, 2, 2] i
  | 7 => at0 0 [2, 2, 4, 0] i
  | _ => 0

def macMode (d : Dev) (g : Nat) : Nat := fget d (Reg.MACG_CTRL g) 2 0
def macCfg (d : Dev) (m : Nat) : Nat := rw d (Reg.MAC_CFG (m / 4) (m % 4))
def macMaxLen (d : Dev) (m : Nat) : Nat := bits (macCfg d m) 18 5

/-- The MAC is present, its mode gives it lanes, and its domain serves. -/
def macPort (d : Dev) (m : Nat) : Bool :=
  decide (m < 48) && grpPresent d.grade (m / 4) && decide (0 < modeLanes (macMode d (m / 4)) (m % 4)) && domServes d (39 + m / 8)

/-- The MAC receives and transmits: its port is on, it is enabled, its link is up and the part is not in Listen. -/
def macRuns (d : Dev) (m : Nat) : Bool :=
  macPort d m && bit (macCfg d m) 0 && rbit d (Reg.MAC_LINK (m / 4) (m % 4)) 0 && !d.pwr.listen

/-- Add to a counter of MAC m, given by the address of its counter in group 0, MAC 0. -/
def macCnt (d : Dev) (m a n : Nat) : Dev := cnt d (a + m / 4 * 0x100000 + m % 4 * 0x200) n

/-- The number in big-endian bytes. -/
def beNum (bs : List Byte) : Nat := bs.foldl (fun a b => a * 256 + b.toNat) 0
/-- `n` bytes at `o`. -/
def slice (bs : List Byte) (o n : Nat) : List Byte := (bs.drop o).take n

/-- The FCS that IEEE 802.3 gives for the bytes of a frame, as its four bytes in order. -/
def fcsOf (bs : List Byte) : List Byte :=
  let r := crcBits 32 0x04C11DB7 0xFFFFFFFF (bs.flatMap lsbFirst) ^^^ 0xFFFFFFFF
  (List.range 4).map (fun j => BitVec.ofNat 8 ((List.range 8).foldl (fun a i => a + b2n (r.testBit (31 - (8 * j + i))) * 2 ^ i) 0))

def fcsGood (bs : List Byte) : Bool := decide (4 ≤ bs.length) && decide (fcsOf (bs.take (bs.length - 4)) = bs.drop (bs.length - 4))

/-! ## Timestamps (R343, R344) -/

/-- A timestamp of the present air time: within ±2 ns, or ±4 ns at 10.3125 Gb/s, of the true value, plus the signed
correction of the board. How far it is off is open. -/
def stamp (d : Dev) (m corr : Nat) : Dev × Nat :=
  let ten := decide (macMode d (m / 4) = 5) && decide (bits (macCfg d m) 2 1 = 0)
  let w : Nat := if ten then 7 else 3
  let off : Int := ((fresh d 53 % (2 * w + 1) : Nat) : Int) - w
  (used d, pat 64 ((d.air.now : Int) + off + sx 16 corr))

/-- PTP time of an air time: seconds, nanoseconds and the fraction in 2^-16 ns, rounded to nearest (R344, R346). -/
def ptpOf (d : Dev) (t : Nat) : Nat × Nat × Nat :=
  let s := 1966080000
  let x := t % s * 10 ^ 9
  (rd64 d Reg.AIR_EPOCH + t / s, x / s, (2 * (x % s * 65536) + s) / (2 * s))

/-! ## Parsing and classification (R325 to R327) -/

/-- What the MAC reads of a frame: TAGGED, VID, ETYPE, the offset after the EtherType, whether it is eCPRI, MSGTYPE, EID,
SEQID, payload size, and BADHDR from the common header. -/
structure Parsed where
  tagged : Bool
  vid : Nat
  etype : Nat
  off : Nat
  ecpri : Bool
  msgtype : Nat
  eid : Nat
  seqid : Nat
  psize : Nat
  bad : Bool
  deriving DecidableEq, Repr

/-- Parse the bytes of a frame without its FCS (R325). -/
def parseFrame (bs : List Byte) (trunc : Bool) : Parsed :=
  let tpid := beNum (slice bs 12 2)
  let tagged := tpid = 0x8100 || tpid = 0x88A8
  let off := if tagged then 18 else 14
  let etype := beNum (slice bs (off - 2) 2)
  let ecpri := etype = 0xAEFE
  let h := slice bs off 4
  let h0 := (at0 0 h 0).toNat
  let psize := beNum (h.drop 2)
  { tagged := tagged, vid := if tagged then beNum (slice bs 14 2) % 4096 else 0, etype := etype, off := off, ecpri := ecpri,
    msgtype := if ecpri then (at0 0 h 1).toNat else 0, eid := if ecpri then beNum (slice bs (off + 4) 2) else 0,
    seqid := if ecpri then beNum (slice bs (off + 6) 1) else 0, psize := psize,
    bad := ecpri && (decide (h0 / 16 ≠ 1) || bit h0 0 || (!trunc && decide (bs.length < off + 4 + psize))) }

/-- Where the application header begins: after the EtherType, and after the common header of an eCPRI frame. -/
def Parsed.app (p : Parsed) : Nat := if p.ecpri then p.off + 4 else p.off

/-- Word `i` of entry `e` of a flow-table bank. -/
def flowWord (d : Dev) (g bank e i : Nat) : Nat := rw d (Reg.MAC_FLOW g bank (8 * e + i))

/-- The bank in effect. -/
def ftSel (d : Dev) (g : Nat) : Nat := b2n (rbit d (Reg.MACG_CTRL g) 3)

/-- The key of a frame (R326). -/
def flowKey (i : Nat) (p : Parsed) : Nat × Nat := (i + b2n p.tagged * 4 + p.vid * 8 + p.msgtype * 2 ^ 16, p.eid + p.etype * 2 ^ 16)

/-- The lowest-numbered entry that a key matches (R327). -/
def classify (d : Dev) (g bank : Nat) (key : Nat × Nat) : Option Nat :=
  (List.range 2048).find? (fun e =>
    let w := flowWord d g bank e
    bit (w 4) 28 && (key.1 ^^^ w 0) &&& w 2 = 0 && (key.2 ^^^ w 1) &&& w 3 = 0)

/-! ## Timing windows (R330, R331) -/

/-- Symbols per slot and per half subframe, and the length of a slot in Tc (R43). -/
def slotShape (num : Nat) : Nat × Nat × Nat :=
  match num with | 0 => (14, 7, 1966080) | 1 => (14, 14, 983040) | 2 => (14, 28, 491520) | _ => (7, 7, 983040)

/-- The start of symbol k of slot s (R43). -/
def symStart (num s k : Nat) : Nat :=
  let (per, half, _) := slotShape num
  let n := s * per + k
  n / half * 983040 + (if n % half = 0 then 0 else n % half * symLen num + 1024)

/-- The slot that R330 takes for symbol k at arrival time a. -/
def nearSlot (num k : Nat) (a mid : Int) : Nat :=
  let (_, _, len) := slotShape num
  let s0 : Int := (a - mid) / (len : Int) - 2
  let dist (s : Nat) : Nat := (a - (symStart num s k : Int) - mid).natAbs
  let c := (List.range 5).map (fun i : Nat => (s0 + (i : Int)).toNat)
  c.foldl (fun b s => if dist s < dist b then s else b) (c.headD 0)

/-- The air-time reference of a frame under a flow entry (R330): whether its timing field can be read, the start of its
symbol or its first sample, and the end of the symbol. -/
def frameTime (d : Dev) (g bank e : Nat) (bs : List Byte) (p : Parsed) (a : Nat) : Bool × Nat × Nat :=
  let w5 := flowWord d g bank e 5
  let w7 := flowWord d g bank e 7
  let win := bits w5 14 11
  let num := fget d (Reg.MAC_WIN_CFG g win) 1 0
  let o := p.app + bits w7 15 8
  let tim := rw d (Reg.MAC_WIN_TIM g win)
  let mid : Int := (sx 16 (bits tim 15 0) + sx 16 (bits tim 31 16)) * 32
  if bit (flowWord d g bank e 4) 29 then
    if bs.length < o + 4 then (false, 0, 0)
    else let t := fullTick (a / 64) (beNum (slice bs o 4)) * 64; (true, t, t)
  else
    let k := beNum (slice bs o 1) % 64
    if bs.length < o + 1 ∨ (slotShape num).1 ≤ k then (false, 0, 0)
    else
      let s := nearSlot num k a mid
      (true, symStart num s k, symStart num s (k + 1))

/-! ## Samples (R333, R334) -/

/-- A signed number of n bits from the big-endian bit string at bit o. -/
def beBits (x total o n : Nat) : Int := sx n (x / 2 ^ (total - o - n) % 2 ^ n)

/-- Decompress the sample bytes of a flow; `none` where they do not form whole samples or blocks. -/
def unpackSamples (comp : Bool) (iqw : Nat) (bs : List Byte) : Option (List (Int × Int)) :=
  if comp then
    let n := 1 + 3 * iqw
    if bs.length % n ≠ 0 then none
    else some ((chunks n bs).flatMap (fun b =>
      let e := (at0 0 b 0).toNat % 16
      let x := beNum (b.drop 1)
      (List.range 12).map (fun i =>
        (sat 16 (beBits x (24 * iqw) (2 * i * iqw) iqw * 2 ^ e), sat 16 (beBits x (24 * iqw) ((2 * i + 1) * iqw) iqw * 2 ^ e)))))
  else if bs.length % 4 ≠ 0 then none
  else some ((chunks 4 bs).map (fun b => (sx 16 (beNum (b.take 2)), sx 16 (beNum (b.drop 2)))))

/-- The samples of a frame pass the front end. The first gain code, whether it changes, and the bytes (R255, R333). -/
def gainFrame (d : Dev) (st : Nat) (td : Bool) (t0 tEnd per : Nat) (vs : List (Int × Int)) : Dev × Nat × Bool × List Byte :=
  let num := fget d (Reg.FEN_GL_CFG st) 14 13
  let (d, g, chg, out) := vs.zipIdx.foldl (fun (acc : Dev × Option Nat × Bool × List Byte) v =>
    let (d, g, chg, out) := acc
    let t := if td then t0 + v.2 * per else t0
    let (a, b) := if td then symbolAt num t else (t0, tEnd)
    let x := glOf d st
    let i := if td then (t - a) / max 1 per else if x.symStart = a ∧ x.symEnd ≠ 0 then x.n else 0
    let (d, re, im) := gainSample d st t i a b v.1.1 v.1.2
    let code := (glOf d st).code
    (d, some (g.getD code), chg || g.any (· ≠ code), out ++ putCi16 re im)) (d, none, false, [])
  (d, g.getD 0x7F, chg, out)

/-! ## Receiving a frame (R323 to R331) -/

/-- The bytes that wait in the FIFO of a group. -/
def fifoUsed (d : Dev) (g : Nat) : Nat := ((List.range 4).map (fun i => ((macOf d (4 * g + i)).rx.map RxFrame.size).foldl (· + ·) 0)).foldl (· + ·) 0

/-- Enter a frame in the FIFO; the first of its MAC begins to wait now. -/
def enterRx (d : Dev) (m : Nat) (f : RxFrame) : Dev :=
  let x := macOf d m
  setMac d m { x with rx := x.rx ++ [f], since := if x.rx.isEmpty then d.air.now else x.since }

/-- The bytes that DELIVER gives, from application header and payload end (R333). -/
def deliverBytes (mode hdrlen : Nat) (bs : List Byte) (p : Parsed) : List Byte :=
  if mode = 1 then
    let stop := if p.ecpri then min bs.length (p.off + 4 + p.psize) else bs.length
    slice bs (p.app + hdrlen) (stop - (p.app + hdrlen))
  else bs

/-- An accepted frame whose entry is known: the window check, its samples, and its place in the FIFO. -/
def rxMatched (d : Dev) (m : Nat) (bs : List Byte) (p : Parsed) (trunc : Bool) (frmlen ts per e : Nat) : Dev :=
  let g := m / 4
  let bank := ftSel d g
  let w := flowWord d g bank e
  let w4 := w 4
  let w5 := w 5
  let win := bits w5 14 11
  let tim := rw d (Reg.MAC_WIN_TIM g win)
  let a : Int := (sx 64 ts)
  let dmode := bits w4 27 26
  let (timed, t0, tEnd) := frameTime d g bank e bs p a.toNat
  let bad := p.bad || ((bit w5 15 || decide (dmode = 2)) && !timed)
  let check := bit w5 15 && timed
  let w0 : Int := (t0 : Int) + sx 16 (bits tim 15 0) * 64
  let w1 : Int := (t0 : Int) + sx 16 (bits tim 31 16) * 64
  let early := check && decide (a < w0)
  let late := check && !early && decide (w1 ≤ a)
  let d := if !check then d
    else if early then cnt d (Reg.MAC_WIN_EARLY g win) 1
    else if late then cnt d (Reg.MAC_WIN_LATE g win) 1
    else cnt d (Reg.MAC_WIN_ONTIME g win) 1
  if (early || late) && rbit d (Reg.MAC_WIN_CFG g win) 2 then macCnt d m (Reg.MAC_RX_WINDROP 0 0) 1
  else
    let hdrlen := bits (w 7) 7 0
    let pay := deliverBytes 1 hdrlen bs p
    let vs := if dmode = 2 && !trunc && !bad && p.ecpri then
        (if p.psize < hdrlen then none else unpackSamples (bit w5 16) (if bits w5 20 17 = 0 then 16 else bits w5 20 17) pay)
      else none
    let bad := bad || (dmode = 2 && !trunc && p.ecpri && vs.isNone)
    let f : RxFrame := {
      data := if dmode = 1 then pay else bs,
      size := bs.length + (if trunc then 0 else 4), frmlen := frmlen, flow := e,
      flags := b2n trunc * 4 + b2n early * 16 + b2n late * 32 + b2n p.ecpri * 64 + b2n bad * 128, gain := 0x7F,
      msgtype := p.msgtype, ts := ts, eid := p.eid, seqid := p.seqid, wofs := if check then sat 32 (a - w0) else 0,
      queue := bits w4 19 0, ring := bits w4 25 20, hold := bits (macCfg d m) 27 20,
      notify := if bit (w 6) 24 then some (bit (w 6) 25, bits (w 6) 23 0) else none }
    match vs with
    | some vs =>
      let (d, code, chg, out) := gainFrame d (bits w5 10 0) (bit w4 29) t0 tEnd per vs
      enterRx d m { f with data := out, gain := code, flags := f.flags + 256 + b2n chg * 512 }
    | none => enterRx d m f

/-- FRAME_RECEIVE: a frame, from its destination address to its FCS, whose SFD arrives now. `pcsErr` is a PCS error, `corr` and
`uncorr` count its FEC codewords corrected and not correctable, and `per` is the sample period in Tc of a time-domain
flow's radio unit, which no field of the part gives. -/
def frameReceive (d : Dev) (m : Nat) (frame : List Byte) (pcsErr : Bool) (corr uncorr per : Nat) : Dev :=
  if !macRuns d m then d
  else
    let g := m / 4
    let i := m % 4
    let len := frame.length
    let maxLen := macMaxLen d m
    let fec := decide (bits (macCfg d m) 4 3 ≠ 0)
    let d := if fec then macCnt (macCnt d m (Reg.MAC_FEC_CORR 0 0) corr) m (Reg.MAC_FEC_UNCORR 0 0) uncorr else d
    let d := macCnt d m (Reg.MAC_RX_BYTES 0 0) len
    if 2 ^ 20 < fifoUsed d g + min len maxLen then sbit (macCnt d m (Reg.MAC_RX_FIFO 0 0) 1) (Reg.MACG_STATUS g) 1
    else if len < 64 then macCnt d m (Reg.MAC_RX_RUNT 0 0) 1
    else
      let trunc := decide (maxLen < len)
      if !trunc && (pcsErr || (fec && decide (0 < uncorr)) || !fcsGood frame) then macCnt d m (Reg.MAC_RX_FCS 0 0) 1
      else
        let d := if trunc then macCnt d m (Reg.MAC_RX_OVERSIZE 0 0) 1 else d
        let bs := if trunc then frame.take maxLen else frame.take (len - 4)
        let p := parseFrame bs trunc
        if p.etype = 0x8808 then macCnt d m (Reg.MAC_RX_CTRL 0 0) 1
        else
          let (d, ts) := stamp d m (fget d (Reg.MAC_PTP_DLY g i) 15 0)
          let frmlen := if trunc then maxLen else len
          match classify d g (ftSel d g) (flowKey i p) with
          | some e => rxMatched d m bs p trunc frmlen ts per e
          | none =>
            if bit (macCfg d m) 19 then
              let q := rw d (Reg.MAC_DEFQ g i)
              enterRx d m {
                data := bs, size := bs.length + (if trunc then 0 else 4), frmlen := frmlen, flow := 0xFFF,
                flags := b2n trunc * 4 + b2n p.ecpri * 64 + b2n p.bad * 128, gain := 0x7F, msgtype := p.msgtype, ts := ts,
                eid := p.eid, seqid := p.seqid, wofs := 0, queue := bits q 19 0, ring := bits q 25 20,
                hold := bits (macCfg d m) 27 20, notify := none }
            else macCnt d m (Reg.MAC_RX_MISS 0 0) 1

/-! ## Buffer rings (R335) -/

def brAvail (d : Dev) (g r : Nat) : Nat :=
  if rbit d (Reg.MAC_BR_CFG g r) 0 then (rw d (Reg.MAC_BR_PROD g r) + 2 ^ 17 - rw d (Reg.MAC_BR_CONS g r)) % 2 ^ 17 else 0
def brDepth (d : Dev) (g r : Nat) : Nat := 2 ^ fget d (Reg.MAC_BR_CFG g r) 5 1
def brBufsz (d : Dev) (g r : Nat) : Nat := (fget d (Reg.MAC_BR_CFG g r) 13 6 + 1) * 64
def brAdvance (d : Dev) (g r n : Nat) : Dev := ww d (Reg.MAC_BR_CONS g r) ((rw d (Reg.MAC_BR_CONS g r) + n) % 2 ^ 17)

/-- What taking a buffer gives. -/
inductive Buf where
  | at (a : Nat) | none | wait
  deriving DecidableEq, Repr

/-- The next buffer of ring r of group g, for MAC m; `n` bounds the entries looked at. -/
def brTake (d : Dev) (m r : Nat) : Nat → Dev × Buf
  | 0 => (d, .none)
  | n + 1 =>
    let g := m / 4
    if brAvail d g r = 0 then (d, .none)
    else
      let i := rw d (Reg.MAC_BR_CONS g r) % brDepth d g r
      let a := rd64 d (Reg.MAC_BR_BASE g r) / 64 * 64 + 8 * i
      match readIn d a 8 with
      | (d, .wait) => (d, .wait)
      | (d, .err _) => brTake (sbit (brAdvance d g r (min (8 - i % 8) (brAvail d g r))) (Reg.MACG_STATUS g) 3) m r n
      | (d, .bytes bs) =>
        let e := ofBytes bs
        let d := brAdvance d g r 1
        if e % 64 = 0 ∧ e < 2 ^ 48 ∧ ringOk d.grade e (brBufsz d g r) then (d, .at e)
        else brTake (macCnt d m (Reg.MAC_RX_BADBUF 0 0) 1) m r n

/-- A write of PROD (R335). -/
def brProd (d : Dev) (g r v : Nat) : Dev :=
  if brDepth d g r < (v % 2 ^ 17 + 2 ^ 17 - rw d (Reg.MAC_BR_CONS g r)) % 2 ^ 17 then sbit d (Reg.MACG_STATUS g) 2
  else ww d (Reg.MAC_BR_PROD g r) (v % 2 ^ 17)

/-- A write of the configuration word of a ring; `none` is an error response (R335). -/
def brCfg (d : Dev) (g r v : Nat) : Option Dev :=
  let a := Reg.MAC_BR_CFG g r
  let v := v % 2 ^ 14
  if rbit d a 0 && decide (v / 2 ≠ rw d a / 2) then none
  else
    let d := ww d a v
    some (if bit v 0 then ww (ww d (Reg.MAC_BR_PROD g r) 0) (Reg.MAC_BR_CONS g r) 0 else d)

/-! ## Delivery (R332, R336 to R338) -/

/-- The queue that a frame names takes frames of MAC m (R332). -/
def rxQueueOk (d : Dev) (m handle : Nat) : Bool :=
  let q := handle % 2 ^ 14
  let x := qOf d q
  decide (handle / 2 ^ 14 = x.gen) && decide (x.st = 1) && decide (qType d q = 3) && decide (qUnit d q = m)

/-- The ring has a buffer and the queue room for every descriptor (R336). -/
def rxReady (d : Dev) (m : Nat) (f : RxFrame) : Bool :=
  let q := f.queue % 2 ^ 14
  decide (0 < brAvail d (m / 4) f.ring)
    && decide ((qOf d q).slots.length + max 1 (ceilDiv f.data.length (brBufsz d (m / 4) f.ring)) ≤ qDepth d q)

/-- Fill buffers in order: the buffers used with the bytes in each, and what is left over. `none` when a ring entry must
wait for a refetch. -/
def fillBufs (d : Dev) (m r : Nat) : Nat → List Byte → Option (Dev × List (Nat × Nat) × Bool)
  | 0, bs => some (d, [], !bs.isEmpty)
  | n + 1, bs =>
    match brTake d m r (brAvail d (m / 4) r) with
    | (_, .wait) => none
    | (d, .none) => some (d, [], true)
    | (d, .at a) =>
      let part := bs.take (brBufsz d (m / 4) r)
      let rest := bs.drop (brBufsz d (m / 4) r)
      let d := if part.isEmpty || writeShut d.grade a then d else memPut d a part
      if rest.isEmpty then some (d, [(a, part.length)], false)
      else match fillBufs d m r n rest with
        | some (d, us, left) => some (d, (a, part.length) :: us, left)
        | none => none

/-- The receive descriptor of one buffer (R338). -/
def rxDesc (f : RxFrame) (a n flags : Nat) : List Byte :=
  toBytes 6 a ++ toBytes 2 n ++ toBytes 4 (f.frmlen + f.flow * 2 ^ 16) ++ toBytes 4 (f.flags + flags + f.gain * 2 ^ 16 + f.msgtype * 2 ^ 24)
    ++ toBytes 8 f.ts ++ toBytes 4 (f.eid + f.seqid * 2 ^ 16) ++ toBytes 4 (pat 32 f.wofs)

/-- The first frame of a MAC leaves the FIFO; the one behind it begins to wait. -/
def popRx (d : Dev) (m : Nat) : Dev :=
  let x := macOf d m
  setMac d m { x with rx := x.rx.drop 1, since := d.air.now }

/-- FRAME_DELIVERY: the first frame in the FIFO of MAC m is delivered, or dropped where its queue refuses it. -/
def frameDelivery (d : Dev) (m : Nat) : Dev :=
  match (macOf d m).rx with
  | [] => d
  | f :: _ =>
    if !rxQueueOk d m f.queue then macCnt (popRx d m) m (Reg.MAC_RX_BADQ 0 0) 1
    else if !rxReady d m f then d
    else
      match fillBufs d m f.ring (max 1 (ceilDiv f.data.length (brBufsz d (m / 4) f.ring))) f.data with
      | none => d
      | some (d, [], _) => d
      | some (d, us, left) =>
        let d := us.zipIdx.foldl (fun d u =>
          let last := decide (u.2 + 1 = us.length)
          let fl := b2n (decide (u.2 = 0)) + 2 * b2n last + 8 * b2n (last && left)
          (produce d f.queue (rxDesc f u.1.1 u.1.2 fl)).1) d
        let d := macCnt (popRx d m) m (Reg.MAC_RX_FRAMES 0 0) 1
        let d := if left then macCnt d m (Reg.MAC_RX_INCOMPLETE 0 0) 1 else d
        let d := if f.flags.testBit 7 then macCnt d m (Reg.MAC_RX_BADHDR 0 0) 1 else d
        match f.notify with
        | some (ev, n) => sendNotify d ev n
        | none => d

/-- RX_HOLD_EXPIRY: the first frame of MAC m has waited RX_HOLD × 64 ns without a buffer or queue room (R336). -/
def rxHoldExpiry (d : Dev) (m : Nat) : Dev :=
  let x := macOf d m
  match x.rx with
  | [] => d
  | f :: _ =>
    if rxQueueOk d m f.queue && !rxReady d m f && decide (f.hold * 64 * 196608 ≤ (d.air.now - x.since) * 100000) then
      macCnt (popRx d m) m (Reg.MAC_RX_NOBUF 0 0) 1
    else d

/-! ## Transmitting (R339 to R342) -/

/-- The MAC reads the descriptor at the head of MAC_TX queue q (R218, R341). -/
def macTake (d : Dev) (q : Nat) : Dev :=
  let m := qUnit d q
  let x := macOf d m
  if !macPort d m ∨ x.heads.any (fun h => h.q = q) then d
  else match hwTake d q with
    | (d, .nothing) => d
    | (d, .entry desc) =>
      let launch := if dbits desc 12 0 0 = 1 then fullTick (tickNow d) (dbits desc 8 31 0) * 64 else d.air.now
      setMac d m { macOf d m with heads := (macOf d m).heads ++ [⟨q, desc, launch⟩] }

/-- The due head with the earliest launch time, then the lowest queue index (R341). -/
def dueHead (d : Dev) (m : Nat) : Option TxHead :=
  ((macOf d m).heads.filter (fun h => decide (h.launch ≤ d.air.now))).foldl (fun (b : Option TxHead) h =>
    match b with
    | none => some h
    | some x => if h.launch < x.launch ∨ (h.launch = x.launch ∧ h.q < x.q) then some h else some x) none

/-- The offset of the PTP header of a Sync or Delay_Req message, if the frame is one (R346). -/
def ptpOffset (bs : List Byte) : Option Nat :=
  let p := parseFrame bs false
  let ty := (at0 0 bs p.off).toNat % 16
  if p.etype = 0x88F7 ∧ ty ≤ 1 ∧ p.off + 44 ≤ bs.length then some p.off else none

/-- The causes of R342 that the descriptor alone gives, 0 if none. -/
def txCause (d : Dev) (m : Nat) (h : TxHead) : Nat :=
  let x := h.desc
  let len := dbits x 0 63 48
  let c := dbits x 12 31 0
  if len = 0 ∨ macMaxLen d m < len + 4 then 1
  else if !inRegion (dbits x 0 47 0) len then 2
  else if bit c 15 ∨ dbits x 24 31 24 ≠ 0 ∨ dbits x 28 31 16 ≠ 0 ∨ 383 < bits c 12 4
    ∨ (bit c 3 ∧ (len ≤ bits c 31 16 ∨ (len - bits c 31 16) % 4 ≠ 0)) ∨ (bit c 3 ∧ bit c 2) then 3
  else if h.launch + fget d (Reg.MAC_TXLATE (m / 4) (m % 4)) 23 0 * 64 < d.air.now then 4
  else 0

def txNotify (d : Dev) (x : List Byte) : Dev := if dbits x 12 13 13 = 1 then sendNotify d (dbits x 12 14 14 = 1) (dbits x 24 23 0) else d

/-- A descriptor fails and is not sent (R342). -/
def txFail (d : Dev) (m : Nat) (h : TxHead) (cause : Nat) : Dev :=
  let a := Reg.MAC_TXERR (m / 4) (m % 4)
  let d := macCnt d m (Reg.MAC_TX_DESCERR 0 0) 1
  let d := if cause = 4 then macCnt d m (Reg.MAC_TX_LATE 0 0) 1 else d
  let d := ww (ww d a (cause + h.q * 2 ^ 8)) (a + 4) (dbits h.desc 28 15 0)
  txNotify (sbit d (Reg.MACG_STATUS (m / 4)) 4) h.desc

/-- The samples of a transmit frame pass TXS (R304, R339). -/
def txSamples (d : Dev) (st : Nat) (t0 : Nat) (bs : List Byte) : Dev × List Byte :=
  let per := 64 / 2 ^ fget d (Reg.TXS_STR_CFG st) 6 5
  (chunks 4 bs).zipIdx.foldl (fun (acc : Dev × List Byte) c =>
    let v := (sx 16 (beNum (c.1.take 2)), sx 16 (beNum (c.1.drop 2)))
    let (d, re, im) := txsSample acc.1 st (t0 + c.2 * per) v
    (d, acc.2 ++ (toBytes 2 (pat 16 re)).reverse ++ (toBytes 2 (pat 16 im)).reverse)) (d, [])

/-- FRAME_LAUNCH: the line is free and the due head starts, or fails with a cause (R340 to R342). -/
def frameLaunch (d : Dev) (m : Nat) : Dev :=
  if !macRuns d m ∨ (macOf d m).on.isSome then d
  else match dueHead d m with
    | none => d
    | some h =>
      let x := macOf d m
      let drop (d : Dev) : Dev := setMac d m { macOf d m with heads := x.heads.filter (fun e => e.q ≠ h.q) }
      let c := txCause d m h
      if c ≠ 0 then txFail (drop d) m h c
      else match readIn d (dbits h.desc 0 47 0) (dbits h.desc 0 63 48) with
        | (_, .wait) => d
        | (d, .err _) => txFail (drop d) m h 5
        | (d, .bytes bs) =>
          let w := dbits h.desc 12 31 0
          if bit w 2 && (ptpOffset bs).isNone then txFail (drop d) m h 6
          else
            let (d, bs) := if bit w 3 then
                let (d, t) := txSamples d (bits w 12 4) (dbits h.desc 16 63 0) (bs.drop (bits w 31 16))
                (d, bs.take (bits w 31 16) ++ t)
              else (d, bs)
            let d := if bs.length < 60 then macCnt d m (Reg.MAC_TX_PAD 0 0) 1 else d
            let d := drop d
            setMac d m { macOf d m with on := some (padTo 60 bs, h.desc) }

/-- Replace bytes at an offset. -/
def splice (bs : List Byte) (o : Nat) (new : List Byte) : List Byte := bs.take o ++ new ++ bs.drop (o + new.length)

/-- The one-step update at egress time t (R346). -/
def oneStep (d : Dev) (t : Nat) (bs : List Byte) : List Byte :=
  match ptpOffset bs with
  | none => bs
  | some o =>
    let (s, ns, fr) := ptpOf d t
    let bs := splice bs (o + 34) ((toBytes 6 s).reverse ++ (toBytes 4 ns).reverse)
    splice bs (o + 8) (toBytes 8 ((beNum (slice bs (o + 8) 8) + fr) % 2 ^ 64)).reverse

/-- MAC_TXTS and MAC_TXTS_INFO show the oldest two-step timestamp (R345); with none, TS and TAG are open. -/
def showTxts (d : Dev) (m : Nat) : Dev :=
  let a := Reg.MAC_TXTS (m / 4) (m % 4)
  let l := (macOf d m).txts
  match l with
  | (ts, tag) :: _ => ww (wr64 d a ts) (a + 8) (tag + 2 ^ 16 + l.length * 2 ^ 17)
  | [] => ww (wr64 (used d) a (fresh d 54 % 2 ^ 64)) (a + 8) (fresh (used d) 55 % 2 ^ 16)

/-- FRAME_SENT: the timestamp point of the frame on the wire leaves; the frame leaves with its FCS (R340, R345, R346). -/
def frameSent (d : Dev) (m : Nat) : Dev :=
  match (macOf d m).on with
  | none => d
  | some (bs, x) =>
    let (d, ts) := stamp d m (fget d (Reg.MAC_PTP_DLY (m / 4) (m % 4)) 31 16)
    let w := dbits x 12 31 0
    let bs := if bit w 2 then oneStep d ts bs else bs
    let frame := bs ++ fcsOf bs
    let d := setMac d m { macOf d m with on := none, wire := frame }
    let d :=
      if bit w 1 then
        if (macOf d m).txts.length < 16 then
          showTxts (setMac d m { macOf d m with txts := (macOf d m).txts ++ [(ts, dbits x 28 15 0)] }) m
        else macCnt d m (Reg.MAC_TX_TSOVF 0 0) 1
      else d
    txNotify (macCnt (macCnt d m (Reg.MAC_TX_FRAMES 0 0) 1) m (Reg.MAC_TX_BYTES 0 0) frame.length) x

/-- MAC_TXTS_POP (R345). -/
def txtsPop (d : Dev) (m : Nat) : Dev :=
  if (macOf d m).txts.isEmpty then d
  else showTxts (setMac d m { macOf d m with txts := (macOf d m).txts.drop 1 }) m

/-! ## Links (R321, R322) -/

/-- The link of MAC m comes up. -/
def linkUp (d : Dev) (m : Nat) : Dev :=
  let a := Reg.MAC_LINK (m / 4) (m % 4)
  if macPort d m && bit (macCfg d m) 0 && !rbit d a 0 && !d.pwr.listen then
    fset (fset d a 2 2 (b2n (decide (bits (macCfg d m) 4 3 ≠ 0)))) a 1 0 1
  else d

/-- The link of MAC m goes down; `los` is loss of signal on a lane. -/
def linkDown (d : Dev) (m : Nat) (los : Bool) : Dev :=
  let a := Reg.MAC_LINK (m / 4) (m % 4)
  if m < 48 && rbit d a 0 then macCnt (sbit (fset d a 2 0 (2 * b2n los)) a 3) m (Reg.MAC_LINK_DOWN 0 0) 1 else d

/-! ## SyncE outputs (R347) -/

/-- What output SYNCE_CLK n carries: the MAC whose recovered clock it follows and the FREQ code, or `none` held low. -/
def synceOut (d : Dev) (n : Nat) : Option (Nat × Nat) :=
  let w := rw d (Reg.MAC_SYNCE n)
  let m := bits w 5 0
  if !bit w 6 || (bit w 7 && !rbit d (Reg.MAC_LINK (m / 4) (m % 4)) 0) then none else some (m, bits w 9 8 % 3)

/-! ## Listen (R349, R350) -/

/-- The designated MACs. -/
def listenPorts (d : Dev) : List Nat := (List.range 48).filter (fun m => (rd64 d Reg.MAC_LISTEN_PORTS).testBit m)

/-- The designated set keeps to 8 MACs and 8 lanes (R349). -/
def listenOk (d : Dev) : Bool :=
  let ms := (listenPorts d).filter (fun m => grpPresent d.grade (m / 4))
  decide (ms.length ≤ 8) && decide ((ms.map (fun m => modeLanes (macMode d (m / 4)) (m % 4))).foldl (· + ·) 0 ≤ 8)

/-- The lowest enabled pattern that the bytes of a frame without FCS match (R350). -/
def wakePattern (d : Dev) (bs : List Byte) : Option Nat :=
  (List.range 4).find? (fun p => rbit d Reg.MAC_LISTEN_CFG p && (List.range 32).all (fun w =>
    let mask := rw d (Reg.MAC_WAKE_MASK p w)
    let have_ := ofBytes (slice bs (4 * w) 4)
    let present := 2 ^ (8 * (bs.length - 4 * w)) - 1
    mask &&& present = mask && (have_ ^^^ rw d (Reg.MAC_WAKE_PAT p w)) &&& mask = 0))

/-- The pattern with which a frame on MAC m wakes the device. -/
def wakes (d : Dev) (m : Nat) (frame : List Byte) : Option Nat :=
  if (listenPorts d).contains m && grpPresent d.grade (m / 4) && decide (0 < modeLanes (macMode d (m / 4)) (m % 4))
    && decide (64 ≤ frame.length) && fcsGood frame && !rbit d Reg.MAC_WAKE_STATUS 0 then
    wakePattern d (frame.take (frame.length - 4))
  else none

/-- Record the wake (R350). -/
def recordWake (d : Dev) (m p : Nat) (frame : List Byte) : Dev :=
  let d := fset (fset (sbit d Reg.MAC_WAKE_STATUS 0) Reg.MAC_WAKE_STATUS 7 2 m) Reg.MAC_WAKE_STATUS 9 8 p
  let d := wr64 d Reg.MAC_WAKE_TIME d.air.now
  (List.range 32).foldl (fun d w => ww d (Reg.MAC_WAKE_FRAME w) (ofBytes (slice frame (4 * w) 4))) d

/-! ## Commit (R321, R322, R328) -/

/-- The FEC codes that MODE and SPEED allow a port (R321). -/
def fecOk (mode speed fec : Nat) : Bool :=
  match mode with
  | 4 => fec = 0 || fec = 2
  | 5 => (match speed with | 0 => decide (fec ≤ 1) | 1 => decide (fec ≤ 2) | 2 => decide (fec = 3) | _ => false)
  | _ => fec = 3

/-- A valid entry of a flow-table bank keeps to R328. -/
def flowOk (d : Dev) (g bank e : Nat) : Bool :=
  let w := flowWord d g bank e
  let w4 := w 4
  let w5 := w 5
  let w7 := w 7
  let iqw := bits w5 20 17
  let need := bits w7 15 8 + (if bit w4 29 then 4 else 1)
  !bit w4 28 ||
  (!bit (w 0) 15 && bits (w 0) 31 24 = 0 && bits w4 31 30 = 0 && bits w5 31 21 = 0 && bits (w 6) 31 26 = 0 && bits w7 31 16 = 0
    && decide (bits w4 27 26 ≠ 3) && decide (bits w5 10 0 ≤ 1535) && decide (iqw = 0 ∨ 8 ≤ iqw) && !(bit w5 16 && iqw = 0)
    && ((!bit w5 15 && decide (bits w4 27 26 ≠ 2)) || decide (need ≤ bits w7 7 0))
    && rbit d (Reg.MAC_BR_CFG g (bits w4 25 20)) 0)

/-- Whether a register word lies in the control block of port group g. -/
def inGroup (g a : Nat) : Bool := decide (Reg.MACG_CTRL g ≤ a ∧ a < Reg.MACG_CTRL g + 0x100000)

def winOk (d : Dev) (g w : Nat) : Bool :=
  let t := rw d (Reg.MAC_WIN_TIM g w)
  decide (sx 16 (bits t 15 0) < sx 16 (bits t 31 16))

/-- The checks of port group g over the values that a commit would leave; `old` is the device before (R322, R328). -/
def macCheck (old d : Dev) (keys : List Nat) (g : Nat) : Bool :=
  if !keys.any (inGroup g) then true
  else
    let mode := macMode d g
    (List.range 4).all (fun i =>
      let c := rw d (Reg.MAC_CFG g i)
      decide (1518 ≤ bits c 18 5 ∧ bits c 18 5 ≤ 16000)
        && (modeLanes mode i = 0 || fecOk mode (bits c 2 1) (bits c 4 3)) && !(mode = 5 && bits c 2 1 = 3))
    && (List.range 16).all (fun w => !keys.contains (Reg.MAC_WIN_TIM g w) || winOk d g w)
    && (ftSel old g = ftSel d g
      || ((List.range 2048).all (flowOk d g (ftSel d g)) && (List.range 16).all (winOk d g)))

/-- What the MACs do once a commit has applied the words at `keys`: a link whose MODE, SPEED or FEC changes drops (R322). -/
def macApplied (old d : Dev) (keys : List Nat) : Dev :=
  (List.range 48).foldl (fun d m =>
    let g := m / 4
    if keys.any (inGroup g) && (decide (macMode old g ≠ macMode d g) || decide (bits (macCfg old m) 4 1 ≠ bits (macCfg d m) 4 1)) then
      linkDown d m false
    else d) d

/-! ## Meanings -/

def execFrameReceive (m : Nat) (frame : List Byte) (pcsErr : Bool) (corr uncorr per : Nat) (s : State) : Out :=
  run s (fun d => frameReceive d m frame pcsErr corr uncorr per)
def execFrameDelivery (m : Nat) (s : State) : Out := run s (fun d => if macPort d m then frameDelivery d m else d)
def execRxHoldExpiry (m : Nat) (s : State) : Out := run s (fun d => if macPort d m then rxHoldExpiry d m else d)
def execMacBrProd (g r : Nat) (v : Word) (s : State) : Out :=
  run s (fun d => if g < 12 ∧ r < 64 ∧ grpPresent d.grade g then brProd d g r v.toNat else d)
def execBrEnable (g r : Nat) (v : Word) (s : State) : Out :=
  run s (fun d => if g < 12 ∧ r < 64 ∧ grpPresent d.grade g ∧ v.toNat.testBit 0 then (brCfg d g r v.toNat).getD d else d)
def execFrameLaunch (m : Nat) (s : State) : Out := run s (fun d => frameLaunch d m)
def execFrameSent (m : Nat) (s : State) : Out := run s (fun d => frameSent d m)
def execMacTxtsPop (m : Nat) (s : State) : Out := run s (fun d => if m < 48 then txtsPop d m else d)
def execMacLinkUp (m : Nat) (s : State) : Out := run s (fun d => linkUp d m)
def execMacLinkDown (m : Nat) (los : Bool) (s : State) : Out := run s (fun d => linkDown d m los)

end Sys2Proof.Machine
end

