-- ==== Sys2Proof/Machine/Links.lean ====
section
/-! DEFINITION. Fabric links (file 13): replays and heartbeats (R362), failed segments, ports and torus links (R363, R364),
route epochs (R365 to R368), return to service, time-outs of requests (R369, R370) and interrupt packets (R356). -/

namespace Sys2Proof.Machine

/-! ## Failures (R362 to R364) -/

/-- IDs of a kind: 0 segments, 1 stop ports, 2 torus links. -/
def linkIds (kind : Nat) : Nat := match kind with | 0 => 60 | 1 => 56 | 2 => 112 | _ => 0

/-- The register word and bit that mark a link failed. -/
def failBit (kind id : Nat) : Nat × Nat :=
  match kind with
  | 0 => (Reg.FAB_SEG_FAIL + 4 * (id / 32), id % 32)
  | 1 => (Reg.FAB_STOP_FAIL + 4 * (id / 32), id % 32)
  | _ => (Reg.FAB_TOR_FAIL (id / 32), id % 32)

def isFailed (d : Dev) (kind id : Nat) : Bool := rbit d (failBit kind id).1 (failBit kind id).2

/-- The failed set as the repair map keeps it. -/
def keepFailed (d : Dev) : Dev :=
  let tor := (List.range 4).foldl (fun n w => n + rw d (Reg.FAB_TOR_FAIL w) * 2 ^ (32 * w)) 0
  { d with srl := { d.srl with repair := { d.srl.repair with
    seg := rd64 d Reg.FAB_SEG_FAIL, port := rd64 d Reg.FAB_STOP_FAIL, tor := tor } } }

/-- Packets on a ring route that is no longer free go on over the torus (R364). -/
def reroute (d : Dev) : Dev :=
  let moves (p : Pkt) : Bool := !p.tor && decide (p.src ≠ p.dst) && !ringFree d p.src p.dst
  let n := (d.fab.flight.filter moves).length
  cnt { d with fab := { d.fab with flight := d.fab.flight.map (fun p => if moves p then sealed { p with tor := true } else p) } }
    Reg.FAB_CNT_TORUS n

/-- An epoch change begins, or is queued behind the one in progress (R366, R368). -/
def startEpoch (d : Dev) : Dev :=
  if rbit d Reg.FAB_STATUS 0 then sbit d Reg.FAB_STATUS 2
  else { (sbit d Reg.FAB_STATUS 0) with fab := { d.fab with step := 1, tables := 0, flipped := 0 } }

/-- FAB_LOG of a failure. -/
def logFail (d : Dev) (kind id cause : Nat) : Dev :=
  ww (ww d Reg.FAB_LOG (id + kind * 2 ^ 7 + cause * 2 ^ 9)) (Reg.FAB_LOG + 4) (tickNow d % 2 ^ 32)

/-- Mark a segment, port or link failed (R362, R436). -/
def markFailed (d : Dev) (kind id cause : Nat) : Dev :=
  let d := sbit (sbit d (failBit kind id).1 (failBit kind id).2) Reg.FAB_STATUS 3
  let d := keepFailed (logFail d kind id cause)
  let d := if kind = 2 then reason d 4 id else reason d 3 (kind * 64 + id)
  let d := if rbit d Reg.FAB_CTRL 1 then hlkSrc d 4 else d
  startEpoch (reroute d)

/-- A failure that hardware finds: marked with AUTO = 1, else only logged (R362). -/
def foundFail (d : Dev) (kind id cause : Nat) : Dev :=
  if isFailed d kind id then d
  else if rbit d Reg.FAB_CTRL 0 then markFailed d kind id cause
  else logFail d kind id cause

/-- LINK_REPLAY: one replay on a segment (kind 0) or torus link (kind 2); `spent` when the beat has now been replayed 4
times without success. -/
def linkReplay (d : Dev) (kind id : Nat) (spent : Bool) : Dev :=
  if (kind ≠ 0 ∧ kind ≠ 2) ∨ linkIds kind ≤ id then d
  else
    let d := cnt d Reg.FAB_CNT_REPLAY 1
    let d := { d with fab := { d.fab with rts := d.fab.rts.map (fun t : RtsTest => if t.kind = kind ∧ t.id = id then { t with bad := true } else t) } }
    let w := d.fab.age / 1966080
    let d := if d.fab.winAt = w then d else { d with fab := { d.fab with winAt := w, replays := [] } }
    let k := kind * 128 + id
    let d := { d with fab := { d.fab with replays := mmod 0 d.fab.replays k (· + 1) } }
    if spent then foundFail d kind id 2
    else if fget d Reg.FAB_CTRL 15 8 < mget 0 d.fab.replays k then foundFail d kind id 1
    else d

/-- HEARTBEAT_LOSS of a segment, torus link, or both segments of a stop together (kind 1). -/
def heartbeatLoss (d : Dev) (kind id : Nat) : Dev := if linkIds kind ≤ id then d else foundFail d kind id 3

/-! ## FAB_RECONF (R368) -/

/-- A write of FAB_RECONF. -/
def fabReconf (d : Dev) (v : Nat) : Dev :=
  let id := bits v 6 0
  let kind := bits v 8 7
  if linkIds kind ≤ id then sbit d Reg.FAB_STATUS 7
  else if bit v 9 then
    { d with fab := { d.fab with rts := d.fab.rts.filter (fun t => t.kind ≠ kind || t.id ≠ id) ++ [⟨kind, id, d.fab.age, false⟩] } }
  else if isFailed d kind id then sbit d Reg.FAB_STATUS 7
  else markFailed d kind id 4

/-- RTS_TEST_END: the 1 ms of test traffic has passed. -/
def rtsTestEnd (d : Dev) (kind id : Nat) : Dev :=
  match d.fab.rts.find? (fun t => t.kind = kind ∧ t.id = id) with
  | none => d
  | some t =>
    if !usPassed d t.since 1000 then d
    else
      let d := { d with fab := { d.fab with rts := d.fab.rts.filter (fun t => t.kind ≠ kind || t.id ≠ id) } }
      if t.bad then sbit d Reg.FAB_STATUS 8
      else startEpoch (keepFailed (cbit d (failBit kind id).1 (failBit kind id).2))

/-! ## Route epochs (R365 to R367) -/

/-- A STOP packet with the route tables of the other epoch reaches stop `s`, which replies. -/
def stopTable (d : Dev) (s : Nat) : Dev :=
  if d.fab.step = 1 ∧ s < 56 then { d with fab := { d.fab with tables := d.fab.tables ||| 2 ^ s } } else d

/-- EPOCH_FLIP: every stop has replied to the new tables. -/
def epochFlip (d : Dev) : Dev :=
  if d.fab.step = 1 ∧ d.fab.tables = 2 ^ 56 - 1 then { d with fab := { d.fab with step := 2 } } else d

/-- FLIP reaches stop `s`, which from then injects with the new epoch. -/
def stopFlip (d : Dev) (s : Nat) : Dev :=
  if d.fab.step = 2 ∧ s < 56 then { d with fab := { d.fab with flipped := d.fab.flipped ||| 2 ^ s } } else d

/-- EPOCH_RELEASE: every stop has flipped and no packet of the old epoch remains. -/
def epochRelease (d : Dev) : Dev :=
  let e := b2n (rbit d Reg.FAB_STATUS 1)
  let old (p : Pkt) : Bool := decide (p.src ≠ p.dst) && decide (p.epoch = e)
  if d.fab.step = 2 ∧ d.fab.flipped = 2 ^ 56 - 1 ∧ !d.fab.flight.any old ∧ !d.fab.circ.any (fun x => old x.2) then
    let d := cnt { d with fab := { d.fab with step := 0, tables := 0, flipped := 0 } } Reg.FAB_CNT_EPOCH 1
    let d := cbit (fset d Reg.FAB_STATUS 1 1 (1 - e)) Reg.FAB_STATUS 0
    if rbit d Reg.FAB_STATUS 2 then startEpoch (cbit d Reg.FAB_STATUS 2) else d
  else d

/-! ## Time-outs (R370) -/

/-- REQUEST_TIMEOUT: an outstanding request has expired by its own BORN; its stop gives the answer TIMEOUT. -/
def requestTimeout (d : Dev) (who : Who) (tag : Nat) : Dev :=
  match d.fab.outst.find? (fun p => p.who = who ∧ p.tag = tag) with
  | none => d
  | some p =>
    if !expired d p then d
    else
      let a := match tmoClass p with | 0 => Reg.FAB_CNT_TMO_REQ | 1 => Reg.FAB_CNT_TMO_PST | _ => Reg.FAB_CNT_TMO_CTL
      let d := { d with fab := { d.fab with outst := eraseFirst (fun q => decide (q = p)) d.fab.outst } }
      ownStop (sbit (cnt d a 1) Reg.FAB_STATUS 6) p 5

/-! ## Interrupts (R356, R372) -/

/-- IRQ: the oldest interrupt packet to core `c` arrives. A cluster that is off holds it and wakes. -/
def irqArrives (d : Dev) (c : Nat) : Dev :=
  match d.owed.find? (fun n => match n with | .irq k _ => k = c | _ => false) with
  | some (.irq k i) =>
    let d := { d with owed := eraseFirst (fun n => decide (n = .irq k i)) d.owed }
    if domState d (c / 8) = 1 then raiseIrq (drainAbandoned d (c / 8)) c i
    else if domServes d (c / 8) then raiseIrq d c i
    else
      let p : Pkt := sealed {
        who := .unit stopHK, vn := 3, prio := 0, epoch := b2n (rbit d Reg.FAB_STATUS 1), tor := false, src := stopHK,
        dst := cluStop (c / 8), port := 0, op := 0x22, tag := i, lenm1 := 0, born := bornNow d, addr := ccr c 0x01C,
        status := 0, hcrc := 0, data := [], mask := [], syn := [] }
      wakeRequest (cnt { d with fab := { d.fab with heldPk := d.fab.heldPk ++ [(c / 8, p)] } } Reg.FAB_CNT_WAKEHOLD 1) (c / 8) true
  | _ => d

/-! ## Meanings -/

def execLinkReplay (kind id : Nat) (spent : Bool) (s : State) : Out := run s (fun d => linkReplay d kind id spent)
def execHeartbeatLoss (kind id : Nat) (s : State) : Out := run s (fun d => heartbeatLoss d kind id)
/-- FAB_RECONF with ACTION = 0. -/
def execReconfMarkFailed (kind id : Nat) (s : State) : Out := run s (fun d => fabReconf d (id % 128 + kind % 4 * 128))
/-- FAB_RECONF with ACTION = 1. -/
def execReconfReturn (kind id : Nat) (s : State) : Out := run s (fun d => fabReconf d (id % 128 + kind % 4 * 128 + 512))
def execRtsTestEnd (kind id : Nat) (s : State) : Out := run s (fun d => rtsTestEnd d kind id)
def execEpochFlip (s : State) : Out := run s epochFlip
def execEpochRelease (s : State) : Out := run s epochRelease
def execIrq (c : Nat) (s : State) : Out := run s (fun d => if corePresent d.grade c then irqArrives d c else d)

end Sys2Proof.Machine
end

