-- ==== Sys2Proof/Machine/Teasel.lean ====
section
/-! DEFINITION. The integrity unit's own operations and Teasel (file 14): refetches (R385 to R387), scrub passes (R394, R395),
test operations (R396) and the temperature of an HBM stack (R379). -/

namespace Sys2Proof.Machine

/-! ## Refetch -/

/-- The rules of a refetch window (R385). -/
def rfwOk (d : Dev) (w : Nat) : Bool :=
  let dst := rd64 d (Reg.MEM_RFW_DST w) / 64 * 64
  let src := rd64 d (Reg.MEM_RFW_SRC w) / 64 * 64
  let n := rw d (Reg.MEM_RFW_LEN w)
  n % 64 = 0 && (decide (dst + n ≤ src) || decide (src + n ≤ dst)) && inRegion dst n && inRegion src n

/-- A write of the configuration word of window w. -/
def rfwCfg (d : Dev) (w v : Nat) : Dev :=
  let a := Reg.MEM_RFW_CFG w
  if !bit v 0 then cbit d a 0 else if rfwOk d w then sbit d a 0 else sbit (cbit d a 0) Reg.MEM_STATUS 4

/-- REFETCH_COMPLETE: the refetch of line `la` reads its source and writes the line, or the line goes on at row 5 (R386);
the partial writes that waited for it are then merged (R391). -/
def refetchComplete (d : Dev) (la : Nat) : Dev :=
  match d.integ.refs.find? (fun r => r.dst = la) with
  | none => d
  | some r =>
    let (d, x) := decideLine d r.src false
    let d := { d with integ := { d.integ with refs := d.integ.refs.filter (fun q => q.dst ≠ la) } }
    let d := match x with
      | .ok =>
        let d := { d with mem := setBytes d.mem la (getBytes d.mem r.src 64),
                          integ := { d.integ with uncorr := d.integ.uncorr.filter (· ≠ la), correctable := d.integ.correctable.filter (· ≠ la) } }
        noteOutcome (cnt (setSyn d la 0) Reg.MEM_CNT_REFETCH 1) la 1 r.syn r.scrub
      | _ => (lineageOrPoison d la r.syn r.scrub).1
    passSettle (r.waits.foldl (fun d w => putPart d (la, w)) d)

/-! ## Teasel (R394, R395) -/

/-- A write of GO. -/
def teaselGo (d : Dev) : Dev :=
  if rbit d Reg.TSL_STATUS 0 then sbit d Reg.TSL_STATUS 2
  else
    let a := rd64 d Reg.TSL_START / 64 * 64
    let e := rd64 d Reg.TSL_END / 64 * 64
    let d := { d with integ := { d.integ with pass := { Pass.reset with running := true, stop := e, mode := fget d Reg.TSL_CTRL 0 0 } } }
    if a < e ∧ inRegion a (e - a) ∧ presentRange d.grade a (e - a) then sbit (wr64 d Reg.TSL_POS a) Reg.TSL_STATUS 0
    else endPass d 3

/-- A write of ABORT: the pass ends after the line being read. -/
def teaselAbort (d : Dev) : Dev :=
  if rbit d Reg.TSL_STATUS 0 then { d with integ := { d.integ with pass := { d.integ.pass with abort := true } } } else d

/-- The pass has dealt with the line at POS. -/
def passNext (d : Dev) : Dev :=
  let p := d.integ.pass
  let a := rd64 d Reg.TSL_POS + 64
  passSettle (wr64 d Reg.TSL_POS (if p.abort then max a p.stop else a))

def setPass (d : Dev) (p : Pass) : Dev := { d with integ := { d.integ with pass := p } }

/-- TEASEL_LINE_READ: Teasel reads the line at POS. A line that is no memory is skipped; a failing line waits while all 64
refetches are under way. -/
def teaselLineRead (d : Dev) : Dev :=
  let p := d.integ.pass
  let la := rd64 d Reg.TSL_POS
  if !p.running then d
  else if p.stop ≤ la then passSettle d
  else if !addrServes d la || inTest d la || (memKind d.grade la).isNone then
    passNext (setPass d { p with skipped := (p.skipped + 1) % 2 ^ 32 })
  else
    let syn := synOf d la
    let unc := d.integ.uncorr.contains la
    let count (d : Dev) : Dev := setPass d { d.integ.pass with lines := d.integ.pass.lines + 1 }
    if syn = POISON ∧ !unc then
      let d := (decideLine d la true).1
      passNext (count (setPass d { d.integ.pass with foundPoison := d.integ.pass.foundPoison + 1 }))
    else if p.mode = 1 then
      let d := if isHbm d.grade la then cnt d (Reg.HBM_CNT_RD (hbmCtl la)) 1 else d
      if syn = 0 ∧ !unc then passNext (count d)
      else
        let d := if isHbm d.grade la ∧ syn ≠ 0 then cnt d (Reg.HBM_CNT_LINEERR (hbmCtl la)) 1 else d
        passNext (count (setPass d { passError d.integ.pass la with unrepaired := d.integ.pass.unrepaired + 1 }))
    else
      let (d', x) := decideLine d la true
      let known := d.integ.refs.any (fun r => r.dst = la)
        || d.tsy.reports.any (fun r => match r with | .lineage l _ => l = la | _ => false)
      let begun := decide (d'.integ.refs.length ≠ d.integ.refs.length) || decide (d'.tsy.reports.length ≠ d.tsy.reports.length)
      if x = .wait ∧ !known ∧ !begun then d else passNext (count d')

/-! ## Test operations (R396) -/

/-- The action of a test operation on line `la`. -/
def testAct (d : Dev) (op la : Nat) : Dev :=
  let chk := storedCheck d la
  let clear (d : Dev) : Dev := { d with integ := { d.integ with
    uncorr := d.integ.uncorr.filter (· ≠ la), correctable := d.integ.correctable.filter (· ≠ la) } }
  match op with
  | 1 =>
    let d := (List.range 16).foldl (fun d w => ww d (Reg.MEM_TEST_DATA w) (getNum d.mem (la + 4 * w) 4)) d
    fset d Reg.MEM_TEST_CHK 31 16 chk
  | 2 =>
    let bs := (List.range 16).flatMap (fun w => toBytes 4 (rw d (Reg.MEM_TEST_DATA w)))
    let d := clear { d with mem := setBytes d.mem la bs }
    setSyn d la (lineCrc bs ^^^ chk)
  | _ => setSyn (clear d) la (lineCrc (getBytes d.mem la 64) ^^^ fget d Reg.MEM_TEST_CHK 15 0)

/-- The operation under way acts once its line is neither being refetched nor in the recompute table, and its domain serves. -/
def testTry (d : Dev) : Dev :=
  let la := d.integ.testAddr
  if d.integ.testOp = 0 ∨ d.integ.testOp = 4 then d
  else if !addrServes d la then (match domainOf la with | some p => wakeRequest d p true | none => d)
  else if d.integ.refs.any (fun r => r.dst = la) ∨ d.integ.recs.any (fun r => r.line = la) then d
  else
    let d := testAct d d.integ.testOp la
    { d with integ := { d.integ with testOp := 4 } }

/-- A write of MEM_TEST_OP. -/
def testOp (d : Dev) (op : Nat) : Dev :=
  let la := rd64 d Reg.MEM_TEST_ADDR / 64 * 64
  if op = 0 then d
  else if !inTest d la || (memKind d.grade la).isNone || rbit d Reg.MEM_TEST_STAT 0 then sbit d Reg.MEM_TEST_STAT 1
  else testTry (sbit { d with integ := { d.integ with testOp := op, testAddr := la } } Reg.MEM_TEST_STAT 0)

/-- TEST_OP_DONE: an operation that has acted completes and clears BUSY. -/
def testOpDone (d : Dev) : Dev :=
  let d := testTry d
  if d.integ.testOp = 4 then cbit { d with integ := { d.integ with testOp := 0 } } Reg.MEM_TEST_STAT 0 else d

/-- HBM_HOT: the temperature of stack c, and HOT while it exceeds 85 °C (R379). -/
def hbmHot (d : Dev) (c : Nat) (t : Byte) : Dev :=
  fset (ww d (Reg.HBM_TEMP c) t.toNat) (Reg.HBM_STATUS c) 1 1 (b2n (decide (85 < t.toInt)))

/-! ## Meanings -/

def execRefetchComplete (la : Nat) (s : State) : Out := run s (fun d => refetchComplete d la)
def execTeaselGo (s : State) : Out := run s teaselGo
def execTeaselAbort (s : State) : Out := run s teaselAbort
def execTeaselLineRead (s : State) : Out := run s teaselLineRead
/-- MEM_TEST_OP with OP 1. -/
def execReadRaw (s : State) : Out := run s (fun d => testOp d 1)
/-- MEM_TEST_OP with OP 2. -/
def execWriteData (s : State) : Out := run s (fun d => testOp d 2)
/-- MEM_TEST_OP with OP 3. -/
def execWriteChk (s : State) : Out := run s (fun d => testOp d 3)
def execTestOpDone (s : State) : Out := run s testOpDone
/-- A write of 1 to MEM_RFW_CFG w. -/
def execRefetchWindowEnable (w : Nat) (s : State) : Out := run s (fun d => if w < 64 then rfwCfg d w 1 else d)
def execHbmHot (c : Nat) (t : Byte) (s : State) : Out := run s (fun d => if c < 2 then hbmHot d c t else d)

end Sys2Proof.Machine
end

