-- ==== Sys2Proof/Machine/HostLink.lean ====
section
/-! DEFINITION. The host link (file 15): modules and link state (R400, R401, R416), host requests and their order (R402 to
R405, R411), coherent regions and the directory (R406 to R410), vectors (R413) and the reset of the host side (R417). -/

namespace Sys2Proof.Machine

/-! ## Regions and holdings (R406 to R408) -/

/-- The bounds of coherent region r. -/
def cohRange (d : Dev) (r : Nat) : Nat × Nat :=
  let b := rd64 d (Reg.HLK_COH_BASE r) / 0x200000 * 0x200000
  (b, b + rw d (Reg.HLK_COH_LEN r) * 0x200000)

/-- Whether a line lies in an enabled region. -/
def inCoh (d : Dev) (la : Nat) : Bool :=
  (List.range 16).any (fun r => rbit d (Reg.HLK_COH_CFG r) 0 && decide ((cohRange d r).1 ≤ la ∧ la < (cohRange d r).2))

/-- A write of 1 to EN of region r. -/
def cohEnable (d : Dev) (r : Nat) : Dev :=
  let a := Reg.HLK_COH_CFG r
  let (b, e) := cohRange d r
  if rbit d a 0 then d
  else if b = e ∨ hbmSize d.grade < e ∨ (List.range 16).any (fun q =>
      q ≠ r && rbit d (Reg.HLK_COH_CFG q) 0 && decide (b < (cohRange d q).2) && decide ((cohRange d q).1 < e)) then
    sbit d Reg.HLK_STATUS 8
  else sbit d a 0

/-- The lines of a region that the host holds. -/
def heldIn (d : Dev) (r : Nat) : List Nat :=
  (d.hlk.dir.map (·.1)).filter (fun la => decide ((cohRange d r).1 ≤ la ∧ la < (cohRange d r).2))

/-- The flush of every flushing region goes on with its lowest held line (R406). -/
def flushNext (d : Dev) : Dev :=
  (List.range 16).foldl (fun d r =>
    if rbit d (Reg.HLK_COH_CFG r) 1 then
      match heldIn d r with
      | [] => d
      | x :: xs => snoopInv d (xs.foldl min x)
    else d) d

/-- A write of 0 to EN of region r. -/
def cohDisable (d : Dev) (r : Nat) : Dev :=
  let a := Reg.HLK_COH_CFG r
  if rbit d a 0 then flushNext (sbit d a 1) else d

/-- FLUSH_DONE: the last held line of the region has been snooped. -/
def flushDone (d : Dev) (r : Nat) : Dev :=
  let a := Reg.HLK_COH_CFG r
  let busy := d.hlk.snoops.any (fun x => decide ((cohRange d r).1 ≤ x.line ∧ x.line < (cohRange d r).2))
  if rbit d a 1 ∧ (heldIn d r).isEmpty ∧ !busy then cbit (cbit d a 0) a 1 else d

/-! ## Host requests (R404, R407, R411) -/

/-- An operation of the host writes. -/
def HReq.writes (r : HReq) : Bool := decide (r.opc = 2) || decide (r.opc = 5)
/-- The fabric operation of a request. -/
def HReq.op (r : HReq) : Nat :=
  if r.writes then (if 0x4000000000 ≤ r.addr ∧ r.addr < 0x4004000000 then 0x20 else 0x02) else 0x01

/-- A request must wait for requests of the same core: for one to the same 256-byte block that could be overtaken, and, if
it reads, for writes to the same stop (R411). -/
def hostBlocked (d : Dev) (earlier : List HReq) (r : HReq) : Bool :=
  let out := d.fab.outst.filter (fun p => decide (p.who = .host r.core))
  earlier.any (fun e => decide (e.core = r.core) && decide (e.addr / 256 = r.addr / 256))
    || out.any (fun p => decide (p.addr / 256 = r.addr / 256) && decide (p.op ≠ r.op))
    || (!r.writes && (out.any (fun p => decide (p.op ≠ 0x01) && decide (p.dst = stopOf r.addr))
      || earlier.any (fun e => e.writes && decide (e.core = r.core) && decide (stopOf e.addr = stopOf r.addr))))

/-- Issue a request into the fabric as a packet of the host link stop (R404). -/
def hostIssue (d : Dev) (r : HReq) : Dev :=
  let (d, t) := sendReq d (.host r.core) r.op r.addr r.len (fget d Reg.HLK_CTRL 2 1) r.data r.mask []
  { d with hlk := { d.hlk with issued := d.hlk.issued ++ [(t, r.core, r.tag)] } }

/-- RDC and RDX of a line of an enabled region (R407, R408); false where the request must wait. -/
def hostGrant (d : Dev) (r : HReq) : Dev × Bool :=
  let la := r.addr
  if cohBusy d la then (d, false)
  else
    let set_ := Config.dirSet la % 65536
    let same := (d.hlk.dir.map (·.1)).filter (fun x => decide (Config.dirSet x % 65536 = set_))
    if dirState d la = 0 ∧ 16 ≤ same.length then
      let v := same.headD 0
      if cohBusy d v then (d, false) else (cnt (sendSnoop d v true) Reg.HLK_CNT_DIREVICT 1, false)
    else
      match decideStored d la false with
      | (d, .wait) => (d, false)
      | (d, .poison) => (toHost d (.rdata r.core r.tag 3 0 []), true)
      | (d, .recompute) => (toHost d (.rdata r.core r.tag 4 0 []), true)
      | (d, .ok) =>
        let st := if r.opc = 4 then 2 else 1
        (toHost (grantDir d la st) (.rdata r.core r.tag 0 st (getBytes d.mem la 64)), true)

/-- Serve one request; false where it must wait. -/
def hostServe (d : Dev) (r : HReq) : Dev × Bool :=
  match r.opc with
  | 3 => if inCoh d r.addr then hostGrant d r else (hostIssue d r, true)
  | 4 => if inCoh d r.addr then hostGrant d r else (hostIssue d r, true)
  | 5 =>
    if isHbm d.grade r.addr then
      let st := dirState d r.addr
      let d := (lineParts r.addr r.data []).foldl putPart d
      let d := if st = 2 then d else cnt d Reg.HLK_CNT_WBSTRAY 1
      (toHost (setDir d r.addr 0) (.wack r.core r.tag 0), true)
    else (hostIssue d r, true)
  | 6 => (toHost (setDir d r.addr 0) (.wack r.core r.tag 0), true)
  | _ => (hostIssue d r, true)

/-- Serve every request that need not wait, in arrival order; `kept` are those that stay. -/
def serveReqs (d : Dev) (kept : List HReq) : List HReq → Dev
  | [] => { d with hlk := { d.hlk with reqs := kept } }
  | r :: rs =>
    if hostBlocked d kept r then serveReqs d (kept ++ [r]) rs
    else match hostServe d r with
      | (d, true) => serveReqs d kept rs
      | (d, false) => serveReqs d (kept ++ [r]) rs

/-- Look again at the requests that wait. -/
def hostRetry (d : Dev) : Dev := flushNext (serveReqs d [] d.hlk.reqs)

/-- A packet that R403 discards. -/
def badPacket (d : Dev) : Dev := sbit (cnt d Reg.HLK_CNT_BADPKT 1) Reg.HLK_STATUS 7

/-- A request is well formed (R402). -/
def HReq.ok (r : HReq) : Bool :=
  decide (r.core < 16) && decide (1 ≤ r.len ∧ r.len ≤ 256) && decide (r.addr % 256 + r.len ≤ 256) && decide (r.addr < 2 ^ 48)
    && (decide (r.opc ≤ 2) || (decide (r.len = 64) && decide (r.addr % 64 = 0)))
    && (!r.writes || decide (r.data.length = r.len))

/-- A request of the host arrives. -/
def hostRequest (d : Dev) (opc core tag addr len : Nat) (data : List Byte) (mask : List Bool) : Dev :=
  if !linkServes d then d
  else
    let r : HReq := { opc := opc, core := core, tag := tag % 2 ^ 16, addr := addr, len := len, data := data, mask := mask, born := bornNow d }
    if r.ok then hostRetry { d with hlk := { d.hlk with reqs := d.hlk.reqs ++ [r] } } else badPacket d

/-- A fabric answer for a host core: it goes to the host with its request's tag, and its payload only with STATUS 0 (R404, R416). -/
def hostAnswer (d : Dev) (ftag op status : Nat) (data : List Byte) : Dev :=
  match d.hlk.issued.find? (fun e => e.1 = ftag) with
  | none => d
  | some (_, core, tag) =>
    let d := { d with hlk := { d.hlk with issued := eraseFirst (fun e => decide (e.1 = ftag)) d.hlk.issued } }
    let d := if status = 5 then cnt d Reg.HLK_CNT_TMO 1 else d
    hostRetry (toHost d (if op = 0x10 then .rdata core tag status 0 (if status = 0 then data else []) else .wack core tag status))

/-- A coherent read that has waited at the host link longer than its time-out is answered TIMEOUT (R386, R416). -/
def hostExpire (d : Dev) (core tag : Nat) : Dev :=
  match d.hlk.reqs.find? (fun r => r.core = core ∧ r.tag = tag ∧ !r.writes) with
  | none => d
  | some r =>
    if fget d Reg.FAB_TMO 7 0 < (d.fab.age / 1024 + 256 - r.born) % 256 then
      let d := { d with hlk := { d.hlk with reqs := eraseFirst (fun q => decide (q = r)) d.hlk.reqs } }
      toHost (cnt (cnt (sbit d Reg.FAB_STATUS 6) Reg.FAB_CNT_TMO_REQ 1) Reg.HLK_CNT_TMO 1) (.rdata core tag 5 0 [])
    else d

/-! ## Answers to snoops (R407, R409, R410) -/

/-- SNPACK. -/
def snpAck (d : Dev) (tag : Nat) : Dev :=
  if !linkServes d then d
  else match d.hlk.snoops.find? (fun x => x.tag = tag) with
  | none => cnt d Reg.HLK_CNT_LATE 1
  | some x => hostRetry (snoopOver d x.line (if x.inv || dirState d x.line = 0 then 0 else 1))

/-- SNPDATA: the line is written to HBM with a fresh check. -/
def snpData (d : Dev) (tag : Nat) (data : List Byte) : Dev :=
  if !linkServes d then d
  else match d.hlk.snoops.find? (fun x => x.tag = tag) with
  | none => cnt d Reg.HLK_CNT_LATE 1
  | some x =>
    let d := (lineParts x.line (data.take 64) []).foldl putPart d
    hostRetry (snoopOver d x.line (if x.inv || dirState d x.line = 0 then 0 else 1))

/-- SNOOP_TIMEOUT. -/
def snoopTimeout (d : Dev) (tag : Nat) : Dev :=
  match d.hlk.snoops.find? (fun x => x.tag = tag) with
  | none => d
  | some x =>
    if !usPassed d x.sent (max 1 (fget d Reg.HLK_CTRL 15 8)) then d
    else
      let d := if dirState d x.line = 2 then poison d x.line else d
      let d := hlkSrc (sbit (cnt d Reg.HLK_CNT_SNPTMO 1) Reg.HLK_STATUS 6) 6
      hostRetry (snoopOver d x.line 0)

/-! ## Vectors (R413) -/

/-- A write of HLK_VEC_RAISE. -/
def vecRaise (d : Dev) (v : Nat) : Dev := (List.range 64).foldl (fun d i => if v.testBit i then raiseVec d i else d) d

/-- Announce the pending vectors of a set of bits. -/
def announce (d : Dev) (set_ : Nat) : Dev :=
  (List.range 64).foldl (fun d i => if set_.testBit i && (rd64 d Reg.HLK_VEC_PEND).testBit i then sendInt d i else d) d

/-- A write of HLK_VEC_EN: vectors now enabled and pending are announced. -/
def vecEn (d : Dev) (v : Nat) : Dev :=
  let old := rd64 d Reg.HLK_VEC_EN
  announce (wr64 d Reg.HLK_VEC_EN (v % 2 ^ 64)) (v % 2 ^ 64 - (v % 2 ^ 64 &&& old))

/-! ## The link (R400, R401, R416, R417) -/

/-- Set the width of a module, and with it the state of the link. -/
def setModule (d : Dev) (m w : Nat) : Dev :=
  let d := fset (fset d (Reg.HLK_MOD m) 1 0 w) Reg.HLK_STATUS (2 + m) (2 + m) (b2n (decide (w ≠ 0)))
  let up := b2n (rbit d Reg.HLK_STATUS 2) + b2n (rbit d Reg.HLK_STATUS 3)
  fset d Reg.HLK_STATUS 1 0 (if up = 2 then 3 else if up = 1 then 2 else 0)

/-- A module narrows to x32, or goes down. Its packets are re-sent on the other module and none is lost. -/
def moduleFail (d : Dev) (m : Nat) (down : Bool) : Dev :=
  let w := fget d (Reg.HLK_MOD m) 1 0
  if w = 0 ∨ (w = 1 ∧ !down) then d
  else
    let d := sbit (setModule d m (if down then 0 else 1)) Reg.HLK_STATUS 4
    let d := if linkServes d then d else sbit { d with hlk := { d.hlk with downAt := some d.fab.age } } Reg.HLK_STATUS 5
    hlkSrc (reason d 5 m) 6

/-- HOST_LINK_DOWN: both modules go down. -/
def hostLinkDown (d : Dev) : Dev := moduleFail (moduleFail d 0 true) 1 true

/-- The host link controller has started and is not held down (R437, R452). -/
def linkReleased (d : Dev) : Bool := (decide (7 ≤ fget d Reg.SRL_BOOT 3 0) || rbit d Reg.SRL_BOOT 10) && !d.pwr.listen

/-- HOST_LINK_UP: training ends with a width (0 down, 1 x32, 2 x64) and repaired lanes for each module. -/
def hostLinkUp (d : Dev) (w0 w1 r0 r1 : Nat) : Dev :=
  if linkReleased d && !linkServes d && decide (w0 ≤ 2 ∧ w1 ≤ 2 ∧ 0 < w0 + w1) then
    let d := setModule (setModule d 0 w0) 1 w1
    let d := fset (fset d (Reg.HLK_MOD 0) 7 2 (r0 % 64)) (Reg.HLK_MOD 1) 7 2 (r1 % 64)
    announce { d with hlk := { d.hlk with downAt := none } } (2 ^ 64 - 1)
  else d

/-- The reset of the host side (R417). -/
def hostReset (d : Dev) : Dev :=
  let isHost (w : Who) : Bool := match w with | .host _ => true | _ => false
  let d := voidIf d (fun w _ => isHost w)
  let d := { d with hlk := { d.hlk with reqs := [], issued := [] },
                    fab := { d.fab with outst := d.fab.outst.filter (fun p => !isHost p.who) } }
  let own := (d.hlk.dir.filter (fun e => e.2 = 2)).map (·.1)
  let d := cnt (own.foldl poison d) Reg.HLK_CNT_HOSTLOST own.length
  let d := { d with hlk := { d.hlk with dir := [] } }
  let d := d.hlk.snoops.foldl (fun d x => snoopOver d x.line 0) d
  hlkSrc (sbit d Reg.HLK_STATUS 9) 6

/-- HOST_DOWN_TIMEOUT: the link has stayed down for 100 µs. -/
def hostDownTimeout (d : Dev) : Dev :=
  match d.hlk.downAt with
  | some t => if usPassed d t 100 then hostReset { d with hlk := { d.hlk with downAt := none } } else d
  | none => d

/-- ADAPTER_REPLAY on a module. -/
def adapterReplay (d : Dev) (m : Nat) : Dev :=
  if fget d (Reg.HLK_MOD m) 1 0 ≠ 0 then cnt d Reg.HLK_CNT_RETRY 1 else d

/-- Whether a header is one that R403 discards: an unknown OPC, or a zero field that is not 0. -/
def badHeader (h : Nat) : Bool :=
  !([1, 2, 3, 4, 5, 6, 0x30, 0x31].contains (bits h 7 0)) || decide (bits h 15 12 ≠ 0) || decide (bits h 31 24 ≠ 0)
    || decide (bits h 63 48 ≠ 0) || decide (bits h 127 112 ≠ 0)

/-! ## Meanings -/

def execRd (core tag addr len : Nat) (s : State) : Out := run s (fun d => hostRequest d 1 core tag addr len [] [])
def execWr (core tag addr : Nat) (data : List Byte) (mask : List Bool) (s : State) : Out :=
  run s (fun d => hostRequest d 2 core tag addr data.length data mask)
def execRdc (core tag addr : Nat) (s : State) : Out := run s (fun d => hostRequest d 3 core tag addr 64 [] [])
def execRdx (core tag addr : Nat) (s : State) : Out := run s (fun d => hostRequest d 4 core tag addr 64 [] [])
def execWb (core tag addr : Nat) (data : List Byte) (s : State) : Out := run s (fun d => hostRequest d 5 core tag addr 64 data [])
def execCln (core tag addr : Nat) (s : State) : Out := run s (fun d => hostRequest d 6 core tag addr 64 [] [])
def execSnpack (tag : Nat) (s : State) : Out := run s (fun d => snpAck d tag)
def execSnpdata (tag : Nat) (data : List Byte) (s : State) : Out := run s (fun d => snpData d tag data)
def execHostBadPacket (h : BitVec 128) (s : State) : Out :=
  run s (fun d => if linkServes d && badHeader h.toNat then badPacket d else d)
def execSnoopTimeout (tag : Nat) (s : State) : Out := run s (fun d => snoopTimeout d tag)
def execCohEnable (r : Nat) (s : State) : Out := run s (fun d => if r < 16 then cohEnable d r else d)
def execCohDisable (r : Nat) (s : State) : Out := run s (fun d => if r < 16 then cohDisable d r else d)
def execFlushDone (r : Nat) (s : State) : Out := run s (fun d => if r < 16 then flushDone d r else d)
def execHlkVecRaise (v : BitVec 64) (s : State) : Out := run s (fun d => vecRaise d v.toNat)
def execHlkVecEn (v : BitVec 64) (s : State) : Out := run s (fun d => vecEn d v.toNat)
def execModuleFail (m : Nat) (down : Bool) (s : State) : Out := run s (fun d => if m < 2 then moduleFail d m down else d)
def execHostLinkDown (s : State) : Out := run s hostLinkDown
def execHostLinkUp (w0 w1 r0 r1 : Nat) (s : State) : Out := run s (fun d => hostLinkUp d w0 w1 r0 r1)
def execHostReset (s : State) : Out := run s hostReset
def execHostDownTimeout (s : State) : Out := run s hostDownTimeout
def execAdapterReplay (m : Nat) (s : State) : Out := run s (fun d => if m < 2 then adapterReplay d m else d)
def execRequestTimeout (who : Who) (tag : Nat) (s : State) : Out := run s (fun d =>
  if d.fab.outst.any (fun p => p.who = who ∧ p.tag = tag) then requestTimeout d who tag
  else match who with
    | .host h => hostExpire d h tag
    | _ => d)

end Sys2Proof.Machine
end

