-- ==== Sys2Proof/Machine/Power.lean ====
section
/-! DEFINITION. Power, monitors and degraded operation (file 16): domains going off and waking (R373, R374, R422 to R425),
frequency and throttling (R426, R427), monitors (R428 to R431), core failures and spares (R432 to R434), and entry to the
Listen state (R437). Readings of sensors are operands of the rows. -/

namespace Sys2Proof.Machine

def coresOf (n : Nat) : List Nat := (List.range 8).map (fun k => 8 * n + k)
def isOut (d : Dev) (c : Nat) : Bool := rbit d (Reg.MON_CORE_OUT (c / 32)) (c % 32)

/-! ## Power-down (R373, R423, R425) -/

/-- DRAIN begins; a cluster's cores are drained. -/
def drainDom (d : Dev) (p : Nat) : Dev :=
  let d := if p < 32 then (coresOf p).foldl (fun d c => sbit d (Reg.TSY_CORE_CTL c) 0) d else d
  { (setDom d p 1) with pwr := { d.pwr with drainAt := mput 0 d.pwr.drainAt p d.fab.age } }

/-- A power-down request. -/
def powerDown (d : Dev) (p : Nat) : Dev :=
  if !domPresent d.grade p then sbit d Reg.PWR_STATUS 3
  else match domState d p with
    | 0 => drainDom d p
    | 4 => { d with pwr := { d.pwr with downHeld := d.pwr.downHeld.filter (· ≠ p) ++ [p] } }
    | 5 => { d with pwr := { d.pwr with downHeld := d.pwr.downHeld.filter (· ≠ p) ++ [p] } }
    | _ => d

/-- REQ = 2: DRAIN is cleared on every core of a cluster that is not OUT, and a wake is requested. -/
def powerWake (d : Dev) (p : Nat) : Dev :=
  if !domPresent d.grade p then sbit d Reg.PWR_STATUS 3
  else
    let d := if p < 32 then (coresOf p).foldl (fun d c => if isOut d c then d else cbit d (Reg.TSY_CORE_CTL c) 0) d else d
    wakeRequest d p false

/-- A write of PWR_DOM_CTL p. -/
def domCtl (d : Dev) (p v : Nat) : Dev :=
  match v % 4 with
  | 1 => powerDown d p
  | 2 => powerWake d p
  | _ => d

/-- A domain holds no work, no request outstanding, no refetch and no substitution (R373, R391, R434). -/
def domQuiet (d : Dev) (p : Nat) : Bool :=
  let refs := d.integ.refs.any (fun r => decide (domainOf r.dst = some p))
  !refs && (
    if p < 32 then
      (coresOf p).all (fun c =>
        !(coreOf d c).running && decide ((tcoreOf d c).st ≠ 1) && decide ((coreOf d c).rmt = []) && decide ((dmaOf d c).q = []))
      && !d.fab.outst.any (fun x => decide (x.src = cluStop p))
      && !d.pwr.subst.any (fun s => s.started && decide (s.core / 8 = p))
    else if p < 39 then
      (List.range 8).all (fun kind => engDomain kind ≠ p || (List.range 24).all (fun j => (engOf d (engKey kind j)).job.isNone))
    else
      (List.range 8).all (fun i =>
        let x := macOf d (8 * (p - 39) + i)
        x.rx.isEmpty && x.heads.isEmpty && x.on.isNone))

/-- POINT_OF_NO_RETURN. -/
def pointOfNoReturn (d : Dev) (p : Nat) : Dev := if domState d p = 1 ∧ domQuiet d p then setDom d p 2 else d

/-- The memories of a domain lose their contents: every byte then reads 0 with a good check (a choice of the model). -/
def domForget (d : Dev) (p : Nat) : Dev :=
  let away (a : Nat) : Bool := decide (memKind d.grade (a % 2 ^ 48) = none) || decide (domainOf (a % 2 ^ 48) ≠ some p)
  { d with mem := d.mem.filter (fun c => away c.1), syn := d.syn.filter (fun c => away c.1) }

/-- The domain is OFF; packets held for it, or a wake asked for in NPR, request a wake at once. -/
def domOff (d : Dev) (p : Nat) : Dev :=
  let d := domForget (cnt (setDom d p 3) Reg.PWR_CNT_OFF 1) p
  let held := d.fab.heldPk.any (fun x => x.1 = p)
  match d.pwr.wakeNpr.find? (fun x => x.1 = p) with
  | some x =>
    wakeRequest { d with pwr := { d.pwr with wakeNpr := d.pwr.wakeNpr.filter (fun y => y.1 ≠ p) } } p (x.2 || held)
  | none => if held then wakeRequest d p true else d

/-- POWER_OFF. -/
def powerOff (d : Dev) (p : Nat) : Dev := if domState d p = 2 then domOff d p else d

/-- A domain is forced off in the entry to Listen: the work in it is lost, and a substitution restarts later (R434, R437). -/
def forceOff (d : Dev) (p : Nat) : Dev :=
  let d :=
    if p < 32 then
      let d := (coresOf p).foldl (fun d c => setDma (coreReset d c) c Dma.reset) d
      { d with pwr := { d.pwr with subst := d.pwr.subst.map (fun s => if s.core / 8 = p then { s with started := false } else s) } }
    else if p < 39 then
      { d with eng := d.eng.map (fun e => if engDomain (e.1 / 32) = p then (e.1, { e.2 with job := none }) else e) }
    else
      { d with mac := d.mac.map (fun e => if e.1 / 8 = p - 39 then (e.1, { e.2 with rx := [], heads := [], on := none }) else e) }
  domOff d p

/-- POWER_DOWN_ABANDON: DRAIN has lasted 40 µs. In the entry to Listen the domain is forced off, whether its DRAIN was
abandoned or aborted. -/
def powerDownAbandon (d : Dev) (p : Nat) : Dev :=
  let late := usPassed d (mget 0 d.pwr.drainAt p) 40
  if d.pwr.listenAt.isSome ∧ domServes d p ∧ late then forceOff d p
  else if domState d p = 1 ∧ late then drainAbandoned d p
  else d

/-! ## Wake admission (R424) -/

/-- Domains that ramp. -/
def waking (d : Dev) : Nat := ((List.range 45).filter (fun p => domState d p = 5)).length

/-- WAKE_ADMIT. -/
def wakeAdmit (d : Dev) : Dev :=
  match d.pwr.wakeq with
  | [] => d
  | p :: ps =>
    if waking d < 2 then
      { (setDom d p 5) with pwr := { d.pwr with wakeq := ps, rampAt := mput 0 d.pwr.rampAt p d.fab.age } }
    else d

/-- The domain serves: its cores are at the values of R79, a waiting substitution starts, and a power-down held for it
begins. Its stop then delivers the held packets. -/
def wakeServe (d : Dev) (p : Nat) : Dev :=
  let d := cnt (setDom d p 0) Reg.PWR_CNT_WAKE 1
  let d := if rbit d (Reg.PWR_DOM_STATE p) 3 then cnt d Reg.PWR_CNT_WAKEPKT 1 else d
  let d := if p < 32 then (coresOf p).foldl coreReset d else d
  substStart d p

/-! ## Throttling (R426, R427) -/

/-- THROTTLE is raised on every core of a cluster whose clock runs. -/
def raiseThrottle (d : Dev) (n : Nat) : Dev :=
  if cluPresent d.grade n && domServes d n then (coresOf n).foldl (fun d c => if isOut d c then d else raiseIrq d c 7) d else d

/-- The envelope in W: the smallest of 345 W, 36 A × VIN and CAP (R427). -/
def envelope (d : Dev) : Nat :=
  min (min 345 (fget d Reg.PWR_CTRL 16 8)) (36 * fget d Reg.PWR_VIN 15 0 / 1000)

/-- Input measured by PWR: VIN in mV and power in 0.1 W; it exceeds the envelope, or has stayed below 95 % of it since. -/
def measure (d : Dev) (vin pin : Nat) : Dev :=
  let d := ww d Reg.PWR_VIN (vin % 2 ^ 16 + pin % 2 ^ 16 * 2 ^ 16)
  let e := envelope d
  let d := ww d Reg.PWR_ENV e
  let p := pin % 2 ^ 16
  { d with pwr := { d.pwr with
    overPwr := d.pwr.overPwr || decide (10 * e < p),
    overSince := if p * 100 < e * 950 then (match d.pwr.overSince with | some t => some t | none => some d.fab.age) else none } }

/-- Causes that have stayed below their release level for 1 ms are over. -/
def releaseCauses (d : Dev) : Dev :=
  let past (s : Option Nat) : Bool := match s with | some t => usPassed d t 1000 | none => false
  { d with pwr := { d.pwr with hot := d.pwr.hot && !past d.pwr.hotSince, overPwr := d.pwr.overPwr && !past d.pwr.overSince } }

/-- THROTTLE_START: a cause is in force and throttling begins; with AUTO_THROT = 0 the cause is only reported. -/
def throttleStart (d : Dev) (vin pin : Nat) : Dev :=
  let d := measure d vin pin
  let d := fset d Reg.PWR_STATUS 1 1 (b2n d.pwr.overPwr)
  if (d.pwr.hot || d.pwr.overPwr) && rbit d Reg.PWR_CTRL 0 && !rbit d Reg.PWR_STATUS 0 then
    let d := cnt (sbit d Reg.PWR_STATUS 0) Reg.PWR_CNT_THROT 1
    (List.range 32).foldl raiseThrottle { d with pwr := { d.pwr with thrAt := d.fab.age } }
  else d

/-- THROTTLE_END: no cause is in force any longer. -/
def throttleEnd (d : Dev) (vin pin : Nat) : Dev :=
  let d := releaseCauses (measure d vin pin)
  let d := fset d Reg.PWR_STATUS 1 1 (b2n d.pwr.overPwr)
  if rbit d Reg.PWR_STATUS 0 && !d.pwr.hot && !d.pwr.overPwr then
    let d := cnt (cbit d Reg.PWR_STATUS 0) Reg.PWR_CNT_THROT_US ((d.fab.age - d.pwr.thrAt) * 1000 / 1966080)
    (List.range 32).foldl raiseThrottle d
  else d

/-! ## Temperatures (R428, R429) -/

/-- Signed °C of an 8-bit reading. -/
def degC (x : Nat) : Int := sx 8 (x % 256)

/-- Thermal trip: PA_EN inactive, the event logged, every clock stopped, THERMTRIP_N low (R429). -/
def thermalTrip (d : Dev) (t reading : Nat) : Dev :=
  let d := logEvent d (4 * 256 + Config.evLow 4 1 % 256) t reading 0
  paUpdateAll { d with pkg := { d.pkg with tripped := true } }

/-- TEMP_SAMPLE: the readings of the 48 sensors are compared with the thresholds. -/
def tempSample (d : Dev) (temps : List Byte) : Dev :=
  let rd (t : Nat) : Nat := (at0 0 temps t).toNat
  let warn := degC (fget d Reg.MON_CTRL 15 8)
  let throt := degC (fget d Reg.MON_CTRL 23 16)
  let trip := min 125 (degC (fget d Reg.MON_CTRL 31 24))
  let hyst : Int := fget d Reg.MON_CTRL2 3 0
  let ts := List.range 48
  let cross := (ts.filter (fun t => decide (warn ≤ degC (rd t)) && decide (degC (mget 0 d.pwr.temp t) < warn))).length
  let d := cnt { d with pwr := { d.pwr with
    temp := ts.foldl (fun m t => mput 0 m t (rd t)) d.pwr.temp,
    peak := ts.foldl (fun m t => if degC (mget 0 m t) < degC (rd t) then mput 0 m t (rd t) else m) d.pwr.peak } } Reg.MON_CNT_WARN cross
  let d := if ts.any (fun t => decide (warn ≤ degC (rd t))) then
      let d := sbit d Reg.MON_STATUS 0
      if rbit d Reg.MON_ALERT 0 then d else alert d 0
    else d
  let hot := ts.any (fun t => decide (throt ≤ degC (rd t)))
  let cool := ts.all (fun t => decide (degC (rd t) < throt - hyst))
  let d := fset d Reg.MON_STATUS 1 1 (b2n hot)
  let since := if cool then (match d.pwr.hotSince with | some s => some s | none => some d.fab.age) else none
  let d := { d with pwr := { d.pwr with hot := d.pwr.hot || hot, hotSince := since } }
  match ts.find? (fun t => decide (trip ≤ degC (rd t))) with
  | some t => thermalTrip d t (rd t)
  | none => d

/-! ## Droop, result set, references (R421, R428, R430) -/

/-- DROOP on voltage monitor v. -/
def droop (d : Dev) : Dev := alert (sbit (cnt d Reg.MON_CNT_DROOP 1) Reg.MON_STATUS 2) 3

/-- MON_RESULT: the result set of the 1 ms boundary that has passed. `volts` are the words of MON_RES_VOLT (latest and
minimum), `procs` those of MON_RES_PROC (count and margin). -/
def monResult (d : Dev) (volts procs : List Word) : Dev :=
  let b := d.air.now / 1966080 * 1966080
  if b ≤ d.pwr.setAt then d
  else
    let first := fget d Reg.MON_RES0 31 16 = 0 && !rbit d Reg.MON_RES0 0
    let least := fget d Reg.MON_CTRL2 19 12
    let margin (p : Nat) : Nat := bits (at0 0 procs p).toNat 23 16
    let aged := (List.range 32).filter (fun p => decide (margin p ≤ least)
      && (first || !rbit d Reg.MON_REPLACE 6 || decide (least < fget d (Reg.MON_RES_PROC p) 23 16)))
    let d := (List.range 48).foldl (fun d t => ww d (Reg.MON_RES_TEMP t) (mget 0 d.pwr.temp t + mget 0 d.pwr.peak t * 2 ^ 8)) d
    let d := (List.range 64).foldl (fun d v => ww d (Reg.MON_RES_VOLT v) (at0 0 volts v).toNat) d
    let d := (List.range 32).foldl (fun d p => ww d (Reg.MON_RES_PROC p) ((at0 0 procs p).toNat % 2 ^ 24)) d
    let d := wr64 (ww d Reg.MON_RES0 (1 + (fget d Reg.MON_RES0 31 16 + 1) % 65536 * 2 ^ 16)) Reg.MON_RES_TIME b
    let d := { d with pwr := { d.pwr with peak := d.pwr.temp, setAt := b } }
    aged.foldl (fun d p => reason (sbit d Reg.MON_STATUS 3) 6 p) d

/-- MON_RES_ACK (R415). -/
def monAck (d : Dev) (v : Nat) : Dev := if v % 65536 = fget d Reg.MON_RES0 31 16 then cbit d Reg.MON_RES0 0 else d

/-- The causes of ALERT_N that are still present (R431). -/
def alertPresent (d : Dev) : Nat :=
  let warn := degC (fget d Reg.MON_CTRL 15 8)
  b2n ((List.range 48).any (fun t => decide (warn ≤ degC (mget 0 d.pwr.temp t)))) + 2 * b2n (decide (fget d Reg.AIR_STATUS 1 0 = 3))
    + 32 * b2n d.pwr.refLost

/-! ## Core failures and spares (R432 to R434) -/

/-- A write of GO to MON_FAULT. -/
def monFault (d : Dev) (c : Nat) : Dev :=
  if !corePresent d.grade c then d
  else if isOut d c then logFam d 3 2 c 0
  else { d with pwr := { d.pwr with failq := d.pwr.failq.filter (· ≠ c) ++ [c] } }

/-- The spare of cluster n serves no index and did not fail its self-test (kept in the repair map under 256 + n). -/
def spareFree (d : Dev) (n : Nat) : Bool := !rbit d Reg.MON_SPARE n && decide (mget 0 d.srl.repair.cores (256 + n) = 0)

/-- CLU_MAP shows which physical core serves logical core c, 0xF while it is OUT (R109). -/
def setPhys (d : Dev) (c p : Nat) : Dev := fset d (Reg.CLU_MAP (c / 8)) (4 * (c % 8) + 3) (4 * (c % 8)) p

/-- CORE_FAIL: step 1 of R433 for a core that has failed; substitution starts if the cluster's spare is free. -/
def coreFail (d : Dev) (c : Nat) : Dev :=
  if !d.pwr.failq.contains c then d
  else
    let d := { d with pwr := { d.pwr with failq := d.pwr.failq.filter (· ≠ c) } }
    if isOut d c then logFam d 3 2 c 0
    else
      let n := c / 8
      let d := cnt (sbit d (Reg.MON_CORE_OUT (c / 32)) (c % 32)) Reg.MON_CNT_FAULT 1
      let d := coreReset (endForced d c 0xFC) c
      let d := setPhys (setTcore d c { tcoreOf d c with st := 3 }) c 0xF
      if spareFree d n && !d.pwr.subst.any (fun s => decide (s.core / 8 = n)) then
        { d with pwr := { d.pwr with subst := d.pwr.subst ++ [⟨c, decide (domState d n = 0)⟩] } }
      else
        reason { d with srl := { d.srl with repair := { d.srl.repair with cores := mput 0 d.srl.repair.cores c 2 } } } 2 c

/-- Refetch the lines of a range that an enabled refetch window covers, as step 2 of R433 does. -/
def refetchRange (d : Dev) (a n : Nat) : Dev :=
  (linesOf a n).foldl (fun d la =>
    match refetchSrc d la with
    | none => d
    | some src =>
      match decideLine d src false with
      | (d, .ok) => setSyn { d with mem := setBytes d.mem la (getBytes d.mem src 64) } la 0
      | (d, _) => (lineageOrPoison d la (synOf d la) false).1) d

/-- SPARE_SUBSTITUTE: the spare has been reset, cleared and refetched, and takes the logical index (R433). -/
def spareSubstitute (d : Dev) (c : Nat) : Dev :=
  if d.pwr.subst.any (fun s => decide (s.core = c) && s.started) && domServes d (c / 8) then
    let inCore (a : Nat) : Bool := decide (coreOfLine d.grade a = some c)
    let d := coreReset d c
    let d := { d with mem := d.mem.filter (fun x => !inCore x.1), syn := d.syn.filter (fun x => !inCore x.1) }
    let d := refetchRange (refetchRange d (ldmBase c) 0x40000) (pmBase c) 0x10000
    let d := setPhys (sbit (cbit d (Reg.MON_CORE_OUT (c / 32)) (c % 32)) Reg.MON_SPARE (c / 8)) c 8
    let d := setTcore d c { tcoreOf d c with st := 0 }
    reason { d with pwr := { d.pwr with subst := d.pwr.subst.filter (fun s => s.core ≠ c) },
                    srl := { d.srl with repair := { d.srl.repair with cores := mput 0 d.srl.repair.cores c 1 } } } 1 c
  else d

/-- Logical cores in service (R418). -/
def activeCores (d : Dev) : Nat :=
  ((List.range 256).filter (fun c => corePresent d.grade c && (!isOut d c || d.pwr.subst.any (fun s => decide (s.core = c))))).length

/-! ## Entry to the Listen state (R437) -/

/-- The cause that refuses an entry, 0 if none. -/
def listenCause (d : Dev) : Nat :=
  if !listenOk d then 1
  else if comState d ≠ 0 ∨ snState d ≠ 0 then 2
  else if rbit d Reg.TXS_CTRL 0 ∨ (List.range 32).any (fun n => fget d (Reg.TXS_PAEN_CFG n) 7 6 = 2) then 3
  else 0

/-- LISTEN_ENTRY: a write of GO to PWR_LISTEN. -/
def listenEntry (d : Dev) : Dev :=
  if d.pwr.listenAt.isSome ∨ d.pwr.listen then d
  else
    let c := listenCause d
    if c ≠ 0 then fset (sbit (sbit d Reg.PWR_STATUS 2) Reg.MAC_WAKE_STATUS 1) Reg.PWR_STATUS 7 4 c
    else
      let d := { (cbit d Reg.TSY_CTRL 0) with pwr := { d.pwr with listenAt := some d.fab.age } }
      (List.range 45).foldl (fun d p => if domPresent d.grade p then powerDown d p else d) d

/-- LISTEN_ALL_OFF: every domain is OFF; the host link is held down and the Listen state is entered. -/
def listenAllOff (d : Dev) : Dev :=
  if d.pwr.listenAt.isSome ∧ (List.range 45).all (fun p => domState d p = 3) then
    let d := setModule (setModule d 0 0) 1 0
    let d := sbit { d with hlk := { d.hlk with downAt := some d.fab.age } } Reg.HLK_STATUS 5
    paUpdateAll (logFam { d with pwr := { d.pwr with listenAt := none, listen := true } } 7 1 0 0)
  else d

/-! ## Commit (R426) -/

/-- FREQ codes 6 and 7 fail the commit. -/
def freqCheck (d : Dev) (keys : List Nat) (n : Nat) : Bool :=
  !keys.contains (Reg.PWR_CLU_FREQ n) || decide (fget d (Reg.PWR_CLU_FREQ n) 2 0 ≤ 5)

/-- A change of a cluster's clock raises THROTTLE on its running cores. -/
def freqApplied (old d : Dev) (keys : List Nat) : Dev :=
  (List.range 32).foldl (fun d n =>
    if keys.contains (Reg.PWR_CLU_FREQ n) ∧ fget old (Reg.PWR_CLU_FREQ n) 2 0 ≠ fget d (Reg.PWR_CLU_FREQ n) 2 0 then raiseThrottle d n
    else d) d

/-! ## Meanings -/

def execPowerDown (p : Nat) (s : State) : Out := run s (fun d => powerDown d p)
def execPointOfNoReturn (p : Nat) (s : State) : Out := run s (fun d => pointOfNoReturn d p)
def execPowerOff (p : Nat) (s : State) : Out := run s (fun d => powerOff d p)
def execPowerDownAbandon (p : Nat) (s : State) : Out := run s (fun d => powerDownAbandon d p)
def execWake (p : Nat) (s : State) : Out := run s (fun d => powerWake d p)
def execWakeAdmit (s : State) : Out := run s wakeAdmit
/-- The fixed trip of R429 acts during a freeze too, and then writes no log record (R456). -/
def frozenTrip (d : Dev) (temps : List Byte) : Dev :=
  if d.pkg.powered && temps.any (fun t => decide (125 ≤ degC t.toNat)) then { d with pkg := { d.pkg with tripped := true } } else d

def execTempSample (temps : List Byte) (s : State) : Out :=
  if s.dev.cpn.frozen then runAlways s (fun d => frozenTrip d temps) else run s (fun d => tempSample d temps)
def execThrottleStart (vin pin : Nat) (s : State) : Out := run s (fun d => throttleStart d vin pin)
def execThrottleEnd (vin pin : Nat) (s : State) : Out := run s (fun d => throttleEnd d vin pin)
def execDroop (v : Nat) (s : State) : Out := run s (fun d => if v < 64 then droop d else d)
def execMonResult (volts procs : List Word) (s : State) : Out := run s (fun d => monResult d volts procs)
def execMonResAck (v : Word) (s : State) : Out := run s (fun d => monAck d v.toNat)
def execMonFault (c : Nat) (s : State) : Out := run s (fun d => monFault d c)
def execCoreFail (c : Nat) (s : State) : Out := run s (fun d => coreFail d c)
def execSpareSubstitute (c : Nat) (s : State) : Out := run s (fun d => spareSubstitute d c)
def execListenEntry (s : State) : Out := run s listenEntry
def execListenAllOff (s : State) : Out := run s listenAllOff
/-- CLKREF_A is lost, or a PLL fed from it loses lock (R421). -/
def execRefclkLoss (s : State) : Out := run s (fun d => alert { d with pwr := { d.pwr with refLost := true } } 5)
def execRefclkReturn (s : State) : Out := run s (fun d => { d with pwr := { d.pwr with refLost := false } })

end Sys2Proof.Machine
end

