-- ==== Sys2Proof/Machine/Sorrel.lean ====
section
/-! DEFINITION. Sorrel (file 17): banks and which is valid and newer (R442, R443), the configuration payload (R444), the
operations persist, erase and firmware load (R445, R446), the load table (R447, R448), reset pins and start-up (R450 to
R452), the release by RUN or AUTORUN (R451), and a wake out of Listen (R350, R437). -/

namespace Sys2Proof.Machine

/-! ## Banks (R440, R442, R443) -/

/-- The first address of Sorrel's window. -/
def SRL_BASE : Nat := 0xF00000000000
/-- Bank i (0 A, 1 B) of a kind (1 configuration, 2 firmware), and its size. -/
def bankBase (kind i : Nat) : Nat := SRL_BASE + (if kind = 1 then i * 0x400000 else 0x800000 + i * 0x1000000)
def bankSize (kind : Nat) : Nat := if kind = 1 then 0x400000 else 0x1000000
/-- The factory image of a kind: the firmware half first. -/
def factoryBase (kind : Nat) : Nat := SRL_BASE + 0x2800000 + (if kind = 1 then 0x200000 else 0)

/-- The little-endian number in bytes [o, o + n) of an image. -/
def imgNum (bs : List Byte) (o n : Nat) : Nat := ofBytes (slice bs o n)
def imgLen (bs : List Byte) : Nat := imgNum bs 8 4
def imgPayload (bs : List Byte) : List Byte := slice bs 0x200 (imgLen bs)

/-- The bytes that a bank's signature covers: the header but SEQ up to 0x3F, and the payload. -/
def signedPart (bs : List Byte) : List Byte := slice bs 0 4 ++ slice bs 8 0x38 ++ imgPayload bs

/-- LEN of an image fits a bank of its kind. -/
def lenOk (bs : List Byte) (kind : Nat) : Bool :=
  decide (imgLen bs % 64 = 0) && decide (imgLen bs + 512 ≤ bankSize kind)

/-- The key slot may sign a bank of this kind, its fuse holds a hash, and the signature verifies. -/
def sigGood (f : Fuses) (bs : List Byte) (kind : Nat) : Bool :=
  let slot := bits (imgNum bs 0xC 4) 5 2
  let pub := slice bs 0x40 97
  let sig := slice bs 0xC0 96
  let msg := signedPart bs
  if kind = 1 then
    decide (slot = 15) && ((decide (pub = (List.range 97).map Config.devPub) && decide (sig = (List.range 96).map (Config.devSig msg)))
      || Config.sigOk 15 (pub ++ sig ++ msg))
  else decide (slot ≤ 3) && f.valid.testBit slot && !f.revoked.testBit slot && Config.sigOk slot (pub ++ sig ++ msg)

/-- MAGIC, KIND, CRC and signature of an image whose LEN fits. -/
def imageGood (f : Fuses) (bs : List Byte) (kind : Nat) : Bool :=
  decide (imgNum bs 0 4 = 0x4C524F53) && decide (bits (imgNum bs 0xC 4) 1 0 = kind) && decide (bits (imgNum bs 0xC 4) 31 6 = 0)
    && decide (imgNum bs 0x10 4 = ofBytes (fcsOf (imgPayload bs))) && sigGood f bs kind

/-- The bytes of the bank at `a`: its header, and its payload when LEN fits. -/
def bankBytes (d : Dev) (a kind : Nat) : List Byte :=
  let len := getNum d.mem (a + 8) 4
  getBytes d.mem a (512 + if len + 512 ≤ bankSize kind then len else 0)

/-- Whether the bank at `a` is valid. -/
def bankValid (d : Dev) (a kind : Nat) : Bool :=
  let bs := bankBytes d a kind
  decide (getNum d.mem a 4 = 0x4C524F53) && lenOk bs kind
    && (List.range (bs.length / 64)).all (fun i => decide (synOf d (a + 64 * i) ≠ POISON)) && imageGood d.srl.fuses bs kind

/-- SEQ of bank i if it is valid. -/
def bankSeq (d : Dev) (kind i : Nat) : Option Nat :=
  if bankValid d (bankBase kind i) kind then some (getNum d.mem (bankBase kind i + 4) 4) else none

/-- The newer valid bank of a kind and its SEQ (R443). -/
def newerBank (d : Dev) (kind : Nat) : Option (Nat × Nat) :=
  match bankSeq d kind 0, bankSeq d kind 1 with
  | some a, some b =>
    let x := (b + 2 ^ 32 - a % 2 ^ 32) % 2 ^ 32
    if 1 ≤ x ∧ x < 2 ^ 31 then some (1, b) else some (0, a)
  | some a, none => some (0, a)
  | none, some b => some (1, b)
  | none, none => none

/-- The bank that the next write of a kind goes to, and its SEQ. -/
def writeTarget (d : Dev) (kind : Nat) : Nat × Nat :=
  match newerBank d kind with
  | some (i, s) => (1 - i, (s + 1) % 2 ^ 32)
  | none => (0, 1)

/-! ## The configuration payload (R444) -/

/-- Every register row of the control blocks. -/
def allRows : List RegRow :=
  rowsAIR ++ rowsTSY ++ rowsQMG ++ rowsFAB ++ rowsPWR ++ rowsMON ++ rowsSRL ++ rowsTSL ++ rowsCPN ++ rowsYRW ++ rowsTXS
    ++ rowsFEN ++ rowsFFT ++ rowsMXE ++ rowsLDD ++ rowsENC ++ rowsTPD ++ rowsHLK ++ rowsHBM ++ rowsMEM ++ rowsMAC ++ rowsCLU

/-- The addresses that repetitions give from `a`. -/
def repAddrs : List (Nat × Nat) → Nat → List Nat
  | [], a => [a]
  | (n, stride) :: rs, a => (List.range n).flatMap (fun i => repAddrs rs (a + i * stride))

/-- The words of a row that hold a ret field. -/
def retWords (r : RegRow) : List Nat :=
  let os := (List.range (r.size / 4)).filter (fun i => decide (maskOf (·.ret) r.flds (4 * i) ≠ 0))
  (repAddrs r.reps r.base).flatMap (fun a => os.map (fun i => a + 4 * i))

/-- Consecutive words grouped, 65,535 at most in one group. -/
def wordRuns : List Nat → List (List Nat)
  | [] => []
  | a :: as =>
    match wordRuns as with
    | (b :: r) :: rs => if b = a + 4 ∧ r.length < 65534 then (a :: b :: r) :: rs else [a] :: (b :: r) :: rs
    | rs => [a] :: rs

/-- The mask of the ret fields of the word at `a`. -/
def retMask (a : Nat) : Nat :=
  match findReg a with | some (r, o) => maskOf (·.ret) r.flds (o / 4 * 4) | none => 0

/-- The value that a payload holds for the word at `a`: ret fields in effect, the others at their Reset value. -/
def retValue (d : Dev) (a : Nat) : Nat :=
  let m := retMask a
  (rw d a &&& m) ||| ((regReset a).toNat &&& (2 ^ 32 - 1 - m))

/-- One record: address, count, values, padded to 8 bytes. -/
def cfgRecord (d : Dev) (ws : List Nat) : List Byte :=
  toBytes 8 (ws.headD 0 % 2 ^ 48 + ws.length * 2 ^ 48) ++ ws.flatMap (fun a => toBytes 4 (retValue d a))
    ++ List.replicate (ws.length % 2 * 4) 0

/-- The configuration payload of the values in effect, padded with zeros to whole lines. -/
def cfgPayload (d : Dev) : List Byte :=
  let words := (allRows.flatMap retWords).foldl (fun l a => insertBy id a l) []
  let bs := (wordRuns words).flatMap (cfgRecord d)
  bs ++ List.replicate (up64 bs.length - bs.length) 0

/-- A bank image that the device key signs. -/
def cfgImage (seq : Nat) (payload : List Byte) : List Byte :=
  let head := toBytes 4 payload.length ++ toBytes 4 (1 + 15 * 4) ++ fcsOf payload ++ List.replicate 44 0
  let sig := Config.devSig (toBytes 4 0x4C524F53 ++ head ++ payload)
  toBytes 4 0x4C524F53 ++ toBytes 4 seq ++ head ++ (List.range 97).map Config.devPub ++ List.replicate 31 0
    ++ (List.range 96).map sig ++ List.replicate 224 0 ++ payload

/-! ## Operations (R443, R445, R446) -/

/-- The header's first line is written as zeros. -/
def zeroHeader (d : Dev) (a : Nat) : Dev := setSyn { d with mem := setBytes d.mem a (List.replicate 64 0) } a 0

/-- An operation begins: BUSY, and the bank becomes invalid (step 1 of R443). -/
def beginOp (d : Dev) (x : SrlOp) : Dev :=
  let d := sbit { d with srl := { d.srl with op := some x } } Reg.SRL_STATUS 0
  if x.kind = 3 then zeroHeader (zeroHeader d (bankBase 1 0)) (bankBase 1 1) else zeroHeader d x.base

/-- A persist of a payload begins. -/
def beginPersist (d : Dev) (payload : List Byte) : Dev :=
  let t := writeTarget d 1
  beginOp d ⟨2, bankBase 1 t.1, cfgImage t.2 payload⟩

/-- An operation ends: DONE and RESULT, the event log, source 7, and the persist that waits begins. -/
def endOp (d : Dev) (kind result : Nat) : Dev :=
  let d := cbit { d with srl := { d.srl with op := none } } Reg.SRL_STATUS 0
  let d := fset (sbit d Reg.SRL_STATUS 1) Reg.SRL_STATUS 7 4 result
  let d := if kind = 2 then cnt d Reg.SRL_CNT_PERSIST 1 else d
  let d := logFam d 6 kind 0 0
  let d := if rbit d Reg.SRL_CTRL 1 then hlkSrc d 7 else d
  match d.srl.wait with
  | some p => beginPersist (cbit { d with srl := { d.srl with wait := none } } Reg.SRL_STATUS 3) p
  | none => d

/-- A persist is requested, with its copy point now: it begins, or replaces the one that waits (R445). -/
def persist (d : Dev) : Dev :=
  let p := cfgPayload d
  if rbit d Reg.SRL_STATUS 0 then sbit { d with srl := { d.srl with wait := some p } } Reg.SRL_STATUS 3 else beginPersist d p

/-- A request that is refused while Sorrel is BUSY. -/
def srlBusy (d : Dev) : Dev := fset d Reg.SRL_STATUS 7 4 6

/-- ERASE_CFG. -/
def eraseCfg (d : Dev) : Dev := if rbit d Reg.SRL_STATUS 0 then srlBusy d else beginOp d ⟨3, bankBase 1 0, []⟩

/-- LOAD_FW: the image in HBM is checked, then its write begins. -/
def loadFw (d : Dev) : Dev :=
  if rbit d Reg.SRL_STATUS 0 then srlBusy d
  else
    let src := rd64 d Reg.SRL_SRC / 64 * 64
    let n := rw d Reg.SRL_LEN
    let hbm := decide (0 < n) && decide (src + n ≤ hbmSize d.grade)
    let (d, ans) := if hbm then testLines d (linesOf src n) else (d, .ok)
    let bs := getBytes d.mem src n
    if !hbm || decide (ans ≠ .ok) then endOp d 1 4
    else if n < 512 || !lenOk bs 2 || decide (imgLen bs + 512 ≠ n) then endOp d 1 3
    else if !imageGood d.srl.fuses bs 2 then endOp d 1 2
    else
      let t := writeTarget d 2
      beginOp d ⟨1, bankBase 2 t.1, slice bs 0 4 ++ toBytes 4 t.2 ++ bs.drop 8⟩

/-- A write of SRL_CMD. -/
def srlCmd (d : Dev) (op : Nat) : Dev :=
  match op % 4 with | 1 => loadFw d | 2 => persist d | 3 => eraseCfg d | _ => d

/-- SORREL_WRITE_DONE: steps 2 to 4 of R443. -/
def sorrelDone (d : Dev) : Dev :=
  match d.srl.op with
  | none => d
  | some x =>
    if x.kind = 3 then endOp d 3 1
    else
      let d := { d with mem := setBytes d.mem x.base x.image }
      let d := (linesOf x.base x.image.length).foldl (fun d la => setSyn d la 0) d
      endOp d x.kind (if bankValid d x.base (if x.kind = 1 then 2 else 1) then 1 else 5)

/-! ## The restore (R444, R451) -/

/-- The fields that the restore of the configuration writes: ret fields that software or a commit writes. What fault
management keeps comes back from the repair map instead (R436, R452 step 3). -/
def restMask (a : Nat) : Nat :=
  if a = Reg.MON_REASON_LAST ∨ a = Reg.MON_REASON_LAST + 4 then retMask a
  else match findReg a with
    | some (r, o) => maskOf (fun f => f.ret && (decide (f.acc = .rw) || decide (f.acc = .stg))) r.flds (o / 4 * 4)
    | none => 0

/-- One word of the configuration is written, to its value in effect and to its staged value. -/
def restWord (d : Dev) (a v : Nat) : Dev :=
  let m := restMask a
  ww d a ((rw d a &&& (2 ^ 32 - 1 - m)) ||| (v &&& m))

/-- The values of one record. -/
def restVals (d : Dev) (a : Nat) : List (List Byte) → Dev
  | [] => d
  | v :: vs => restVals (restWord d a (ofBytes v)) (a + 4) vs

/-- The records of a payload; `fuel` bounds their number. A count of 0 ends the sequence. -/
def restRecords : Nat → Dev → List Byte → List Nat → Dev × List Nat
  | 0, d, _, ks => (d, ks)
  | fuel + 1, d, bs, ks =>
    let h := ofBytes (bs.take 8)
    let n := h / 2 ^ 48
    if bs.length < 8 ∨ n = 0 then (d, ks)
    else
      let a := h % 2 ^ 48
      restRecords fuel (restVals d a (chunks 4 (slice bs 8 (4 * n)))) (bs.drop (8 + 8 * ((n + 1) / 2)))
        (ks ++ (List.range n).map (fun i => a + 4 * i))

/-- The configuration image in force, if start-up restores one. -/
def cfgSource (d : Dev) : Option Nat :=
  match fget d Reg.SRL_BOOT 7 6 with
  | 1 => some (bankBase 1 0) | 2 => some (bankBase 1 1) | 3 => some (factoryBase 1) | _ => none
def fwSource (d : Dev) : Option Nat :=
  match fget d Reg.SRL_BOOT 9 8 with
  | 1 => some (bankBase 2 0) | 2 => some (bankBase 2 1) | 3 => some (factoryBase 2) | _ => none

/-- The configuration is restored, and the queues with EN = 1 are created empty. -/
def restoreCfg (d : Dev) : Dev :=
  match cfgSource d with
  | none => d
  | some a =>
    let pay := getBytes d.mem (a + 0x200) (getNum d.mem (a + 8) 4)
    let old := d
    let (d, ks) := restRecords pay.length d pay []
    let b := d.air.now
    let d := yrwApplied (txsApplied old (fenApplied old d ks b) ks b) ks b
    let d := if airSrc d ≠ 0 ∧ pllState d = 0 then srcSelected d else d
    (List.range 16384).foldl (fun d q => if rbit d (Reg.QMG_QCFG q) 0 then queueCreate d q else d) d

/-! ## The load table (R447, R448) -/

/-- Number i of the item's target range lies inside its memory. -/
def itemOk (d : Dev) (pay it : List Byte) : Bool :=
  let ty := bits (imgNum it 0 4) 3 0
  let clu := imgNum it 4 4
  let cores := imgNum it 8 4
  let dofs := imgNum it 0xC 4
  let daddr := imgNum it 0x10 8
  let pofs := imgNum it 0x18 4
  let plen := imgNum it 0x1C 4
  decide (1 ≤ ty ∧ ty ≤ 3) && decide (imgNum it 0 4 / 16 = 0) && decide (ty ≠ 3 ∨ clu = 0) && decide (cores / 256 = 0)
    && decide (ty = 1 ∨ cores = 0) && decide (ty ≠ 3 ∨ dofs = 0) && decide (ty = 3 ∨ daddr = 0) && decide (daddr < 2 ^ 48)
    && decide (dofs % 64 = 0 ∧ daddr % 64 = 0 ∧ pofs % 64 = 0 ∧ plen % 64 = 0) && decide (pofs + plen ≤ pay.length)
    && (match ty with
        | 1 => decide (dofs + plen ≤ 0x10000)
        | 2 => decide (dofs + plen ≤ 0x100000)
        | _ => decide (daddr + plen ≤ hbmSize d.grade))

/-- The first failing check of a firmware payload: the item's index, or 0 for the directory. -/
def loadFault (d : Dev) (pay : List Byte) : Option Nat :=
  let n := bits (imgNum pay 4 4) 15 0
  let ofs := imgNum pay 8 4
  let len := imgNum pay 0xC 4
  if imgNum pay 0 4 ≠ 0x44465746 ∨ n = 0 ∨ 1024 < n ∨ bits (imgNum pay 4 4) 31 16 ≠ 0 ∨ pay.length < 0x40 + 32 * n
      ∨ ofs % 64 ≠ 0 ∨ pay.length < ofs + len ∨ (slice pay 0x14 0x2C).any (fun b => decide (b ≠ 0)) then some 0
  else (List.range n).find? (fun i => !itemOk d pay (slice pay (0x40 + 32 * i) 32))

/-- Write whole lines with good checks. -/
def putLoad (d : Dev) (a : Nat) (bs : List Byte) : Dev :=
  (linesOf a bs.length).foldl (fun d la => setSyn d la 0) { d with mem := setBytes d.mem a bs }

/-- One load-table item. -/
def loadItem (d : Dev) (pay it : List Byte) : Dev :=
  let ty := bits (imgNum it 0 4) 3 0
  let clu := imgNum it 4 4
  let cores := imgNum it 8 4
  let dofs := imgNum it 0xC 4
  let bs := slice pay (imgNum it 0x18 4) (imgNum it 0x1C 4)
  match ty with
  | 1 => (List.range 256).foldl (fun d c =>
      if clu.testBit (c / 8) && cores.testBit (c % 8) && corePresent d.grade c && !isOut d c then putLoad d (pmBase c + dofs) bs else d) d
  | 2 => (List.range 32).foldl (fun d n => if clu.testBit n && cluPresent d.grade n then putLoad d (cpmBase n + dofs) bs else d) d
  | _ => putLoad d (imgNum it 0x10 8) bs

/-- Apply the load table; the index of the item that fails a check. -/
def applyLoad (d : Dev) : Dev × Option Nat :=
  match fwSource d with
  | none => (d, none)
  | some a =>
    let pay := getBytes d.mem (a + 0x200) (getNum d.mem (a + 8) 4)
    match loadFault d pay with
    | some i => (d, some i)
    | none => ((List.range (bits (imgNum pay 4 4) 15 0)).foldl (fun d i => loadItem d pay (slice pay (0x40 + 32 * i) 32)) d, none)

/-! ## Reset (R450, R465, R476) -/

/-- What Sorrel and the fuses keep over any reset: the window's bytes, the event log's place, the repair map, the
calibration, and the fuses. A write under way leaves its bank invalid. -/
def keepSorrel (old d : Dev) : Dev :=
  let inS (a : Nat) : Bool := decide (SRL_BASE ≤ a ∧ a < 2 ^ 48)
  { d with
    grade := old.grade
    mem := old.mem.filter (fun c => inS c.1)
    syn := old.syn.filter (fun c => inS c.1)
    srl := { Srl.reset with logNum := old.srl.logNum, logAt := old.srl.logAt, repair := old.srl.repair, cal := old.srl.cal,
                            fuses := old.srl.fuses }
    answer := old.answer
    freeCtr := old.freeCtr }

/-- PORST_N rises: the whole package is at its reset values and start-up begins at step 1. -/
def porst (d : Dev) (bootsel : Nat) : Dev :=
  if d.pkg.powered then
    let x := keepSorrel d Dev.reset
    fset { x with srl := { x.srl with boot := bootsel % 4 } } Reg.SRL_BOOT 5 4 (bootsel % 4)
  else d

/-- Whether a control address keeps its word over RESET_N: AIR, MON, SRL, but for what start-up sets anew. -/
def keptReg (a : Nat) : Bool :=
  let i := (a - 0x3000000000) / 0x100000
  decide (0x3000000000 ≤ a) && (decide (i = 0) || decide (i = 5) || decide (i = 6)) && decide (a ≠ Reg.SRL_BOOT)

/-- The reset of RESET_N and of a wake: every unit but air time and its discipline, Sorrel, the fuses and the monitors;
start-up goes on from step 3. Commits and snapshots under way, and staged values, are lost. -/
def dieReset (d : Dev) (boot : Nat) : Dev :=
  let x := keepSorrel d Dev.reset
  let x := { x with
    regs := d.regs.filter (fun e => keptReg e.1)
    air := { Air.reset with now := d.air.now, phase := d.air.phase, synce := d.air.synce, ppsPresent := d.air.ppsPresent }
    fab := { Fab.reset with age := d.fab.age }
    pwr := { Pwr.reset with temp := d.pwr.temp, peak := d.pwr.peak, setAt := d.pwr.setAt, refLost := d.pwr.refLost,
                            hot := d.pwr.hot, hotSince := d.pwr.hotSince }
    srl := { x.srl with boot := boot }
    pkg := d.pkg
    cpn := { Cpn.reset with fails := d.cpn.fails, nonces := d.cpn.nonces } }
  let x := fset (fset x Reg.AIR_COMMIT_STATUS 1 0 0) Reg.AIR_SNAP_STATUS 1 0 0
  let x := cbit (cbit x Reg.SRL_STATUS 0) Reg.SRL_STATUS 3
  fset (fset x Reg.SRL_BOOT 3 0 2) Reg.SRL_BOOT 5 4 (fget d Reg.SRL_BOOT 5 4)

/-- RESET_N rises, with BOOTSEL sampled. After a freeze air time goes on from its value at F, in ACQUIRE if a source is
selected (R465). -/
def resetPin (d : Dev) (bootsel : Nat) : Dev :=
  if d.pkg.powered && !d.pkg.tripped then
    let x := fset (dieReset d (bootsel % 4)) Reg.SRL_BOOT 5 4 (bootsel % 4)
    if d.cpn.frozen && decide (airSrc x ≠ 0) then fset x Reg.AIR_STATUS 1 0 1 else x
  else d

/-- A wake out of Listen: the record is kept, and start-up runs from the restore as BOOTSEL 0b00 gives (R350, R437). -/
def wakeMatch (d : Dev) (m : Nat) (frame : List Byte) : Dev :=
  if d.pwr.listen then
    match wakes d m frame with
    | some p =>
      let x := recordWake (dieReset d 0) m p frame
      fset x Reg.MAC_WAKE_STATUS 1 1 (fget d Reg.MAC_WAKE_STATUS 1 1)
    | none => d
  else d

/-! ## Start-up (R452) -/

/-- Step 3: the repair map, the reasons that it holds, the calibration, and the choice of banks. -/
def bootBanks (d : Dev) (rmap cal : Bool) : Dev :=
  let d := fset d Reg.SRL_LOG_HEAD 16 0 d.srl.logAt
  let d := if rmap then d else sbit { d with srl := { d.srl with repair := Repair.reset } } Reg.SRL_BOOT 24
  let d := if cal then d else sbit { d with srl := { d.srl with cal := [] } } Reg.SRL_BOOT 25
  let r := d.srl.repair
  let d := r.cores.foldl (fun d e =>
    if 256 ≤ e.1 then d
    else if e.2 = 1 then sbit (sbit d Reg.MON_SPARE (e.1 / 8)) Reg.MON_REPLACE 1
    else sbit (sbit d (Reg.MON_CORE_OUT (e.1 / 32)) (e.1 % 32)) Reg.MON_REPLACE 2) d
  let d := if r.seg ≠ 0 ∨ r.port ≠ 0 then sbit d Reg.MON_REPLACE 3 else d
  let d := if r.tor ≠ 0 then sbit d Reg.MON_REPLACE 4 else d
  let d := (List.range 32).foldl (fun d i => if r.codes.testBit i then sbit d Reg.MON_REPLACE i else d) d
  let d := d.srl.cal.foldl (fun d e => ww d (Reg.YRW_CAL_CH e.1) e.2) d
  match d.srl.boot with
  | 0 =>
    let pick (d : Dev) (kind hi lo : Nat) : Dev :=
      match newerBank d kind with
      | some (i, s) =>
        let d := fset d Reg.SRL_BOOT hi lo (i + 1)
        if (bankSeq d kind (1 - i)).isNone then logEvent d (0x100 + (if kind = 1 then 2 else Config.evLow 1 2 % 256)) 0 s 0 else d
      | none => logFam (fset d Reg.SRL_BOOT hi lo 3) 1 (2 + kind) 0 0
    pick (pick d 1 7 6) 2 9 8
  | 1 => fset (fset d Reg.SRL_BOOT 7 6 3) Reg.SRL_BOOT 9 8 3
  | _ => d

/-- Step 4: the HBM holds zeros with good checks. -/
def bootHbm (d : Dev) : Dev :=
  { d with mem := d.mem.filter (fun c => decide (hbmSize d.grade ≤ c.1)), syn := d.syn.filter (fun c => decide (hbmSize d.grade ≤ c.1)) }

/-- Step 5: the fabric starts with the repair map's failed set. -/
def bootFabric (d : Dev) : Dev :=
  let r := d.srl.repair
  let d := wr64 (wr64 d Reg.FAB_SEG_FAIL r.seg) Reg.FAB_STOP_FAIL r.port
  let d := (List.range 4).foldl (fun d w => ww d (Reg.FAB_TOR_FAIL w) (r.tor / 2 ^ (32 * w) % 2 ^ 32)) d
  if r.seg ≠ 0 ∨ r.port ≠ 0 ∨ r.tor ≠ 0 then sbit d Reg.FAB_STATUS 3 else d

/-- A core that the self-test finds bad is handled as R433 gives, its spare serving before any item runs. -/
def bootCore (d : Dev) (c : Nat) : Dev :=
  if !corePresent d.grade c || isOut d c then d
  else
    let keep (d : Dev) (k v : Nat) : Dev := { d with srl := { d.srl with repair := { d.srl.repair with cores := mput 0 d.srl.repair.cores k v } } }
    if spareFree d (c / 8) then
      reason (setPhys (sbit (keep d c 1) Reg.MON_SPARE (c / 8)) c 8) 1 c
    else
      let d := keep (sbit d (Reg.MON_CORE_OUT (c / 32)) (c % 32)) c 2
      reason (setPhys (setTcore d c { tcoreOf d c with st := 3 }) c 0xF) 2 c

/-- Step 6: the domains start in order, their memories zero; failed cores give way to spares. -/
def bootDomains (d : Dev) (cores spares : List Nat) : Dev :=
  let d := (List.range 45).foldl (fun d p => if domPresent d.grade p then domForget (setDom d p 0) p else d) d
  let d := d.srl.repair.cores.foldl (fun d e =>
    if 256 ≤ e.1 then d
    else if e.2 = 1 then setPhys d e.1 8
    else setPhys (setTcore d e.1 { tcoreOf d e.1 with st := 3 }) e.1 0xF) d
  let bad := (spares.filter (fun n => cluPresent d.grade n)).eraseDups
  let d := bad.foldl (fun d n =>
    { d with srl := { d.srl with repair := { d.srl.repair with cores := mput 0 d.srl.repair.cores (256 + n) 2 } } }) d
  let cs := (cores.filter (corePresent d.grade)).eraseDups
  cs.foldl bootCore (fset d Reg.SRL_BOOT 23 16 (min 255 (cs.length + bad.length)))

/-- A step fails: start-up ends there, and step 8 still runs. -/
def bootFail (d : Dev) (k info : Nat) : Dev :=
  logEvent (fset (sbit d Reg.SRL_BOOT 10) Reg.SRL_BOOT 14 11 k) (0x100 + Config.evLow 1 1 % 256) k info 0

/-- Step 7: the configuration and the load table. -/
def bootRestore (d : Dev) : Dev :=
  let x := applyLoad (restoreCfg d)
  match x.2 with
  | some i => bootFail x.1 7 i
  | none => paUpdateAll (fset x.1 Reg.SRL_BOOT 3 0 7)

/-- VERSION of the firmware image in force, for the start-up record. -/
def fwVersion (d : Dev) : Nat := match fwSource d with | some a => getNum d.mem (a + 0x210) 4 | none => 0

/-- START_UP_STEP: the next step of R452 ends, or fails. What a step finds is given with it: a good copy of the repair map
and of the calibration, and the logical cores and spares that fail their self-test. -/
def startUpStep (d : Dev) (fail rmap cal : Bool) (cores spares : List Nat) : Dev :=
  let p := fget d Reg.SRL_BOOT 3 0
  let failed := rbit d Reg.SRL_BOOT 10
  if p = 15 ∨ d.pwr.listen then d
  else
    let k := if failed then 8 else p + 1
    if fail then (if failed then d else bootFail d k 0)
    else
      let at_ (d : Dev) : Dev := fset d Reg.SRL_BOOT 3 0 k
      match k with
      | 2 =>
        let f := d.srl.fuses
        at_ (ww d Reg.SRL_KEYS (f.valid % 16 + f.revoked % 16 * 16 + f.dbgValid % 4 * 256 + f.dbgRevoked % 4 * 1024))
      | 3 => at_ (bootBanks d rmap cal)
      | 4 => at_ (bootHbm d)
      | 5 => at_ (bootFabric d)
      | 6 => at_ (bootDomains d cores spares)
      | 7 => bootRestore d
      | 8 => logEvent (fset d Reg.SRL_BOOT 3 0 15) (0x100 + Config.evLow 1 0 % 256) 0 (fwVersion d) 0
      | _ => at_ d

/-! ## Release (R451) -/

/-- RUN is set: Tansy, PA_EN and MAC transmit are released. -/
def releaseRun (d : Dev) : Dev := paUpdateAll (sbit d Reg.SRL_BOOT 15)

/-- A write of RUN, after the restore. -/
def srlRun (d : Dev) (v : Nat) : Dev := if bit v 0 && stepDone d 7 then releaseRun d else d

/-- The first commit boundary after the host link is ready, with AUTORUN. -/
def autorun (d : Dev) : Dev :=
  if rbit d Reg.SRL_CTRL 0 && !rbit d Reg.SRL_BOOT 15 && stepDone d 7 && linkServes d && isBoundary (gridOf d) d.air.now then releaseRun d
  else d

/-! ## Meanings -/

def execLoadFw (s : State) : Out := run s loadFw
def execPersist (s : State) : Out := run s persist
def execEraseCfg (s : State) : Out := run s eraseCfg
def execSorrelWriteDone (s : State) : Out := run s sorrelDone
def execRun (s : State) : Out := run s (fun d => srlRun d 1)
def execAutorunRelease (s : State) : Out := run s autorun
def execPorstN (bootsel : Nat) (s : State) : Out := runAlways s (fun d => porst d bootsel)
def execResetN (bootsel : Nat) (s : State) : Out := runAlways s (fun d => resetPin d bootsel)
def execWakeMatch (m : Nat) (frame : List Byte) (s : State) : Out := run s (fun d => wakeMatch d m frame)

end Sys2Proof.Machine
end

