-- ==== Sys2Proof/Machine/Campion.lean ====
section
/-! DEFINITION. Campion (file 18): freezes (R454 to R458), readout by segment (R459, R460, R464), the 1149.1 port (R461),
unlock (R462, R463), and core debug (R466, R467). Start-up's steps stand here too, because a cause of a freeze that comes
in the first two of them takes effect when step 2 ends (R454). -/

namespace Sys2Proof.Config

/-- Byte i of a line of a segment whose layout the spec does not give (R459: core state, domain registers, MAC FIFOs, Tansy
tables), from the captured device. -/
opaque segByte (d : Machine.Dev) (seg line i : Nat) : Byte

end Sys2Proof.Config

namespace Sys2Proof.Machine

/-! ## Freeze (R454 to R458) -/

/-- The freeze starts: F and the domains' stop times, each within 71.25 ns (140 Tc) of F; the outputs of R456; a Sorrel
write is left as a loss of VIN leaves it (R457). -/
def startFreeze (d : Dev) (cause core : Nat) : Dev :=
  let f := d.air.now
  let d := { d with
    cpn := { d.cpn with frozen := true, cause := cause, core := if cause.testBit 2 then core else 0, at_ := f, held := 0
                        stops := (List.range 64).map (fun i : Nat => f + Config.free (0x200 + i) d.freeCtr % 141) }
    txs := { d.txs with pin := (List.range 32).foldl (fun m n => mput false m n (paPin d n false)) d.txs.pin }
    srl := { d.srl with op := none, wait := none } }
  used ((List.range 9).foldl (fun d n => setTout d n { toutOf d n with level := false }) d)

/-- A cause of a freeze (1 FREEZE_N, 2 CPN_FREEZE, 4 double fault): held until step 2 of start-up has ended, ignored while
the die is frozen. -/
def freeze (d : Dev) (cause core : Nat) : Dev :=
  if d.cpn.frozen then d
  else if fget d Reg.SRL_BOOT 3 0 < 2 then
    { d with cpn := { d.cpn with held := d.cpn.held ||| cause, core := if cause = 4 then core else d.cpn.core } }
  else startFreeze d cause core

/-- A freeze held over steps 1 and 2 starts. -/
def heldFreeze (d : Dev) : Dev :=
  if d.cpn.held ≠ 0 ∧ 2 ≤ fget d Reg.SRL_BOOT 3 0 then startFreeze d d.cpn.held d.cpn.core else d

/-- FREEZE_N is held low for `ns`. -/
def freezePin (d : Dev) (ns : Nat) : Dev := if 20 ≤ ns ∧ rbit d Reg.CPN_CTRL 0 then freeze d 1 0 else d

/-- A write of CPN_FREEZE. -/
def freezeKey (d : Dev) (v : Nat) : Dev := if v = 0x46525A45 ∧ rbit d Reg.CPN_CTRL 1 then freeze d 2 0 else d

/-- The freeze record (R458). -/
def freezeRecord (d : Dev) : List Byte :=
  toBytes 8 (d.cpn.cause % 8 + d.cpn.core % 256 * 8) ++ toBytes 8 d.cpn.at_ ++ toBytes 8 (rd64 d Reg.AIR_COMMIT_AT)
    ++ toBytes 8 (comState d) ++ List.replicate 32 0 ++ (List.range 64).flatMap (fun i => toBytes 8 (at0 0 d.cpn.stops i))
    ++ List.replicate 448 0

/-! ## Readout (R459, R460, R464) -/

/-- Whether the part is locked and not unlocked. -/
def denied (d : Dev) : Bool := d.srl.fuses.lock && !rbit d Reg.CPN_STATUS 1

/-- The logical core that physical core pc serves as. -/
def logicalOf (d : Dev) (pc : Nat) : Option Nat :=
  let m := rw d (Reg.CLU_MAP (pc / 9))
  ((List.range 8).find? (fun k => bits m (4 * k + 3) (4 * k) = pc % 9)).map (fun k => 8 * (pc / 9) + k)

/-- What a line of a segment holds. -/
inductive SegLine where
  | absent
  | mem (a : Nat)
  | bytes (bs : List Byte)
  deriving DecidableEq, Repr

/-- The captured device, without what readout itself changes. -/
def captured (d : Dev) : Dev := { d with answer := 0, freeCtr := 0, cpn := Cpn.reset }

/-- A line whose layout the spec does not give. -/
def openLine (d : Dev) (seg line : Nat) : SegLine := .bytes ((List.range 64).map (Config.segByte (captured d) seg line))

/-- Line `l` of the segment of class `cls` and instance `i`. -/
def segLine (d : Dev) (cls i l : Nat) : SegLine :=
  let seg := cls * 65536 + i
  let inDom (p : Nat) (size : Nat) (x : SegLine) : SegLine := if size ≤ l ∨ domState d p = 3 then .absent else x
  let core (size : Nat) (base : Nat → Nat) : SegLine :=
    if 288 ≤ i then .absent
    else inDom (i / 9) size (match logicalOf d i with | some c => .mem (base c + 64 * l) | none => openLine d seg l)
  match cls with
  | 0x00 => if i = 0 ∧ l < 16 then .bytes (slice (freezeRecord d) (64 * l) 64) else .absent
  | 0x01 => if 288 ≤ i then .absent else inDom (i / 9) 64 (openLine d seg l)
  | 0x02 => if 64 ≤ i then .absent else openLine d seg l
  | 0x03 => core 4096 ldmBase
  | 0x04 => core 1024 pmBase
  | 0x05 => if 32 ≤ i then .absent else inDom i 65536 (.mem (cmemBase i + 64 * l))
  | 0x06 => if 32 ≤ i then .absent else inDom i 16384 (.mem (cpmBase i + 64 * l))
  | 0x07 => if engCount d.grade 1 ≤ i then .absent else inDom 33 32768 (.mem (0x20C0000000 + i * 0x400000 + 64 * l))
  | 0x08 => if 4 ≤ i then .absent else inDom 37 4096 (.mem (0x2040000000 + i * 0x100000 + 64 * l))
  | 0x09 => if engCount d.grade 0 ≤ i then .absent else inDom 32 1024 (.mem (0x2080000000 + i * 0x100000 + 64 * l))
  | 0x0A => if 2 ≤ i then .absent else inDom 32 128 (.mem (0x2081000000 + l / 8 * 0x400 + l % 8 * 64 + i * 2 ^ 48))
  | 0x0B => if !grpPresent d.grade i then .absent else inDom (39 + i / 2) 16384 (openLine d seg l)
  | 0x0C => if i = 0 ∧ l < 262144 then openLine d seg l else .absent
  | _ => .absent

/-- The bytes, check, and FLAGS but LAST of a line. -/
def lineOut (d : Dev) (seg l : Nat) : List Byte × Nat × Nat :=
  if denied d then (List.replicate 64 0, 0, 8)
  else match segLine d (seg / 65536 % 256) (seg % 65536) l with
    | .absent => (List.replicate 64 0, 0, 4)
    | .mem a => (getBytes d.mem a 64, storedCheck d a, 2 * b2n (decide (synOf d a ≠ 0)))
    | .bytes bs => (bs, lineCrc bs, 0)

/-- The frame of a line (R464). -/
def frameOf (d : Dev) (seg l : Nat) (last : Bool) : List Byte :=
  let (bs, chk, fl) := lineOut d seg l
  let head := toBytes 4 (seg % 2 ^ 24 + (fl + b2n last) * 2 ^ 24) ++ toBytes 4 l
  toBytes 4 0x3C5AA5C3 ++ head ++ toBytes 2 chk ++ toBytes 2 (lineCrc (head ++ bs)) ++ bs

/-- The number that a register of the port shifts out. -/
def shiftOut (d : Dev) (t : Tap) (v : Nat) : Dev := { d with answer := v, cpn := { d.cpn with tap := t } }

/-- CPN_DATA: the next frame goes out on TDO; the chain carries nothing while the die runs. -/
def cpnData (d : Dev) : Dev :=
  let d := { d with cpn := { d.cpn with tap := .data } }
  match d.cpn.req with
  | some r =>
    if !d.cpn.frozen || r.capd then d
    else
      let last := decide (r.left ≤ 1)
      let req := if last then none else some { r with line := r.line + 1, left := r.left - 1 }
      shiftOut { d with cpn := { d.cpn with req := req } } .data (ofBytes (frameOf d r.seg r.line last))
  | none => d

/-- READOUT_REQUEST_END: the last frame of a request on CAPD has gone out, and CAPCLK and CAPD are low again. -/
def readoutEnd (d : Dev) : Dev :=
  match d.cpn.req with
  | some r =>
    if d.cpn.frozen && r.capd && rbit d Reg.CPN_CTRL 3 then
      { d with answer := ofBytes (frameOf d r.seg (r.line + r.left - 1) true), cpn := { d.cpn with req := none } }
    else d
  | none => d

/-- CPN_SEL: 96 bits shifted in. -/
def cpnSel (d : Dev) (v : Nat) : Dev :=
  { d with cpn := { d.cpn with tap := .sel, req := some ⟨bits v 23 0, bits v 55 24, bits v 87 56 + 1, bit v 88⟩ } }

/-- What CPN_STATUS shifts out. -/
def cpnStatus (d : Dev) : Nat :=
  b2n d.cpn.frozen + 2 * b2n d.srl.fuses.lock + 4 * b2n (rbit d Reg.CPN_STATUS 1) + 8 * b2n d.cpn.verify.isSome + 16 * min 3 d.cpn.fails

/-! ## Unlock (R462, R463) -/

/-- A failed attempt. -/
def unlockFail (d : Dev) : Dev := { d with cpn := { d.cpn with fails := d.cpn.fails + 1 } }

/-- CPN_UNLOCK: a nonce and the serial go out, then a slot, a key and a signature come in. -/
def cpnUnlock (d : Dev) (slot : Nat) (key sig : List Byte) : Dev :=
  let d := { d with cpn := { d.cpn with tap := .unlock } }
  if 3 ≤ d.cpn.fails ∨ d.cpn.verify.isSome then d
  else
    let n := d.cpn.nonces
    let d := shiftOut { d with cpn := { d.cpn with nonces := n + 1 } } .unlock (Config.nonce n % 2 ^ 384 + Config.serial % 2 ^ 128 * 2 ^ 384)
    let f := d.srl.fuses
    if (slot = 4 ∨ slot = 5) ∧ f.dbgValid.testBit (slot - 4) ∧ !f.dbgRevoked.testBit (slot - 4) then
      { d with cpn := { d.cpn with verify := some ⟨slot, key.take 97, sig.take 96, n⟩ } }
    else unlockFail d

/-- UNLOCK_VERIFY_DONE. -/
def unlockDone (d : Dev) : Dev :=
  match d.cpn.verify with
  | none => d
  | some u =>
    let d := { d with cpn := { d.cpn with verify := none } }
    if Config.sigOk u.slot (u.key ++ u.sig ++ toBytes 48 (Config.nonce u.nonce) ++ toBytes 16 Config.serial) then sbit d Reg.CPN_STATUS 1
    else unlockFail d

/-! ## Core debug (R466, R467) -/

/-- A write of HALT to CPN_DBG_CTL. -/
def dbgHalt (d : Dev) (c : Nat) : Dev := if corePresent d.grade c && !denied d then raiseIrq d c 1 else d

/-- Whether watchpoint i of core c matches an access of n bytes. -/
def wpMatch (d : Dev) (c i : Nat) (x : Nat × Nat × Bool) : Bool :=
  let mask := rw d (Reg.CPN_WP_MASK c i)
  let kind := fget d (Reg.CPN_WP_CFG c i) 1 0
  kind.testBit (b2n x.2.2) &&
    (List.range x.2.1).any (fun j => decide (((x.1 + j) % 2 ^ 32 ^^^ rw d (Reg.CPN_WP_ADDR c i)) &&& (2 ^ 32 - 1 - mask) = 0))

/-- The comparators that match: bits 0 to 3 the breakpoints on the bundle at the boundary, 4 and 5 the watchpoints on the
accesses of the last bundle. -/
def dbgHits (d : Dev) (c : Nat) : Nat :=
  let x := coreOf d c
  let ctl := rw d (Reg.CPN_DBG_CTL c)
  let bp (i : Nat) : Bool := bit ctl (3 + i) && !x.bpSkip && decide (x.pc / 4 = rw d (Reg.CPN_BP c i) / 4)
  let wp (i : Nat) : Bool := bit ctl (7 + i) && x.acc.any (wpMatch d c i)
  (List.range 4).foldl (fun m i => m + b2n (bp i) * 2 ^ i) 0 + (List.range 2).foldl (fun m i => m + b2n (wp i) * 2 ^ (4 + i)) 0

/-- BKPT_MATCH: at a boundary, HIT records each match and BKPT is raised; each access is compared once. -/
def bkptMatch (d : Dev) (c : Nat) : Dev :=
  let x := coreOf d c
  let h := dbgHits d c
  if corePresent d.grade c ∧ x.running ∧ x.bun = none ∧ h ≠ 0 then
    let d := ww d (Reg.CPN_DBG_STAT c) (rw d (Reg.CPN_DBG_STAT c) ||| h)
    raiseIrq (setCore d c { x with acc := [] }) c 2
  else d

/-! ## Meanings -/

def execStartUpStep (fail rmap cal : Bool) (cores spares : List Nat) (s : State) : Out :=
  run s (fun d => heldFreeze (startUpStep d fail rmap cal cores spares))
def execFreezeN (ns : Nat) (s : State) : Out := run s (fun d => freezePin d ns)
def execCpnFreeze (v : Word) (s : State) : Out := run s (fun d => freezeKey d v.toNat)
/-- BYPASS captures a 0. -/
def execBypass (s : State) : Out := runAlways s (fun d => if d.pkg.powered then shiftOut d .bypass 0 else d)
/-- SAMPLE/PRELOAD: the levels of the 1.8 V pins go out, in the order of the BSDL file, and the preload value comes in. -/
def execSamplePreload (pins v : Nat) (s : State) : Out :=
  runAlways s (fun d => if d.pkg.powered then shiftOut { d with cpn := { d.cpn with bsr := v } } .sample pins else d)
/-- EXTEST: the update register drives the 1.8 V outputs. -/
def execExtest (pins v : Nat) (s : State) : Out :=
  runAlways s (fun d => if d.pkg.powered then shiftOut { d with cpn := { d.cpn with bsr := v } } .extest pins else d)
def execIdcode (s : State) : Out := runAlways s (fun d => if d.pkg.powered then shiftOut d .idcode 0x109600F3 else d)
def execCpnStatus (s : State) : Out := runAlways s (fun d => if d.pkg.powered then shiftOut d .status (cpnStatus d) else d)
def execCpnUnlock (slot : Nat) (key sig : List Byte) (s : State) : Out :=
  runAlways s (fun d => if d.pkg.powered then cpnUnlock d slot key sig else d)
def execUnlockVerifyDone (s : State) : Out := runAlways s (fun d => if d.pkg.powered then unlockDone d else d)
def execCpnSel (v : BitVec 96) (s : State) : Out := runAlways s (fun d => if d.pkg.powered then cpnSel d v.toNat else d)
def execCpnData (s : State) : Out := runAlways s (fun d => if d.pkg.powered then cpnData d else d)
def execReadoutRequestEnd (s : State) : Out := runAlways s (fun d => if d.pkg.powered then readoutEnd d else d)
def execHalt (c : Nat) (s : State) : Out := run s (fun d => dbgHalt d c)
def execBkptMatch (c : Nat) (s : State) : Out := run s (fun d => bkptMatch d c)

end Sys2Proof.Machine
end

