-- ==== Sys2Proof/Machine/Exceptions.lean ====
section
/-! DEFINITION. Exceptions of a Glesen core (R97 to R101): a precise one that waits at a bundle, the next deferred one of the
running context, and the double fault that either is at level 2. -/

namespace Sys2Proof.Machine

/-- A double fault: the core stops issuing with every register kept, shows HALTED and reports to Tansy; it may freeze the
die (R101, R454). -/
def doubleFault (d : Dev) (c : Nat) : Dev :=
  let d := sbit (setCore d c { coreOf d c with running := false }) (ccr c 0x004) 4
  let d := haltCore d c
  if rbit d Reg.CPN_CTRL 2 then freeze d 4 c else d

/-- An exception is taken, or is a double fault at level 2. -/
def raise (d : Dev) (c : Nat) (f : Flt) (deferred : Bool) : Dev :=
  if levelOf d c = 2 then doubleFault d c else takeException d c f deferred

/-- The precise exception that waits at core c. With none waiting, the two that stand before a bundle's meaning: an
undefined encoding (code 1) in `slot`, and a fetch that fails (code 6) (R97). -/
def preciseFault (x : Core) (code slot : Nat) : Option Flt :=
  match x.fault with
  | some f => some f
  | none =>
    if x.bun ≠ none then none
    else if code = 1 then some ⟨1, slot % 4, 0, 0, 0, 0, 0, false⟩
    else if code = 6 then some ⟨6, 0, 0, x.pc, 0, 0, 0, false⟩
    else none

/-- PRECISE_EXCEPTION. -/
def preciseException (d : Dev) (c code slot : Nat) : Dev :=
  let x := coreOf d c
  if corePresent d.grade c && x.running then
    match preciseFault x code slot with
    | some f => raise (setCore d c { x with fault := none }) c f false
    | none => d
  else d

/-- DEFERRED_EXCEPTION: the earliest deferred exception of the running context, at a boundary. -/
def deferredException (d : Dev) (c : Nat) : Dev :=
  let x := coreOf d c
  let mine (f : Flt) : Bool := decide (f.ctx = levelOf d c)
  if atBoundary d c x then
    match x.deferred.find? mine with
    | some f => raise (setCore d c { x with deferred := eraseFirst mine x.deferred }) c f true
    | none => d
  else d

def execPreciseException (c code slot : Nat) (s : State) : Out := run s (fun d => preciseException d c code slot)
def execDeferredException (c : Nat) (s : State) : Out := run s (fun d => deferredException d c)

end Sys2Proof.Machine
end

