-- ==== Sys2Proof/Machine/RegRead.lean ====
section
/-! DEFINITION. Reads of control registers (R5, R18 to R22, R55): fields whose value is computed from the state of a unit,
staged values, the in-effect and snapshot views, counters that a read clears, and reservations through a doorbell page
(R213, R228). -/

namespace Sys2Proof.Machine

/-! ## Computed words -/

/-- AIR_VIEW: the frame counters of an air time, decoded with the numerology of AIR_VIEW_CFG (R43, R44). -/
def airView (d : Dev) : Nat :=
  let t := d.air.now
  let lte := rbit d Reg.AIR_VIEW_CFG 2
  let mu := fget d Reg.AIR_VIEW_CFG 1 0
  let len := if lte then 140288 else 140288 / 2 ^ mu
  let per := if lte then 7 else 14
  let half := t % 1966080 / 983040
  let h := t % 983040
  let n := if h < len + 1024 then 0 else (h - 1024) / len
  let ofs := if n = 0 then h else h - 1024 - n * len
  let g := half * (983040 / len) + n
  g % per + g / per * 2 ^ 4 + t / 1966080 % 10 * 2 ^ 7 + t / 19660800 % 1024 * 2 ^ 11 + t / 20132659200 % 1024 * 2 ^ 21 + ofs * 2 ^ 32

/-- The low or high word of a 64-bit value at `base`. -/
def half64 (base a v : Nat) : Nat := if a = base then v % 2 ^ 32 else v / 2 ^ 32 % 2 ^ 32

/-- The code of a slot's state (R177). -/
def SlotSt.code : SlotSt → Nat
  | .free => 0 | .delayed => 1 | .blocked => 2 | .waiting => 3 | .ready => 4 | .held => 5 | .running => 6 | .retained => 7

/-- TSY_QUERY_INFO of the slot named (R206). -/
def queryInfo (d : Dev) : Nat :=
  let s := slotOf d (fget d Reg.TSY_QUERY 16 0)
  s.st.code + s.gen % 16 * 2 ^ 4 + s.dep % 2 ^ 16 * 2 ^ 8 + s.lastStat % 256 * 2 ^ 24
    + (b2n s.timeout + 2 * b2n s.failedIn + 4 * b2n s.late + 8 * b2n s.rerun) * 2 ^ 32 + s.reruns % 4 * 2 ^ 36

/-- Slots of which `p` holds; every slot not listed is FREE. -/
def slotCount (d : Dev) (p : Slot → Bool) : Nat := (d.tsy.slots.filter (fun e => p e.2)).length

/-- TSY_CORE_STATE of core c. -/
def coreState (d : Dev) (c : Nat) : Nat :=
  let t := tcoreOf d c
  (if t.st = 0 ∧ rbit d (Reg.TSY_CORE_CTL c) 0 then 4 else t.st) + t.item % 2 ^ 24 * 2 ^ 4

/-- Words of AIR and TSY. -/
def liveTime (d : Dev) (a w : Nat) : Nat :=
  if a = Reg.AIR_NOW ∨ a = Reg.AIR_NOW + 4 then half64 Reg.AIR_NOW a d.air.now
  else if a = Reg.AIR_VIEW ∨ a = Reg.AIR_VIEW + 4 then half64 Reg.AIR_VIEW a (airView d)
  else if a = Reg.AIR_PHASE_ADJ then pat 32 d.air.phase
  else if a = Reg.TSY_STATUS then setBits w 0 0 (b2n (rbit d Reg.TSY_CTRL 0))
  else if a = Reg.TSY_QUERY_INFO ∨ a = Reg.TSY_QUERY_INFO + 4 then half64 Reg.TSY_QUERY_INFO a (queryInfo d)
  else if a = Reg.TSY_OCC then slotCount d (fun s => decide (s.st ≠ .free))
  else if a = Reg.TSY_RETAINED then slotCount d (fun s => decide (s.st = .retained))
  else if Reg.TSY_POOL_READY 0 ≤ a ∧ a < Reg.TSY_POOL_READY 64 then
    slotCount d (fun s => decide (s.st = .ready) && decide (s.d.pool = (a - Reg.TSY_POOL_READY 0) / 4))
  else if Reg.TSY_CORE_STATE 0 ≤ a ∧ a < Reg.TSY_CORE_STATE 256 then coreState d ((a - Reg.TSY_CORE_STATE 0) / 4)
  else if a = Reg.QMG_ACTIVE then (d.qs.filter (fun e => decide (e.2.st ≠ 0))).length
  else if Reg.QMG_QBASE 0 ≤ a ∧ a < Reg.QMG_QBASE 16384 ∧ a % 16 = 12 then setBits w 29 24 (qOf d ((a - Reg.QMG_QBASE 0) / 16)).gen
  else w

/-- An engine's INST_STATE shows OFF while its domain does not serve. -/
def liveInst (d : Dev) (a w p : Nat) : Nat :=
  let o := a % 0x100000
  if 0x200 ≤ o ∧ o < 0x300 ∧ !domServes d p then setBits w 1 0 2 else w

/-- SEQ of both banks of a kind, 0 where a bank is not valid. -/
def seqPair (d : Dev) (kind : Nat) : Nat := (bankSeq d kind 0).getD 0 + (bankSeq d kind 1).getD 0 * 2 ^ 32

/-- Whether a word belongs to the debug registers of R467. -/
def dbgWord (a : Nat) : Bool :=
  decide (Reg.CPN_DBG_CTL 0 ≤ a ∧ a < Reg.CPN_DBG_CTL 256) && decide ((a - Reg.CPN_DBG_CTL 0) % 0x40 ≠ 4)

/-- Words of the housekeeping blocks, the host link and the memory blocks. -/
def liveHk (d : Dev) (a w : Nat) : Nat :=
  let am := decide (d.grade = .am)
  if a = Reg.PWR_STATUS then setBits (setBits w 10 8 (waking d)) 16 11 d.pwr.wakeq.length
  else if Reg.PWR_DOM_STATE 0 ≤ a ∧ a < Reg.PWR_DOM_STATE 45 then setBits w 2 0 (domState d ((a - Reg.PWR_DOM_STATE 0) / 4))
  else if a = Reg.MON_STATUS then
    setBits (setBits w 4 4 (b2n (decide (rw d Reg.MON_REPLACE ≠ 0)))) 5 5 (b2n (decide (rw d Reg.MON_ALERT ≠ 0)))
  else if a = Reg.SRL_CFG_SEQ ∨ a = Reg.SRL_CFG_SEQ + 4 then half64 Reg.SRL_CFG_SEQ a (seqPair d 1)
  else if a = Reg.SRL_FW_SEQ ∨ a = Reg.SRL_FW_SEQ + 4 then half64 Reg.SRL_FW_SEQ a (seqPair d 2)
  else if a = Reg.CPN_STATUS then setBits w 0 0 (b2n d.srl.fuses.lock)
  else if dbgWord a && denied d then 0
  else if a = Reg.HLK_ID0 then (if am then 2 else 1) + w / 256 * 256
  else if a = Reg.HLK_ID1 then
    (if am then 0x18 + 0xC0 * 2 ^ 6 + 0x10 * 2 ^ 15 + 0x40 * 2 ^ 20 + 8 * 2 ^ 27
     else 0x20 + 0x100 * 2 ^ 6 + 0x18 * 2 ^ 15 + 0x60 * 2 ^ 20 + 0xC * 2 ^ 27)
  else if a = Reg.HLK_ID2 then (if am then 0x20 + 0x10 * 2 ^ 6 else 0x30 + 0x20 * 2 ^ 6) + activeCores d * 2 ^ 16
  else if a = Reg.HLK_DIR_OCC then d.hlk.dir.length
  else if a = Reg.MEM_PEND then d.integ.recs.length
  else if a = Reg.HBM_ID 0 ∨ a = Reg.HBM_ID 1 then setBits w 7 0 (if am then 8 else 16)
  else if a = Reg.HBM_STATUS 0 ∨ a = Reg.HBM_STATUS 1 then setBits w 0 0 (b2n (stepDone d 4 && !d.pwr.listen))
  else w

/-- Words of a doorbell page (R228). -/
def liveQdb (d : Dev) (a w : Nat) : Nat :=
  let q := (a - 0x4000000000) / 0x1000
  let x := qOf d q
  match a % 0x1000 with
  | 0x000 => x.head % 2 ^ 16 + qTail d q % 2 ^ 16 * 2 ^ 16
  | 0x004 => avail x.slots % 2 ^ 17 + x.st * 2 ^ 17 + x.gen * 2 ^ 19
  | 0x010 => x.slots.length
  | _ => w

/-- The live word at `a`, with its computed fields; WO and RSV fields read 0 (R20). -/
def liveWord (d : Dev) (a : Nat) : Nat :=
  let w := rw d a
  let i := (a - 0x3000000000) / 0x100000
  let v :=
    if 0x4000000000 ≤ a then liveQdb d a w
    else if 0x40 ≤ i ∧ i < 0x60 then
      (if 0x10000 ≤ a % 0x100000 then ccrWord d (8 * (i - 0x40) + (a % 0x100000 - 0x10000) / 0x1000) (a % 0x1000) else w)
    else match i with
      | 0x00 => liveTime d a w | 0x01 => liveTime d a w | 0x02 => liveTime d a w
      | 0x0C => liveInst d a w 32 | 0x0D => liveInst d a w 33 | 0x0E => liveInst d a w 34 | 0x0F => liveInst d a w 35
      | 0x10 => liveInst d a w 36
      | _ => liveHk d a w
  v &&& (2 ^ 32 - 1 - accMask a (fun x => decide (x = .wo ∨ x = .rsv)))

/-! ## Staged values and views (R51, R55) -/

/-- A staged word that nothing has written. -/
def NOSTG : Nat := 2 ^ 32

/-- The STG fields of the word at `a`. -/
def stgMask (a : Nat) : Nat := accMask a (fun x => decide (x = .stg))

/-- The last value staged for the word at `a`, or latched by an armed commit, if it is not in effect yet. -/
def stagedAt (d : Dev) (a : Nat) : Nat :=
  let s := mget NOSTG d.staged a
  if s = NOSTG then mget NOSTG d.latch a else s

/-- The word as software reads it at its own offset. -/
def ownWord (d : Dev) (a : Nat) : Nat :=
  let s := stagedAt d a
  let m := stgMask a
  if s = NOSTG then liveWord d a else (liveWord d a &&& (2 ^ 32 - 1 - m)) ||| (s &&& m)

/-- The view that a control address lies in: 0 the register itself, 1 in effect, 2 snapshot; and the register's address. -/
def viewOf (a : Nat) : Nat × Nat :=
  let o := a % 0x100000
  if a < 0x3000000000 ∨ 0x3010000000 ≤ a then (0, a)
  else if 0x40000 ≤ o ∧ o < 0x80000 then (1, a - 0x40000)
  else if 0x80000 ≤ o ∧ o < 0xC0000 then (2, a - 0x80000)
  else (0, a)

/-- Snapshot-capable: RO and RC fields of a register whose table does not state otherwise (R58). -/
def snapMask (a : Nat) : Nat :=
  match findReg a with
  | some (r, o) => if r.snap then maskOf (fun f => decide (f.acc = .ro ∨ f.acc = .rc)) r.flds (o / 4 * 4) else 0
  | none => 0

/-- The snapshot copy of the word at `a`. -/
def snapWord (d : Dev) (a : Nat) : Nat := (mget (regReset a) d.snap a).toNat &&& snapMask a

/-! ## Absent units (R5, R297) -/

/-- The control addresses that read as zero and ignore writes in this grade. -/
def absentReg (g : Grade) (a : Nat) : Bool :=
  let i := (a - 0x3000000000) / 0x100000
  let o := (viewOf a).2 % 0x100000
  let inst (n : Nat) : Bool :=
    (decide (0x100 ≤ o ∧ o < 0x300) && decide (n ≤ o % 0x100 / 4)) || (decide (0x1000 ≤ o ∧ o < 0x2000) && decide (n ≤ (o - 0x1000) / 0x20))
      || (decide (0x2000 ≤ o ∧ o < 0x2400) && decide (n ≤ (o - 0x2000) / 0x10))
  if a < 0x3000000000 ∨ 0x3010000000 ≤ a then false
  else if 0x40 ≤ i ∧ i < 0x60 then !cluPresent g (i - 0x40)
  else if 0x20 ≤ i ∧ i < 0x2C then !grpPresent g (i - 0x20)
  else match i with
    | 0x0E => inst (engCount g 2)
    | 0x0F => inst (engCount g 3 + engCount g 4)
    | 0x10 => inst (engCount g 5 + engCount g 6)
    | _ => false

/-! ## Units whose start-up step did not run (R452) -/

/-- The step of start-up that brings up the unit behind an address, 0 for one that every access reaches. -/
def unitStep (a : Nat) : Nat :=
  let i := (a - 0x3000000000) / 0x100000
  if a < 0x800000000 then 4
  else if a < 0x3000000000 then 6
  else if a < 0x3010000000 then
    (match i with
      | 0x00 => 0 | 0x04 => 0 | 0x05 => 0 | 0x06 => 0 | 0x08 => 0 | 0x11 => 0
      | 0x01 => 5 | 0x02 => 5 | 0x03 => 5 | 0x07 => 4 | 0x12 => 4 | 0x13 => 4 | _ => 6)
  else if a < 0x4004000000 then 5 else 0

/-- The unit stayed in reset because start-up ended before its step. -/
def unitDown (d : Dev) (a : Nat) : Bool :=
  rbit d Reg.SRL_BOOT 10 && decide (0 < unitStep a) && decide (fget d Reg.SRL_BOOT 14 11 ≤ unitStep a)

/-! ## Reads -/

/-- A register access of a size and alignment that R18 and R19 allow, with a register at every word of it. -/
def regFits (a n : Nat) : Bool :=
  (findReg a).isSome && ((decide (n = 4) && decide (a % 4 = 0)) || (decide (n = 8) && decide (a % 8 = 0) && (findReg (a + 4)).isSome))

/-- The clear of RC fields by a read of the word at `a`; a read of a free count moves to the next free value. -/
def readClears (d : Dev) (a : Nat) : Dev :=
  let m := accMask a (fun x => decide (x = .rc))
  let o := a % 0x1000
  let i := (a - 0x3000000000) / 0x100000
  let d := if m = 0 then d else ww d a (rw d a &&& (2 ^ 32 - 1 - m))
  if 0x40 ≤ i ∧ i < 0x60 ∧ 0x10000 ≤ a % 0x100000 ∧ (o = 0x60 ∨ o = 0x64 ∨ o = 0x70 ∨ o = 0x74) then used d else d

/-- A read of `n` bytes at a control or doorbell address by `who`: the device after it, and the value, or none for an error
response. -/
def readReg (d : Dev) (who : Who) (a n : Nat) : Dev × Option Nat :=
  let fit := decide (n = 4 ∨ n = 8) && decide (a % n = 0)
  let o := a % 0x1000
  if !fit then (d, none)
  else if absentReg d.grade a then (d, some 0)
  else if 0x4000000000 ≤ a ∧ 0x400 ≤ o ∧ o < 0x600 then
    if n = 8 then
      let x := reserve d who ((a - 0x4000000000) / 0x1000) ((o - 0x400) / 8)
      (x.1, some x.2)
    else (d, none)
  else
    let (view, ca) := viewOf a
    if !regFits ca n || (view = 2 && snapMask ca = 0 && (n = 4 || snapMask (ca + 4) = 0)) then (d, none)
    else
      let get (b : Nat) : Nat := match view with | 0 => ownWord d b | 1 => liveWord d b | _ => snapWord d b
      let v := get ca + (if n = 8 then get (ca + 4) * 2 ^ 32 else 0)
      if view = 0 then (readClears (if n = 8 then readClears d (ca + 4) else d) ca, some v) else (d, some v)

end Sys2Proof.Machine
end

