-- ==== Sys2Proof/Machine/RegWrite.lean ====
section
/-! DEFINITION. Writes of control registers (R18 to R22, R51): the effect that each register's block gives a write, the
staging of STG fields, and the writes that are refused. -/

namespace Sys2Proof.Machine

/-! ## The plain effect -/

/-- A write by access codes alone: RW, W1C and W1S act at once, STG fields are staged (R20). -/
def genericWrite (d : Dev) (a v : Nat) : Dev :=
  let d := plainWrite d a v
  let m := stgMask a
  if m = 0 then d else { d with staged := mput NOSTG d.staged a (v &&& m) }

/-- A bank may not be written: it is in effect, or a commit that has armed puts it into effect (R303, R308, R328). -/
def bankLocked (d : Dev) (ctl i b : Nat) : Bool :=
  let l := mget NOSTG d.latch ctl
  decide (b2n (rbit d ctl i) = b) || (decide (l ≠ NOSTG) && decide (comState d = 2) && decide (d.air.decided ≠ some false) && decide (b2n (l.testBit i) = b))

/-! ## Blocks -/

/-- AIR (file 02). -/
def putAir (d : Dev) (a v : Nat) : Dev × Bool :=
  if a = Reg.AIR_VIEW_CFG then
    (ww d a (if v % 4 = 3 then fget d a 1 0 + b2n (bit v 2) * 4 else v % 8), true)
  else if a = Reg.AIR_CTRL then
    let old := rw d a
    let d := genericWrite d a v
    (if bits old 7 0 = bits v 7 0 then d else srcSelected d, true)
  else if a = Reg.AIR_PHASE_ADJ then (phaseAdj d (sx 32 v), true)
  else if a = Reg.AIR_STEP ∨ a = Reg.AIR_STEP + 4 then (d, false)
  else if a = Reg.AIR_COMMIT_GRID then (writeGrid d v, true)
  else if a = Reg.AIR_COMMIT_REQ then
    let dis := bit v 8
    (match v % 4 with
      | 1 => comNext d (bit v 2) (bit v 3) (bit v 4) dis
      | 2 => comAtReq d (bit v 2) (bit v 3) (bit v 4) dis
      | _ => if dis then comDiscard d else d, true)
  else if a = Reg.AIR_SNAP_REQ then
    (match v % 4 with | 1 => snapNext d (bit v 4) | 2 => snapAt d (bit v 4) | _ => d, true)
  else (genericWrite d a v, true)

/-- TSY (file 07). -/
def putTsy (d : Dev) (a v : Nat) : Dev × Bool :=
  if a = Reg.TSY_SIGNAL then (tsySignal d (bits v 23 0) (bits v 31 24) false, true)
  else if a = Reg.TSY_EVENT_RAISE then (tsyEvent d (bits v 11 0) (bits v 31 16), true)
  else if a = Reg.TSY_CANCEL then (tsyCancel d (bits v 23 0), true)
  else if a = Reg.TSY_RELEASE then (tsyRelease d (bits v 23 0), true)
  else if a = Reg.TSY_MSG ∨ a = Reg.TSY_MSG + 4 then (d, false)
  else if Reg.TSY_POOL_MASK 0 0 ≤ a ∧ a < Reg.TSY_POOL_MASK 64 0 then
    if d.grade = .am ∧ 6 ≤ (a - Reg.TSY_POOL_MASK 0 0) / 4 % 8 ∧ v ≠ 0 then (sbit d Reg.TSY_STATUS 1, true)
    else (genericWrite d a v, true)
  else if Reg.TSY_CORE_CTL 0 ≤ a ∧ a < Reg.TSY_CORE_CTL 256 then
    let d := genericWrite d a v
    (if bit v 1 then resumeCore d ((a - Reg.TSY_CORE_CTL 0) / 4) else d, true)
  else if Reg.TSY_EVENT_CNT 0 ≤ a ∧ a < Reg.TSY_EVENT_CNT 4096 then
    (tsyEvent (genericWrite d a v) ((a - Reg.TSY_EVENT_CNT 0) / 4) 0, true)
  else (genericWrite d a v, true)

/-- QMG (file 08): while a queue is not DISABLED only EN, SWLIM, NOTIFY and NTARGET may change (R212). -/
def putQmg (d : Dev) (a v : Nat) : Dev × Bool :=
  if Reg.QMG_QBASE 0 ≤ a ∧ a < Reg.QMG_QBASE 16384 then
    let q := (a - Reg.QMG_QBASE 0) / 16
    let free := decide ((qOf d q).st = 0)
    let m := accMask a (fun x => decide (x = .rw))
    let changed (mask : Nat) : Bool := decide ((rw d a ^^^ v) &&& mask ≠ 0)
    if a % 16 = 8 then
      if !free && changed (setBits 0 10 1 0x3FF) then (d, false)
      else
        let en := rw d a % 2
        let d := ww d a (v / 2 * 2 + en)
        (if bit v 0 then queueCreate d q else queueDestroy d q, true)
    else if !free && changed m then (d, false)
    else (genericWrite d a v, true)
  else (genericWrite d a v, true)

/-- FAB, PWR, MON, SRL, TSL (files 13, 14, 16, 17). -/
def putHk (d : Dev) (a v : Nat) : Dev × Bool :=
  if a = Reg.FAB_RECONF then (fabReconf d v, true)
  else if a = Reg.FAB_TMO then
    (if (List.range 3).all (fun i => decide (8 ≤ v / 2 ^ (8 * i) % 256 ∧ v / 2 ^ (8 * i) % 256 ≤ 120)) then genericWrite d a v
     else sbit d Reg.FAB_STATUS 7, true)
  else if a = Reg.PWR_LISTEN then (if bit v 0 then listenEntry d else d, true)
  else if a = Reg.PWR_CTRL then
    let d := genericWrite d a v
    (if fget d Reg.PWR_VIN 15 0 = 0 then d else ww d Reg.PWR_ENV (envelope d), true)
  else if Reg.PWR_DOM_CTL 0 ≤ a ∧ a < Reg.PWR_DOM_CTL 45 then (domCtl d ((a - Reg.PWR_DOM_CTL 0) / 4) v, true)
  else if a = Reg.MON_FAULT then (if bit v 8 then monFault d (bits v 7 0) else d, true)
  else if a = Reg.MON_RES_ACK then (monAck d v, true)
  else if a = Reg.MON_ALERT then
    let d := genericWrite d a v
    (ww d a (rw d a ||| alertPresent d), true)
  else if a = Reg.SRL_RUN then (srlRun d v, true)
  else if a = Reg.SRL_CMD then (srlCmd d v, true)
  else if a = Reg.TSL_GO then
    let d := if bit v 0 then teaselGo d else d
    (if bit v 1 then teaselAbort d else d, true)
  else (genericWrite d a v, true)

/-- CPN (file 18). -/
def putCpn (d : Dev) (a v : Nat) : Dev × Bool :=
  if dbgWord a && denied d then (d, false)
  else if a = Reg.CPN_FREEZE then (freezeKey d v, true)
  else
    let d := genericWrite d a v
    (if dbgWord a && decide ((a - Reg.CPN_DBG_CTL 0) % 0x40 = 0) && bit v 2 then dbgHalt d ((a - Reg.CPN_DBG_CTL 0) / 0x40) else d, true)

/-- YRW, TXS, FEN (files 09, 11). -/
def putRadio (d : Dev) (a v : Nat) : Dev × Bool :=
  if a = Reg.YRW_SW_TRIG then (yrwSwTrig d v, true)
  else if a = Reg.YRW_INJ_GO then
    let d := if bit v 0 then injGo d else d
    (if bit v 1 then injCancel d else d, true)
  else if a = Reg.YRW_CAL then (calRequest d (bits v 4 0) (bits v 5 5) (bits v 17 6), true)
  else if Reg.YRW_RES_ACK 0 ≤ a ∧ a < Reg.YRW_RES_ACK 9 ∧ (a - Reg.YRW_RES_ACK 0) % 0x80 = 0 then (yrwAck d ((a - Reg.YRW_RES_ACK 0) / 0x80) v, true)
  else if Reg.YRW_BANK 0 0 ≤ a ∧ a < Reg.YRW_BANK 2 0 then
    if bankLocked d Reg.YRW_CTRL 1 ((a - Reg.YRW_BANK 0 0) / 0x400) then (sbit d Reg.YRW_STATUS 1, false) else (genericWrite d a v, true)
  else if a = Reg.TXS_PAEN_CLR then (paClr d v, true)
  else if Reg.TXS_BANK 0 0 ≤ a ∧ a < Reg.TXS_BANK 2 0 then
    if bankLocked d Reg.TXS_CTRL 1 ((a - Reg.TXS_BANK 0 0) / 0x4000) then (sbit d Reg.TXS_STATUS 1, false) else (genericWrite d a v, true)
  else if a = Reg.FEN_GL_UNFREEZE then (unfreeze d (bits v 10 0), true)
  else if Reg.FEN_BF_ACK 0 0 ≤ a ∧ a < Reg.FEN_BF_ACK 4 0 ∧ (a - Reg.FEN_BF_ACK 0 0) % 0x1000 < 0x200 ∧ a % 0x20 = 0x18 then
    (bfAck d ((a - Reg.FEN_BF_ACK 0 0) / 0x1000) ((a - Reg.FEN_BF_ACK 0 0) % 0x1000 / 0x20) v, true)
  else (genericWrite d a v, true)

/-- A MAC port group (file 12). -/
def putMac (d : Dev) (a v : Nat) : Dev × Bool :=
  let g := (a - 0x3002000000) / 0x100000
  let o := a % 0x100000
  if 0x10000 ≤ o ∧ o < 0x30000 then
    if bankLocked d (Reg.MACG_CTRL g) 3 ((o - 0x10000) / 0x10000) then (sbit d (Reg.MACG_STATUS g) 0, false) else (genericWrite d a v, true)
  else if 0x400 ≤ o ∧ o < 0xC00 then
    let r := (o - 0x400) / 0x20
    match (o - 0x400) % 0x20 with
    | 0x08 =>
      (match brCfg d g r v with | some x => (x, true) | none => (d, false))
    | 0x0C => (brProd d g r v, true)
    | k =>
      let m := accMask a (fun x => decide (x = .rw))
      if k < 8 ∧ rbit d (Reg.MAC_BR_CFG g r) 0 ∧ (rw d a ^^^ v) &&& m ≠ 0 then (d, false) else (genericWrite d a v, true)
  else if 0xA0 ≤ o ∧ o < 0xE0 ∧ o % 16 = 12 then (if bit v 0 then txtsPop d (4 * g + (o - 0xA0) / 16) else d, true)
  else if a = Reg.MAC_SYNCE 0 ∨ a = Reg.MAC_SYNCE 1 then
    (if macCount d.grade ≤ bits v 5 0 then d else genericWrite d a v, true)
  else (genericWrite d a v, true)

/-- HLK and MEM (files 14, 15). -/
def putHlk (d : Dev) (a v : Nat) : Dev × Bool :=
  let r := (a - Reg.HLK_COH_BASE 0) / 0x10
  if a = Reg.HLK_CTRL then
    let was := rbit d a 0
    let d := genericWrite d a v
    (if !was && rbit d a 0 then announce d (2 ^ 64 - 1) else d, true)
  else if a = Reg.HLK_VEC_RAISE then (vecRaise d v, true)
  else if a = Reg.HLK_VEC_RAISE + 4 then (vecRaise d (v * 2 ^ 32), true)
  else if a = Reg.HLK_VEC_EN then (vecEn d (v + rw d (Reg.HLK_VEC_EN + 4) * 2 ^ 32), true)
  else if a = Reg.HLK_VEC_EN + 4 then (vecEn d (rw d Reg.HLK_VEC_EN + v * 2 ^ 32), true)
  else if Reg.HLK_COH_BASE 0 ≤ a ∧ a < Reg.HLK_COH_BASE 16 then
    if a % 16 = 12 then (if bit v 0 then cohEnable d r else cohDisable d r, true)
    else if rw d (Reg.HLK_COH_CFG r) % 4 ≠ 0 then (d, false)
    else (genericWrite d a v, true)
  else if Reg.MEM_RFW_DST 0 ≤ a ∧ a < Reg.MEM_RFW_DST 64 ∧ a % 0x20 = 0x14 then (rfwCfg d ((a - Reg.MEM_RFW_DST 0) / 0x20) v, true)
  else if a = Reg.MEM_TEST_OP then (testOp d (v % 4), true)
  else (genericWrite d a v, true)

/-- A core's control registers as any initiator reaches them (R102): while the core holds an item, the registers of its
context are closed. -/
def putCcr (d : Dev) (c o n v : Nat) : Dev × Bool :=
  let closed := decide (o = 0x004 ∨ o = 0x008 ∨ o = 0x014 ∨ (0x020 ≤ o ∧ o < 0x02C) ∨ (0x030 ≤ o ∧ o < 0x03C) ∨ o = 0x050 ∨ o = 0x054)
  if (closed && decide ((tcoreOf d c).st = 1)) || !ccrOk c o n true then (d, false) else (ccrStore d c o n v, true)

/-- A doorbell page (R215, R219, R228). -/
def putQdb (d : Dev) (who : Who) (a v : Nat) : Dev × Bool :=
  let q := (a - 0x4000000000) / 0x1000
  match a % 0x1000 with
  | 0x008 => (publish d who q (bits v 15 0) (bits v 21 16) (bit v 22), true)
  | 0x00C => (consumed d q (bits v 15 0) (bits v 21 16), true)
  | _ => (d, true)

/-- A write of the word at `a`. -/
def putWord (d : Dev) (who : Who) (a v : Nat) : Dev × Bool :=
  let i := (a - 0x3000000000) / 0x100000
  if 0x4000000000 ≤ a then putQdb d who a v
  else if 0x40 ≤ i ∧ i < 0x60 then
    (if 0x10000 ≤ a % 0x100000 then putCcr d (8 * (i - 0x40) + (a % 0x100000 - 0x10000) / 0x1000) (a % 0x1000) 4 v else (genericWrite d a v, true))
  else if 0x20 ≤ i ∧ i < 0x2C then putMac d a v
  else match i with
    | 0x00 => putAir d a v
    | 0x01 => putTsy d a v
    | 0x02 => putQmg d a v
    | 0x08 => putCpn d a v
    | 0x09 => putRadio d a v | 0x0A => putRadio d a v | 0x0B => putRadio d a v
    | 0x11 => putHlk d a v | 0x13 => putHlk d a v
    | 0x0C => (genericWrite d a v, true) | 0x0D => (genericWrite d a v, true) | 0x0E => (genericWrite d a v, true)
    | 0x0F => (genericWrite d a v, true) | 0x10 => (genericWrite d a v, true) | 0x12 => (genericWrite d a v, true)
    | _ => putHk d a v

/-- The two words of an 8-byte write that does not act as one: both are written or neither. QMG_QBIND is written before the
QMG_QCFG beside it, whose EN creates the queue. -/
def putPair (d : Dev) (who : Who) (a v : Nat) : Dev × Bool :=
  let lo : Nat × Nat := (a, v % 2 ^ 32)
  let hi : Nat × Nat := (a + 4, v / 2 ^ 32)
  let (x, y) := if Reg.QMG_QBASE 0 ≤ a ∧ a < Reg.QMG_QBASE 16384 ∧ a % 16 = 8 then (hi, lo) else (lo, hi)
  let first := putWord d who x.1 x.2
  if !first.2 then first
  else
    let second := putWord first.1 who y.1 y.2
    if second.2 then second
    else
      let alone := putWord d who y.1 y.2
      (if alone.2 then d else alone.1, false)

/-- An 8-byte write: the 64-bit registers that act as one, else two words. -/
def putLong (d : Dev) (who : Who) (a v : Nat) : Dev × Bool :=
  let i := (a - 0x3000000000) / 0x100000
  let c := 8 * (i - 0x40) + (a % 0x100000 - 0x10000) / 0x1000
  if a = Reg.AIR_STEP then (airStep d (sx 64 v), true)
  else if a = Reg.TSY_MSG then (tsyMsg d (bits v 23 0) (bits v 63 32), true)
  else if a = Reg.HLK_VEC_RAISE then (vecRaise d v, true)
  else if a = Reg.HLK_VEC_EN then (vecEn d v, true)
  else if 0x40 ≤ i ∧ i < 0x60 ∧ 0x10000 ≤ a % 0x100000 ∧ ccrOk c (a % 0x1000) 8 true then putCcr d c (a % 0x1000) 8 v
  else putPair d who a v

/-- A write of `n` bytes at a control or doorbell address by `who`: the device after it, and whether it was accepted. A
refused write changes nothing but the status bit that its block gives. -/
def writeReg (d : Dev) (who : Who) (a n v : Nat) : Dev × Bool :=
  let fit := decide (n = 4 ∨ n = 8) && decide (a % n = 0)
  if !fit then (d, false)
  else if absentReg d.grade a then (d, true)
  else if (viewOf a).1 ≠ 0 ∨ !regFits a n then (d, false)
  else if n = 8 then putLong d who a (v % 2 ^ 64)
  else putWord d who a (v % 2 ^ 32)

/-- A write whose unit serves and has started takes effect and answers OK or REG; one to a domain that is off travels as a
WRITE packet and waits at its stop (R38). -/
def registerWrite (d : Dev) (who : Who) (a n v : Nat) : Dev :=
  if unitDown d a then { d with answer := 2 }
  else if absentReg d.grade a || addrServes d a then
    let x := writeReg d who a n v
    { x.1 with answer := if x.2 then 0 else 2 }
  else (sendReq d who (if 0x4000000000 ≤ a then 0x20 else 0x02) a n 1 (toBytes n v) [] []).1

def execRegisterWrite (who : Who) (a n : Nat) (v : BitVec 64) (s : State) : Out :=
  run s (fun d =>
    if (0x3000000000 ≤ a ∧ a < 0x3010000000 ∧ blockListed a) ∨ (0x4000000000 ≤ a ∧ a < 0x4004000000) then registerWrite d who a n v.toNat
    else { d with answer := 1 })

end Sys2Proof.Machine
end

