-- ==== Sys2Proof/Machine/Serve.lean ====
section
/-! DEFINITION. Packets at their destination stops (file 13): what the stop answers a READ, WRITE or DOORBELL (R356, R371,
R487), packets for a domain that is off (R372 to R375), answers at their initiators (R84, R85, R370), the end of a
wake (R424), and hardware consumers of queues (R218). -/

namespace Sys2Proof.Machine

/-! ## What a destination answers -/

/-- An address in the control or the doorbell region. -/
def isReg (a : Nat) : Bool := decide (0x3000000000 ≤ a ∧ a < 0x3010000000) || decide (0x4000000000 ≤ a ∧ a < 0x4004000000)

/-- The STATUS of a refused register access: DECODE at a reserved offset outside the control region, else REG (R371, R487). -/
def regStatus (a : Nat) : Nat :=
  if 0x4000000000 ≤ a ∧ (findReg a).isNone ∧ ¬ (0x400 ≤ a % 0x1000 ∧ a % 0x1000 < 0x600) then 1 else 2

/-- The core whose LDM, PM or control registers an address names (R33, R102). -/
def coreAt (g : Grade) (a : Nat) : Option Nat :=
  let b := (viewOf a).2
  let i := (b - 0x3000000000) / 0x100000
  if 0x3000000000 ≤ b ∧ b < 0x3010000000 then
    (if 0x40 ≤ i ∧ i < 0x60 ∧ 0x10000 ≤ b % 0x100000 ∧ b % 0x100000 < 0x18000 then some (8 * (i - 0x40) + (b % 0x100000 - 0x10000) / 0x1000)
     else none)
  else match memKind g a with
    | some (.ldm c) => some c
    | some (.pm c) => some c
    | _ => none

/-- The address names a core that is OUT (R433 step 1). -/
def coreGone (d : Dev) (a : Nat) : Bool := match coreAt d.grade a with | some c => isOut d c | none => false

/-- The answer of a destination stop: STATUS, bytes and the syndromes of its lines; nothing while the access must wait. -/
structure Reply where
  status : Nat
  data : List Byte
  syn : List Nat
  deriving DecidableEq, Repr

/-- A READ of `n` bytes from `a` (R5, R32, R371, R390, R433, R452, R487). -/
def serveRead (d : Dev) (who : Who) (a n : Nat) : Dev × Option Reply :=
  if unitDown d a then (d, some ⟨2, [], []⟩)
  else if coreGone d a then (d, some ⟨6, [], []⟩)
  else if isReg a then
    match readReg d who a n with
    | (d, some v) => (d, some ⟨0, toBytes n v, []⟩)
    | (d, none) => (d, some ⟨regStatus a, [], []⟩)
  else if 0x1000000000 ≤ a ∧ a < 0x1020000000 ∧ !presentRange d.grade a n then (d, some ⟨0, List.replicate n 0, []⟩)
  else if !inMem d.grade a n then (d, some ⟨1, [], []⟩)
  else
    match memRead d a n with
    | (d, .ok, bs) => (d, some ⟨0, bs, []⟩)
    | (d, .poison, bs) => (d, some ⟨3, bs, (linesOf a n).map (synOf d)⟩)
    | (d, .recompute, _) => (d, some ⟨4, [], []⟩)
    | (d, .wait, _) => (d, none)

/-- A WRITE or DOORBELL (R5, R32, R35, R230, R371, R383, R407, R433, R452, R487): the STATUS, or nothing while it must wait.
A write that R35 or R230 refuses answers DECODE or REG, which of them is a free value. -/
def serveWrite (d : Dev) (who : Who) (a : Nat) (bs : List Byte) (mask : List Bool) (syn : List Nat) : Dev × Option Nat :=
  let n := bs.length
  if unitDown d a then (d, some 2)
  else if coreGone d a then (d, some 6)
  else if isReg a then
    if !(mask.all id) then (d, some 2)
    else
      let x := writeReg d who a n (ofBytes bs)
      (x.1, some (if x.2 then 0 else regStatus a))
  else if 0x1000000000 ≤ a ∧ a < 0x1020000000 ∧ !presentRange d.grade a n then (d, some 0)
  else if !inMem d.grade a n then (d, some 1)
  else if writeShut d.grade a then (used d, some (1 + fresh d 70 % 2))
  else
    match cohWrite d a n with
    | (d, false) => (d, none)
    | (d, true) => match memWrite d a bs mask syn with | some d => (d, some 0) | none => (d, none)

/-- A request is performed and its answer sent, or it waits at its stop ahead of later packets. -/
def perform (d : Dev) (p : Pkt) : Dev :=
  if p.op = 0x22 then raiseIrq d ((p.addr - 0x3004010000) / 0x100000 * 8 + (p.addr - 0x3004010000) % 0x100000 / 0x1000) p.tag
  else
    let back (d : Dev) : Dev := { d with fab := { d.fab with flight := p :: d.fab.flight } }
    if p.op = 0x01 then
      match serveRead d p.who p.addr (p.lenm1 + 1) with
      | (d, some r) => inject d (answerTo p r.status r.data r.syn)
      | (d, none) => back d
    else
      match serveWrite d p.who p.addr p.data p.mask p.syn with
      | (d, some st) => inject d (answerTo p st [] [])
      | (d, none) => back d

/-! ## Arrival (R357, R360, R370, R372 to R375) -/

/-- The first packet in flight of one source stop, destination stop and network (R360). -/
def firstOf (d : Dev) (p : Pkt) : Bool :=
  match d.fab.flight.find? (fun q => q.src = p.src ∧ q.dst = p.dst ∧ q.vn = p.vn) with
  | some q => decide (q = p)
  | none => false

/-- The packet leaves the fabric. -/
def landed (d : Dev) (p : Pkt) : Dev := { d with fab := { d.fab with flight := eraseFirst (fun q => decide (q = p)) d.fab.flight } }

/-- The packets of one network in the wake buffer of a domain, or circulating for it. -/
def heldFor (l : List (Nat × Pkt)) (dom vn : Nat) : List Pkt := (l.filter (fun x => decide (x.1 = dom) && decide (x.2.vn = vn))).map (·.2)

/-- A packet for a domain that does not serve is held in the wake buffer, or circulates when 32 of its network are held, and
the domain is woken. -/
def holdPkt (d : Dev) (dom : Nat) (p : Pkt) : Dev :=
  let d :=
    if (heldFor d.fab.heldPk dom p.vn).length < 32 ∧ (heldFor d.fab.circ dom p.vn).isEmpty then
      cnt { d with fab := { d.fab with heldPk := d.fab.heldPk ++ [(dom, p)] } } Reg.FAB_CNT_WAKEHOLD 1
    else cnt { d with fab := { d.fab with circ := d.fab.circ ++ [(dom, p)] } } Reg.FAB_CNT_CIRC 1
  wakeRequest d dom true

/-- A request with a good header reaches its stop. -/
def arrive (d : Dev) (p : Pkt) : Dev :=
  if expired d p then cnt d Reg.FAB_CNT_EXPIRED 1
  else match (if absentReg d.grade p.addr then none else domainOf p.addr) with
    | none => perform d p
    | some dom =>
      if !domPresent d.grade dom then perform d p
      else match domState d dom with
        | 0 => perform d p
        | 1 => perform (drainAbandoned d dom) p
        | _ => holdPkt d dom p

/-- A request packet reaches its destination stop: one whose header check fails is discarded (R357); one on the fabric
arrives in the order of its stops and network (R360). -/
def request (d : Dev) (p : Pkt) : Dev :=
  if p.hcrc ≠ hcrcOf p then
    let mine (q : Pkt) : Bool := decide (q.who = p.who) && decide (q.tag = p.tag) && decide (q.op = p.op)
    sbit (cnt { d with fab := { d.fab with flight := eraseFirst mine d.fab.flight } } Reg.FAB_CNT_HDRERR 1) Reg.FAB_STATUS 5
  else if d.fab.flight.contains p then (if firstOf d p then arrive (landed d p) p else d)
  else arrive d p

/-- The packet is a request of the operation, inside one 256-byte block (R355). -/
def pktOk (p : Pkt) (op : Nat) : Bool :=
  decide (p.op = op) && decide (p.lenm1 < 256) && decide (p.addr % 256 + p.lenm1 < 256)
    && (decide (op = 0x01) || decide (p.data.length = p.lenm1 + 1))

/-! ## Answers at the initiator (R84, R85, R370) -/

/-! The management SPI (R480). -/

/-- What MISO returns: its bytes since the address, for the reader. -/
def setMiso (d : Dev) (bs : List Byte) : Dev := { d with pkg := { d.pkg with miso := bs } }

/-- Four data bytes, bits [31:24] first. -/
def msbBytes (v : Nat) : List Byte := (toBytes 4 v).reverse

/-- The answer of a read: 0xA5, data, status. A read whose status is not OK returns data 0. -/
def spiReply (v st : Nat) : List Byte := [0xA5#8] ++ msbBytes (if st = 0 then v else 0) ++ [BitVec.ofNat 8 (st % 16)]

/-- The answer with `op` for the request `tag` of `who` arrives: an expired one is discarded, another is given to its
initiator, whose request is no longer outstanding. -/
def answerArrives (d : Dev) (op : Nat) (who : Who) (tag : Nat) : Dev :=
  match d.fab.flight.find? (fun q => q.op = op ∧ q.who = who ∧ q.tag = tag) with
  | none => d
  | some p =>
    if !firstOf d p then d
    else
      let d := landed d p
      let mine (q : Pkt) : Bool := decide (q.who = who) && decide (q.tag = tag)
      if p.src ≠ p.dst ∧ expired d p then cnt d Reg.FAB_CNT_EXPIRED 1
      else if p.src ≠ p.dst ∧ !d.fab.outst.any mine then d
      else
        let d := { d with fab := { d.fab with outst := eraseFirst mine d.fab.outst } }
        match who with
        | .core c => if op = 0x10 then coreRdata d c tag p.status p.data else coreWack d c tag p.status
        | .host _ => hostAnswer d tag op p.status p.data
        | .spi => setMiso d (if op = 0x10 then spiReply (ofBytes p.data) p.status else [0xA5#8, BitVec.ofNat 8 (p.status % 16)])
        | _ => d

/-! ## The end of a wake (R372, R373, R424) -/

/-- Held packets are delivered in order; one that has expired is discarded (R374). -/
def deliverHeld (d : Dev) : List Pkt → Dev
  | [] => d
  | p :: ps => deliverHeld (if expired d p then cnt d Reg.FAB_CNT_EXPIRED 1 else perform d p) ps

/-- WAKE_COMPLETE: the ramp of 4 µs has passed. The domain serves, its stop delivers the packets held and those that
circulate, and a power-down that was held for it begins. -/
def wakeComplete (d : Dev) (p : Nat) : Dev :=
  if domState d p = 5 ∧ usPassed d (mget 0 d.pwr.rampAt p) 4 then
    let d := wakeServe d p
    let mine (l : List (Nat × Pkt)) : List Pkt := (l.filter (fun x => decide (x.1 = p))).map (·.2)
    let other (l : List (Nat × Pkt)) : List (Nat × Pkt) := l.filter (fun x => decide (x.1 ≠ p))
    let hs := mine d.fab.heldPk ++ mine d.fab.circ
    let d := deliverHeld { d with fab := { d.fab with heldPk := other d.fab.heldPk, circ := other d.fab.circ } } hs
    if d.pwr.downHeld.contains p then drainDom { d with pwr := { d.pwr with downHeld := d.pwr.downHeld.filter (· ≠ p) } } p
    else d
  else d

/-! ## Hardware consumers (R218) -/

/-- HW_CONSUME: the consumer of queue q takes the entry at HEAD, in its turn. -/
def hwConsume (d : Dev) (q : Nat) : Dev :=
  match qType d q with
  | 0 => if nextWork d = some q then descriptorAccept d else d
  | 2 => if engNext d (qUnit d q / 32) (qUnit d q % 32) = some q then engTake d (qUnit d q / 32) (qUnit d q % 32) else d
  | 4 => macTake d q
  | _ => d

/-! ## Meanings -/

def execRead (p : Pkt) (s : State) : Out := run s (fun d => if pktOk p 0x01 then request d p else d)
def execWrite (p : Pkt) (s : State) : Out := run s (fun d => if pktOk p 0x02 then request d p else d)
def execDoorbell (p : Pkt) (s : State) : Out := run s (fun d => if pktOk p 0x20 then request d p else d)
def execRdata (who : Who) (tag : Nat) (s : State) : Out := run s (fun d => answerArrives d 0x10 who tag)
def execWack (who : Who) (tag : Nat) (s : State) : Out := run s (fun d => answerArrives d 0x11 who tag)
def execWakeComplete (p : Nat) (s : State) : Out := run s (fun d => wakeComplete d p)
def execHwConsume (q : Nat) (s : State) : Out := run s (fun d => hwConsume d q)

end Sys2Proof.Machine
end

