-- ==== Sys2Proof/Machine/DmaEngine.lean ====
section
/-! DEFINITION. The cluster DMA (R105 to R109): the checks of a transfer, its movement line by line with the checks of the
lines, its end, and the meanings of its rows. -/

namespace Sys2Proof.Machine

/-- Address of row r: base + r × stride modulo 2^48 (R106). -/
def rowAddr (base stride r : Nat) : Nat := pat 48 ((base : Int) + (r : Int) * sx 32 stride)

/-- Whether two ranges of `n` bytes share a byte. -/
def rowsMeet (a b n : Nat) : Bool := decide (a < b + n ∧ b < a + n)

/-- BAD_DESC (R106): a must-be-0 field, an empty row, a row outside one region or reaching an absent unit, or overlap. -/
def dmaBad (g : Grade) (t : Xfer) : Bool :=
  let rs := List.range t.nrows
  let src (r : Nat) : Nat := rowAddr t.src t.sstr r
  let dst (r : Nat) : Nat := rowAddr t.dst t.dstr r
  let ok (a : Nat) : Bool := inRegion a t.rlen && presentRange g a t.rlen
  !t.zerosOk || decide (t.rlen = 0) || rs.any (fun r => !ok (dst r)) ||
  (!t.fill && (rs.any (fun r => !ok (src r)) || rs.any (fun r => rs.any (fun q => rowsMeet (src r) (dst q) t.rlen))))

/-- The pieces of a transfer, one per destination line of each row: source, destination, bytes. -/
def dmaPieces (t : Xfer) : List (Nat × Nat × Nat) :=
  (List.range t.nrows).flatMap (fun r =>
    let dst := rowAddr t.dst t.dstr r
    let src := rowAddr t.src t.sstr r
    (linesOf dst t.rlen).map (fun la =>
      let lo := max la dst
      let hi := min (la + 64) (dst + t.rlen)
      (src + (lo - dst), lo, hi - lo)))

/-- What testing the source of a piece gives. -/
inductive SrcAns where
  | good (poisoned : Bool) | wait | err (addr : Nat)
  deriving DecidableEq, Repr

/-- Test the source lines of a piece, a line just tested not again; counts poisoned lines (R106, R107, R390). -/
def dmaTest (d : Dev) (x : Dma) : List Nat → Dev × Dma × SrcAns
  | [] => (d, x, .good false)
  | la :: ls =>
    match x.last with
    | some (l, p) =>
      if l = la then
        match dmaTest d x ls with
        | (d, x, .good q) => (d, x, .good (p || q))
        | r => r
      else
        match decideLine d la false with
        | (d, .ok) => dmaTest d { x with last := some (la, false) } ls
        | (d, .poison) =>
          match dmaTest d { x with last := some (la, true), npois := x.npois + 1 } ls with
          | (d, x, .good _) => (d, x, .good true)
          | r => r
        | (d, .wait) => (d, x, .wait)
        | (d, .recompute) => (d, x, .err la)
    | none =>
      match decideLine d la false with
      | (d, .ok) => dmaTest d { x with last := some (la, false) } ls
      | (d, .poison) =>
        match dmaTest d { x with last := some (la, true), npois := x.npois + 1 } ls with
        | (d, x, .good _) => (d, x, .good true)
        | r => r
      | (d, .wait) => (d, x, .wait)
      | (d, .recompute) => (d, x, .err la)

/-- Write the bytes of a piece; a whole line from one source line at the same offset keeps its check, any other line that
takes poisoned bytes is stored poisoned (R106). `none`: the write must wait. -/
def dmaPut (d : Dev) (src dst n : Nat) (bs : List Byte) (poisoned fill : Bool) : Option Dev :=
  let whole := decide (n = 64)
  let sameLine := whole && decide (src % 64 = 0) && !fill
  let syn := if sameLine then synOf d src else if poisoned then POISON else 0
  match memWrite d dst bs [] [syn] with
  | none => none
  | some d => some (if poisoned && !whole then poison d (lineOf dst) else d)

/-- An access at a piece's address that is answered with an error before memory is asked: an address that holds no memory
and no register, or one that may not be written (R32, R35, R230, R433, R452). -/
def dmaShut (d : Dev) (a n : Nat) (isSt : Bool) : Bool :=
  unitDown d a || coreGone d a || (!isReg a && (!inMem d.grade a n || (isSt && writeShut d.grade a)))

/-- The switchable domain behind an address, if it does not serve: the access waits at its stop and wakes it (R372). -/
def asleep (d : Dev) (a : Nat) : Option Nat :=
  if absentReg d.grade a then none
  else match domainOf a with
    | some p => if domPresent d.grade p && !domServes d p then some p else none
    | none => none

/-- The bytes of a piece's source: the fill word, a register, or lines of memory (R106, R107). -/
def dmaSource (c : Nat) (t : Xfer) (d : Dev) (x : Dma) (src dst n : Nat) : Dev × Dma × SrcAns × List Byte :=
  if t.fill then (d, x, .good false, (List.range n).map (fun i => BitVec.ofNat 8 (t.sstr / 2 ^ (8 * ((dst + i) % 4)))))
  else if dmaShut d src n false then (d, x, .err src, [])
  else if isReg src then
    match serveRead d (.dma (c / 8)) src n with
    | (d, some r) => (d, x, if r.status = 0 then .good false else .err src, r.data)
    | (d, none) => (d, x, .wait, [])
  else
    let (d, x, s) := dmaTest d x (linesOf src n)
    (d, x, s, getBytes d.mem src n)

/-- A piece written to a register: the word is written, or the answer is an error. The write may have reached this very
channel, whose queue then stands as written. -/
def dmaPutReg (c : Nat) (d : Dev) (x : Dma) (dst n : Nat) (bs : List Byte) : Dev × Dma × Bool :=
  match serveWrite d (.dma (c / 8)) dst bs [] [] with
  | (d, some 0) =>
    let q := (dmaOf d c).q
    let d := cnt d (Reg.CLU_CNT_DMA_BYTES (c / 8)) n
    if (q.head?.map (fun t => t.abort)).getD false then (d, { x with q := q, ended := true, status := 5 }, false)
    else (d, { x with q := q, pos := x.pos + 1 }, true)
  | (d, some _) => (d, { x with ended := true, status := 3, erraddr := dst }, false)
  | (d, none) => (d, x, false)

/-- Move pieces until the end, an error, or a piece that must wait: for a refetch, for a line that the host holds (R407), or
for a domain that is off. -/
def dmaMove (c : Nat) (t : Xfer) (d : Dev) (x : Dma) : List (Nat × Nat × Nat) → Dev × Dma
  | [] => (d, { x with ended := true, status := if 0 < x.npois then 1 else 0 })
  | (src, dst, n) :: ps =>
    match (if t.fill then none else asleep d src), asleep d dst with
    | some p, _ => (wakeRequest d p true, x)
    | none, some p => (wakeRequest d p true, x)
    | none, none =>
      match dmaSource c t d x src dst n with
      | (d, x, .wait, _) => (d, x)
      | (d, x, .err a, _) => (d, { x with ended := true, status := 2, erraddr := a })
      | (d, x, .good p, bs) =>
        if dmaShut d dst n true then (d, { x with ended := true, status := 3, erraddr := dst })
        else if isReg dst then
          match dmaPutReg c d x dst n bs with
          | (d, x, true) => dmaMove c t d x ps
          | (d, x, false) => (d, x)
        else
          match cohWrite d dst n with
          | (d, false) => (d, x)
          | (d, true) =>
          match dmaPut d src dst n bs p t.fill with
          | none => (d, x)
          | some d => dmaMove c t (cnt d (Reg.CLU_CNT_DMA_BYTES (c / 8)) n) { x with pos := x.pos + 1 } ps

/-- DMA_TRANSFER_START: the head transfer begins, or one that waited for a line goes on (R106). -/
def dmaStart (d : Dev) (c : Nat) : Dev :=
  let x := dmaOf d c
  match x.q with
  | [] => d
  | t :: _ =>
    if x.ended then d
    else
      let x := if x.run then x else { x with run := true, pos := 0, npois := 0, last := none, erraddr := 0 }
      if t.abort then setDma d c { x with ended := true, status := 5 }
      else if x.pos = 0 ∧ dmaBad d.grade t then setDma d c { x with ended := true, status := 4 }
      else
        let (d, x) := dmaMove c t d x ((dmaPieces t).drop x.pos)
        setDma d c x

/-- DMA_TRANSFER_END: the four steps of R107, then the channel is free for its next transfer. -/
def dmaEnd (d : Dev) (c : Nat) : Dev :=
  let x := dmaOf d c
  match x.q with
  | [] => d
  | t :: ts =>
    if x.run ∧ (x.ended ∨ t.abort) then
      let st := if x.ended then x.status else 5
      let d := setDma d c { Dma.reset with q := ts }
      let d := wr64 d (ccr c 0x130) (t.tag + st * 2 ^ 16 + x.npois % 2 ^ 32 * 2 ^ 32)
      let d := if st = 2 ∨ st = 3 then wr64 d (ccr c 0x138) (x.erraddr % 2 ^ 48) else d
      let d := fset d (ccr c 0x128) 31 16 ((fget d (ccr c 0x128) 31 16 + 1) % 65536)
      let n := c / 8
      let d := cnt (cnt d (Reg.CLU_CNT_DMA_XFER n) 1) (Reg.CLU_CNT_DMA_POISON n) x.npois
      let d := if st = 0 ∨ st = 5 then d else cnt d (Reg.CLU_CNT_DMA_ERR n) 1
      let d := if t.irq ∧ st = 0 then raiseIrq d c 3 else d
      let d := if st = 0 ∨ st = 5 then d else raiseIrq d c 4
      if t.ntEn then sendNotify d t.ntEv t.notify else d
    else d

/-! ## Meanings -/

/-- An 8-byte write of CCR_DMA_GO by any initiator (R105). -/
def execDmaGo (c : Nat) (v : BitVec 64) (s : State) : Out :=
  run s (fun d => if corePresent d.grade c then dmaGo d c v.toNat else d)
/-- A write of 1 to CCR_DMA_CTL.ABORT (R108). -/
def execDmaAbort (c : Nat) (s : State) : Out := run s (fun d => dmaAbort d c)
def execDmaTransferStart (c : Nat) (s : State) : Out := run s (fun d => dmaStart d c)
def execDmaTransferEnd (c : Nat) (s : State) : Out := run s (fun d => dmaEnd d c)

end Sys2Proof.Machine
end

