-- ==== Sys2Proof/Machine/Mac.lean ====
section
/-! DEFINITION. The M slot of a Glesen core (R123 to R131): multiply-accumulate, extraction, accumulator operations, `fir`
and the short-vector instructions. -/

namespace Sys2Proof.Machine

/-- An M-slot instruction. -/
def slotM (i : Iss) (op : Ctx → Op) (s : State) : Out := run s (issue i 2 op)

/-- An M-MAC result: latency 3, forwarded to the next M-MAC (R72, R125). -/
def Ctx.mac (k : Ctx) (acc : Nat) (v : Nat) : Inflight := ⟨k.bank, cAcc acc, v, 2 ^ 512 - 1, k.n + 3, k.n, true⟩

/-! ## MAC (R123, R124) -/

/-- The terms of a MODE in the order of its destinations, from the products p i j = half i of sa × half j of sb. -/
def macTerms (mode : Nat) (p : Nat → Nat → Int) : List Int :=
  match mode with
  | 0 => [p 0 0 - p 1 1, p 0 1 + p 1 0]
  | 1 => [p 0 0 + p 1 1, p 1 0 - p 0 1]
  | 2 => [p 0 0, p 1 1]
  | 3 => [p 0 1, p 1 0]
  | 4 => [p 0 0, p 1 1, p 0 1, p 1 0]
  | _ => [p 0 0]

/-- ACD of a MODE: even for a pair, 0 or 4 for four accumulators (R112, R123). -/
def macAcd (mode acd : Nat) : Bool := match mode with | 4 => decide (acd = 0 ∨ acd = 4) | 5 => true | _ => isEven acd

/-- A MAC instruction (R123, R124). -/
def opMM (f : FMM) (mode : Nat) (k : Ctx) : Op :=
  let a := k.s f.sa.toNat
  let b := k.s f.sb.toNat
  let p (i j : Nat) : Int := (if f.frac then 2 else 1) * (half a i * half b j)
  let ts := macTerms mode p
  let acd := f.acd.toNat
  Op.alu (macAcd mode acd) [cS f.sa.toNat, cS f.sb.toNat] (codes (cAcc acd) ts.length)
    ((List.range ts.length).map (fun i =>
      let t := ts.getD i 0
      k.mac (acd + i) (acc40 f.sat ((if f.zero then 0 else k.accF (acd + i)) + (if f.neg then - t else t)))))

/-- `cmac` (R123). -/
def execCmac (i : Iss) (f : FMM) (s : State) : Out := slotM i (opMM f 0) s
/-- `cmacj` (R123). -/
def execCmacj (i : Iss) (f : FMM) (s : State) : Out := slotM i (opMM f 1) s
/-- `dmac` (R123). -/
def execDmac (i : Iss) (f : FMM) (s : State) : Out := slotM i (opMM f 2) s
/-- `xmac` (R123). -/
def execXmac (i : Iss) (f : FMM) (s : State) : Out := slotM i (opMM f 3) s
/-- `qmac` (R123). -/
def execQmac (i : Iss) (f : FMM) (s : State) : Out := slotM i (opMM f 4) s
/-- `mac` (R123). -/
def execMac (i : Iss) (f : FMM) (s : State) : Out := slotM i (opMM f 5) s

/-! ## fir (R128, R129) -/

/-- `fir accd, (an)+mk` (R128). -/
def opFir (f : FMF) (k : Ctx) : Op :=
  let x := k.a f.an.toNat
  let m := f.mreg.toNat
  let acd := f.acd.toNat
  { legal := isEven acd && decide (f.mode.toNat ≤ 2) && decide (f.z = 0), reads := cA f.an.toNat :: cMod m,
    dests := codes (cAcc acd) 2 ++ [cA f.an.toNat], ct := false, stall := false, mem := 0,
    eff := fun u =>
      let u := { u with fir := true }
      match modUpdate x (k.rd (cM m)) (k.rd (cBase m)) (k.rd (cCtl m)) with
      | none => u.fail 1 2
      | some an =>
        if 0x40000 < x + 12 then u.failAt 5 2 0 x
        else if x % 8 ≠ 0 then u.failAt 4 2 0 x
        else { (u.put [k.res (cA f.an.toNat) an 1]) with
               ops := u.ops ++ [.fir x acd f.mode.toNat f.frac f.sat], acc := u.acc ++ [(x, 8, false), (x + 8, 4, true)] } }

/-- `fir` (R128). -/
def execFir (i : Iss) (f : FMF) (s : State) : Out := slotM i (opFir f) s

/-! ## Extraction and accumulator operations (R126, R127) -/

/-- `extw` (n = 32), `exth` (n = 16) and `extc` (two parts of 16): the value, and PF when it names a register. -/
def opExt (f : FME) (n parts : Nat) (k : Ctx) : Op :=
  let sd := f.sd.toNat
  let acs := f.acs.toNat
  let pf := f.pf.toNat
  let ys := (List.range parts).map (fun i => roundShift f.rm.toNat (k.acc (acs + i)) f.sh.toNat)
  let v := if parts = 2 then narrow 16 f.sat (ys.getD 0 0) + 2 ^ 16 * narrow 16 f.sat (ys.getD 1 0)
           else pat 32 (sx n (narrow n f.sat (ys.getD 0 0)))
  Op.alu (decide (f.rm.toNat ≠ 3) && decide (f.sh.toNat ≤ 39) && (decide (parts = 1) || isEven acs)) (codes (cAcc acs) parts)
    (cS sd :: (if pf = 0 then [] else [cP pf]))
    (k.res (cS sd) v 2 :: (if pf = 0 then [] else [k.res (cP pf) (b2n (ys.any (outside n))) 2]))

/-- `extw` (R126, R127). -/
def execExtw (i : Iss) (f : FME) (s : State) : Out := slotM i (opExt f 32 1) s
/-- `exth` (R126, R127). -/
def execExth (i : Iss) (f : FME) (s : State) : Out := slotM i (opExt f 16 1) s
/-- `extc` (R126, R127). -/
def execExtc (i : Iss) (f : FME) (s : State) : Out := slotM i (opExt f 16 2) s

/-- `clracc`: only ACD is used, the other fields are 0 (R127). -/
def execClracc (i : Iss) (f : FMA) (s : State) : Out :=
  slotM i (fun k => Op.alu (decide (f.acs = 0 ∧ f.sa = 0 ∧ f.sh = 0 ∧ f.z = 0) && !f.sat) [] [cAcc f.acd.toNat]
    [k.mac f.acd.toNat 0]) s
/-- `clracc.p` (R127). -/
def execClraccP (i : Iss) (f : FMA) (s : State) : Out :=
  slotM i (fun k => Op.alu (decide (f.acs = 0 ∧ f.sa = 0 ∧ f.sh = 0 ∧ f.z = 0) && !f.sat && isEven f.acd.toNat) []
    (codes (cAcc f.acd.toNat) 2) [k.mac f.acd.toNat 0, k.mac (f.acd.toNat + 1) 0]) s
/-- `movsa`: sign-extended sa shifted left by 0 to 8 (R127). -/
def execMovsa (i : Iss) (f : FMA) (s : State) : Out :=
  slotM i (fun k => Op.alu (decide (f.acs = 0 ∧ f.z = 0) && !f.sat && decide (f.sh.toNat ≤ 8)) [cS f.sa.toNat] [cAcc f.acd.toNat]
    [k.mac f.acd.toNat (pat 40 (sx 32 (k.s f.sa.toNat) * (2 ^ f.sh.toNat : Nat)))]) s
/-- `addacc` (R124, R127). -/
def execAddacc (i : Iss) (f : FMA) (s : State) : Out :=
  slotM i (fun k => Op.alu (decide (f.sa = 0 ∧ f.sh = 0 ∧ f.z = 0)) [cAcc f.acs.toNat] [cAcc f.acd.toNat]
    [k.mac f.acd.toNat (acc40 f.sat (k.accF f.acd.toNat + k.accF f.acs.toNat))]) s
/-- `subacc` (R124, R127). -/
def execSubacc (i : Iss) (f : FMA) (s : State) : Out :=
  slotM i (fun k => Op.alu (decide (f.sa = 0 ∧ f.sh = 0 ∧ f.z = 0)) [cAcc f.acs.toNat] [cAcc f.acd.toNat]
    [k.mac f.acd.toNat (acc40 f.sat (k.accF f.acd.toNat - k.accF f.acs.toNat))]) s
/-- `shacc`: left for a positive SH, arithmetic right for a negative one (R127). -/
def execShacc (i : Iss) (f : FMA) (s : State) : Out :=
  slotM i (fun k =>
    let n := sx 6 f.sh.toNat
    let a := k.accF f.acd.toNat
    let v : Nat := if 0 ≤ n then acc40 f.sat (a * (2 ^ n.toNat : Nat)) else pat 40 (a / (2 ^ (-n).toNat : Nat))
    Op.alu (decide (f.acs = 0 ∧ f.sa = 0 ∧ f.z = 0)) [] [cAcc f.acd.toNat] [k.mac f.acd.toNat v]) s
/-- `movga`: acc[39:32], sign-extended (R127). -/
def execMovga (i : Iss) (f : FMA) (s : State) : Out :=
  slotM i (fun k => Op.alu (decide (f.acd = 0 ∧ f.sh = 0 ∧ f.z = 0) && !f.sat) [cAcc f.acs.toNat] [cS f.sa.toNat]
    [k.res (cS f.sa.toNat) (pat 32 (k.acc f.acs.toNat / (2 ^ 32 : Nat))) 2]) s
/-- `movla`: acc[31:0] (R127). -/
def execMovla (i : Iss) (f : FMA) (s : State) : Out :=
  slotM i (fun k => Op.alu (decide (f.acd = 0 ∧ f.sh = 0 ∧ f.z = 0) && !f.sat) [cAcc f.acs.toNat] [cS f.sa.toNat]
    [k.res (cS f.sa.toNat) (pat 32 (k.acc f.acs.toNat)) 2]) s

/-! ## Short vectors (R130, R131) -/

/-- A short-vector operation over a group of four registers; `vb`: 2 names a group, 1 holds a shift below 16, 0 must be 0. -/
def opMV (f : FMV) (vb : Nat) (g : Nat → Nat → Nat) (k : Ctx) : Op :=
  let d := f.vd.toNat
  let a := f.va.toNat
  let b := f.vb.toNat
  Op.alu (isQuad d && isQuad a && (match vb with | 2 => isQuad b | 1 => decide (b < 16) | _ => decide (b = 0)))
    (codes (cS a) 4 ++ (if vb = 2 then codes (cS b) 4 else [])) (codes (cS d) 4)
    ((List.range 4).map (fun e => k.res (cS (d + e)) (g (k.s (a + e)) (if vb = 2 then k.s (b + e) else b)) 2))

/-- Each part by `h`. -/
def parts2 (h : Int → Int → Int) (a b : Nat) : Nat := mkC (h (half a 0) (half b 0)) (h (half a 1) (half b 1))

/-- `svadd` (R130). -/
def execSvadd (i : Iss) (f : FMV) (s : State) : Out := slotM i (opMV f 2 (parts2 (fun x y => x + y))) s
/-- `svadds` (R130). -/
def execSvadds (i : Iss) (f : FMV) (s : State) : Out := slotM i (opMV f 2 (parts2 (fun x y => sat 16 (x + y)))) s
/-- `svsub` (R130). -/
def execSvsub (i : Iss) (f : FMV) (s : State) : Out := slotM i (opMV f 2 (parts2 (fun x y => x - y))) s
/-- `svsubs` (R130). -/
def execSvsubs (i : Iss) (f : FMV) (s : State) : Out := slotM i (opMV f 2 (parts2 (fun x y => sat 16 (x - y)))) s
/-- `svconj` (R130). -/
def execSvconj (i : Iss) (f : FMV) (s : State) : Out := slotM i (opMV f 0 (fun a _ => mkC (half a 0) (sat 16 (- half a 1)))) s
/-- `svrotj` (R130). -/
def execSvrotj (i : Iss) (f : FMV) (s : State) : Out := slotM i (opMV f 0 (fun a _ => mkC (sat 16 (- half a 1)) (half a 0))) s
/-- `svrotnj` (R130). -/
def execSvrotnj (i : Iss) (f : FMV) (s : State) : Out := slotM i (opMV f 0 (fun a _ => mkC (half a 1) (sat 16 (- half a 0)))) s
/-- `svshr` (R130). -/
def execSvshr (i : Iss) (f : FMV) (s : State) : Out := slotM i (opMV f 1 (fun a n => mkC (roundShift 2 (half a 0) n) (roundShift 2 (half a 1) n))) s
/-- `svcmul` (R130). -/
def execSvcmul (i : Iss) (f : FMV) (s : State) : Out := slotM i (opMV f 2 (cmulQ15 false)) s
/-- `svcmulj` (R130). -/
def execSvcmulj (i : Iss) (f : FMV) (s : State) : Out := slotM i (opMV f 2 (cmulQ15 true)) s
/-- `svswap` (R130). -/
def execSvswap (i : Iss) (f : FMV) (s : State) : Out := slotM i (opMV f 0 (fun a _ => mkC (half a 1) (half a 0))) s

end Sys2Proof.Machine
end

