-- ==== Sys2Proof/Machine/Matrix.lean ====
section
/-! DEFINITION. The matrix engine (R247 to R254): its descriptor, plane arrays, and the eight operations. The inverse in
floating point is open in its rounding (`Config.mxInv`); everything around it is exact, then rounded as R249 gives. -/

namespace Sys2Proof.Machine

/-- The fields of a matrix descriptor (R248). -/
structure MxD where
  op : Nat
  in0 : Nat
  in1 : Nat
  out0 : Nat
  out1 : Nat
  nsc : Nat
  nant : Nat
  nlay : Nat
  nsym : Nat
  gcode : Nat
  qm : Nat
  sh : Nat
  noise : Nat
  llrsc : Nat
  sp : Nat
  off : Nat
  occl : Nat
  smooth : Nat
  hexp : Nat
  zeros : Bool
  deriving DecidableEq, Repr

def mxD (x : List Byte) : MxD :=
  { op := dbits x 0 7 0, in0 := dbits x 0x10 47 0, nsc := dbits x 0x10 63 48, in1 := dbits x 0x18 47 0,
    nant := dbits x 0x18 53 48 + 1, nlay := dbits x 0x18 57 54 + 1, nsym := dbits x 0x18 61 58 + 1, out0 := dbits x 0x20 47 0,
    gcode := dbits x 0x20 50 48, qm := dbits x 0x20 53 51, sh := dbits x 0x20 57 54, out1 := dbits x 0x28 47 0,
    noise := dbits x 0x30 31 0, llrsc := dbits x 0x34 15 0, sp := dbits x 0x38 2 0, off := dbits x 0x38 5 3,
    occl := dbits x 0x38 7 6, smooth := dbits x 0x38 12 8, hexp := dbits x 0x38 20 16,
    zeros := decide (dbits x 0x18 63 62 = 0) && decide (dbits x 0x20 63 58 = 0) && decide (dbits x 0x28 63 48 = 0)
      && decide (dbits x 0x34 31 16 = 0) && decide (dbits x 0x38 15 13 = 0) && decide (dbits x 0x38 31 21 = 0)
      && decide (dbits x 0x3C 31 0 = 0) }

/-- G, Qm and the code length of their codes. -/
def MxD.g (m : MxD) : Nat := [1, 2, 3, 4, 6, 12, 24].getD m.gcode 1
def MxD.bitsPer (m : MxD) : Nat := [1, 2, 4, 6, 8, 10].getD m.qm 1
def MxD.code (m : MxD) : Nat := 2 ^ m.occl
/-- The number of groups, and of reference positions (R247). -/
def MxD.ng (m : MxD) : Nat := ceilDiv m.nsc m.g
def MxD.nref (m : MxD) : Nat := if m.sp = 0 then 0 else ceilDiv (m.nsc - m.off) m.sp
/-- The centre subcarrier of group q (R249). -/
def MxD.centre (m : MxD) (q : Nat) : Nat := q * m.g + (min m.g (m.nsc - q * m.g) - 1) / 2

/-- Bytes of a plane array (R249). -/
def planeBytes (planes rows n e : Nat) : Nat := planes * rows * up64 (n * e)
/-- Offset of element k of row t of plane p. -/
def elemOff (rows n e p t k : Nat) : Nat := (p * rows + t) * up64 (n * e) + k * e
/-- Bytes of a W record (R252). -/
def MxD.wRec (m : MxD) : Nat := 64 + up64 (4 * m.nant * m.nlay)

/-- Input and output extents of each operation (R247). -/
def MxD.ins (m : MxD) : List Ext :=
  let y := planeBytes m.nant m.nsym m.nsc 4
  let h := planeBytes (m.nant * m.nlay) 1 m.nsc 4
  match m.op with
  | 0x10 => [(m.in0, planeBytes m.nant m.nsym m.nref 4), (m.in1, planeBytes m.nlay m.nsym m.nref 4)]
  | 0x11 => [(m.in0, h), (m.in1, h)]
  | 0x12 => [(m.in0, y), (m.in1, h)]
  | 0x13 => [(m.in0, y), (m.in1, h)]
  | 0x14 => [(m.in0, y), (m.in1, h)]
  | 0x15 => [(m.in0, h)]
  | 0x16 => [(m.in0, planeBytes m.nlay m.nsym m.nsc 4), (m.in1, m.ng * m.wRec)]
  | _ => [(m.in0, planeBytes m.nlay m.nsym m.nsc 4), (m.in1, planeBytes m.nlay 1 m.ng 2)]
def MxD.outs (m : MxD) : List Ext :=
  match m.op with
  | 0x10 => [(m.out0, planeBytes (m.nant * m.nlay) 1 m.nsc 4)]
  | 0x11 => [(m.out0, planeBytes (m.nant * m.nlay) 1 m.nsc 4)]
  | 0x12 => [(m.out0, planeBytes 1 m.nsym m.nsc 4), (m.out1, planeBytes 1 1 m.nsc 2)]
  | 0x13 => [(m.out0, planeBytes m.nlay m.nsym m.nsc 4), (m.out1, planeBytes m.nlay 1 m.ng 2)]
  | 0x14 => [(m.out0, planeBytes m.nlay m.nsym m.nsc 4), (m.out1, planeBytes m.nlay 1 m.ng 2)]
  | 0x15 => [(m.out0, m.ng * m.wRec)]
  | 0x16 => [(m.out0, planeBytes m.nant m.nsym m.nsc 4)]
  | _ => [(m.out0, planeBytes m.nlay m.nsym m.nsc m.bitsPer)]

/-- Fields within their ranges, unused fields 0 (R234, R247, R248). -/
def MxD.fieldsOk (m : MxD) : Bool :=
  let noRef := m.sp = 0 && m.off = 0 && m.occl = 0 && m.smooth = 0
  let noQ := m.qm = 0
  m.zeros && decide (1 ≤ m.nsc ∧ m.nsc ≤ 3300) && decide (m.nsym ≤ 14) && decide (m.gcode < 7) && decide (m.qm < 6)
    && decide (m.hexp < 16) &&
  (match m.op with
  | 0x10 => m.out1 = 0 && m.gcode = 0 && noQ && m.noise = 0 && m.llrsc = 0 && m.hexp = 0 && decide (1 ≤ m.sp ∧ m.sp ≤ 6)
      && decide (m.off < m.sp) && decide (m.occl < 3) && decide (m.smooth % 2 = 1)
  | 0x11 => m.nsym = 1 && m.out1 = 0 && m.gcode = 0 && noQ && m.llrsc = 0 && noRef && m.hexp = 0
  | 0x12 => noQ && m.sh = 0 && m.llrsc = 0 && noRef
  | 0x13 => noQ && m.sh = 0 && m.llrsc = 0 && noRef
  | 0x14 => noQ && m.sh = 0 && m.llrsc = 0 && noRef
  | 0x15 => m.in1 = 0 && m.nsym = 1 && m.out1 = 0 && noQ && m.sh = 0 && m.llrsc = 0 && noRef
  | 0x16 => m.out1 = 0 && noQ && m.noise = 0 && m.llrsc = 0 && noRef && m.hexp = 0
  | _ => m.nant = 1 && m.out1 = 0 && m.sh = 0 && m.noise = 0 && noRef && m.hexp = 0)

/-- BAD_DIM (R248). -/
def MxD.dimOk (m : MxD) : Bool :=
  match m.op with
  | 0x10 => decide (m.nsym ≤ 2) && decide (m.nref % m.code = 0)
  | 0x12 => m.nlay = 1 && m.gcode = 0
  | 0x14 => decide (m.nlay ≤ m.nant)
  | 0x15 => decide (m.nlay ≤ m.nant)
  | _ => true

/-- The first failing check of a matrix job (R234). -/
def MxD.cause (m : MxD) (x : List Byte) : Nat :=
  if !headerOk x || !m.fieldsOk then 2
  else
    let c := extCause m.ins m.outs
    if c ≠ 0 then c else if m.dimOk then 0 else 6

/-- Cycles (R254). -/
def MxD.cycles (m : MxD) : Nat :=
  let al := m.nant * m.nlay
  let nm := m.nsc * m.nsym
  let inv := ceilDiv (m.nant * m.nlay ^ 2) 256 + ceilDiv (m.nlay ^ 3) 64 + 40
  100 + match m.op with
  | 0x10 => ceilDiv (m.nref * m.nsym * al) 64 + ceilDiv (m.nsc * al) 64 + 100
  | 0x11 => ceilDiv (m.nsc * al) 64
  | 0x12 => ceilDiv (nm * m.nant) 64
  | 0x13 => m.ng * inv + ceilDiv (nm * al) 256
  | 0x14 => m.ng * inv + ceilDiv (nm * al) 256
  | 0x15 => m.ng * (inv + ceilDiv al 64)
  | 0x16 => ceilDiv (nm * al) 256
  | _ => if m.qm ≤ 3 then ceilDiv (nm * m.nlay) 16 else ceilDiv (nm * m.nlay) 8

/-! ## Complex rationals -/

abbrev CR := Rat × Rat
def crAdd (a b : CR) : CR := (a.1 + b.1, a.2 + b.2)
def crSub (a b : CR) : CR := (a.1 - b.1, a.2 - b.2)
def crMul (a b : CR) : CR := (a.1 * b.1 - a.2 * b.2, a.1 * b.2 + a.2 * b.1)
def crConj (a : CR) : CR := (a.1, -a.2)
def crScale (k : Rat) (a : CR) : CR := (k * a.1, k * a.2)
def crAbs2 (a : CR) : Rat := a.1 * a.1 + a.2 * a.2
def crSum (l : List CR) : CR := l.foldl crAdd (0, 0)
def ratSum (l : List Rat) : Rat := l.foldl (· + ·) 0

/-- 2^k for any integer k. -/
def pow2 (k : Int) : Rat := if 0 ≤ k then ((2 ^ k.toNat : Nat) : Rat) else 1 / ((2 ^ (-k).toNat : Nat) : Rat)

/-- The ci16 element at a byte offset. -/
def cAt (bs : List Byte) (o : Nat) : CR := let (a, b) := ci16 ((bs.drop o).take 4); ((a : Rat), (b : Rat))

/-- A quotient, open where the divisor is 0. -/
def divOpen (x bs : List Byte) (i : Nat) (a b : Rat) : Rat := if b = 0 then (Config.job x bs i : Rat) else a / b

/-- A ci16 output and its saturated parts. -/
def putC (v : CR) : List Byte × Nat :=
  let a := convR v.1
  let b := convR v.2
  (putCi16 (sat 16 a) (sat 16 b), b2n (decide (a ≠ sat 16 a)) + b2n (decide (b ≠ sat 16 b)))

/-- γ: unsigned Q10.6, saturating at 65,535. -/
def putG (v : Rat) : List Byte × Nat :=
  let g := convR (v * 64)
  if g < 0 then (toBytes 2 0, 0) else if 65535 < g then (toBytes 2 65535, 1) else (toBytes 2 g.toNat, 0)

/-- A plane array built from its elements, each row padded, with the saturated parts. -/
def planes (np nt nk e : Nat) (f : Nat → Nat → Nat → List Byte × Nat) : List Byte × Nat :=
  (List.range np).foldl (fun acc p =>
    (List.range nt).foldl (fun acc t =>
      let row := (List.range nk).foldl (fun (r : List Byte × Nat) k => let (b, n) := f p t k; (r.1 ++ b, r.2 + n)) ([], 0)
      (acc.1 ++ padTo (up64 (nk * e)) row.1, acc.2 + row.2)) acc) ([], 0)

/-- The result of a job: SATCNT in RESULT, STATUS SAT or SINGULAR. -/
def mxOut (m : MxD) (outs : List (Nat × List Byte)) (satc singular info : Nat) : JobOut :=
  ⟨outs, if 0 < singular then 2 else if 0 < satc then 1 else 0, satc % 2 ^ 32, info % 2 ^ 32, m.cycles⟩

/-! ## The operations over their input bytes -/

/-- CHEST (R250). -/
def chest (m : MxD) (x bs : List Byte) : JobOut :=
  let n0 := planeBytes m.nant m.nsym m.nref 4
  let y (a t i : Nat) : CR := cAt bs (elemOff m.nsym m.nref 4 a t i)
  let p (l t i : Nat) : CR := cAt bs (n0 + elemOff m.nsym m.nref 4 l t i)
  let o := m.code
  let nq := m.nref / o
  let raw (a l q : Nat) : CR :=
    let terms := (List.range m.nsym).flatMap (fun t => (List.range o).map (fun r =>
      let i := q * o + r
      let den := crAbs2 (p l t i)
      let num := crMul (y a t i) (crConj (p l t i))
      (divOpen x bs (2 * i) num.1 den, divOpen x bs (2 * i + 1) num.2 den)))
    crScale (1 / (terms.length : Rat)) (crSum terms)
  let w := (m.smooth - 1) / 2
  let avg (a l q : Nat) : CR :=
    let qs := (List.range nq).filter (fun r => decide (q ≤ r + w ∧ r ≤ q + w))
    crScale (1 / (qs.length : Rat)) (crSum (qs.map (raw a l)))
  let pos (q : Nat) : Nat := m.off + m.sp * (q * o) + m.sp * (o - 1) / 2
  let h (a l k : Nat) : CR :=
    if nq = 0 then ((Config.job x bs (2 * k) : Rat), (Config.job x bs (2 * k + 1) : Rat))
    else
      let q := ((List.range nq).filter (fun r => decide (pos r ≤ k))).length
      if q = 0 then avg a l 0
      else if q = nq then avg a l (nq - 1)
      else
        let lo := pos (q - 1)
        let hi := pos q
        let u : Rat := ((k - lo : Nat) : Rat) / ((hi - lo : Nat) : Rat)
        crAdd (crScale (1 - u) (avg a l (q - 1))) (crScale u (avg a l q))
  let out := planes (m.nant * m.nlay) 1 m.nsc 4 (fun pl _ k => putC (crScale (pow2 (15 - (m.sh : Int))) (h (pl / m.nlay) (pl % m.nlay) k)))
  let errs := (List.range m.nant).flatMap (fun a => (List.range m.nsym).flatMap (fun t => (List.range m.nref).map (fun i =>
    crAbs2 (crSub (y a t i) (crSum ((List.range m.nlay).map (fun l => crMul (h a l (m.off + m.sp * i)) (p l t i))))))))
  let noise := if errs.isEmpty then Config.job x bs 0 % (2 ^ 32 : Nat) else min (2 ^ 32 - 1) (convR (ratSum errs / (errs.length : Rat)))
  mxOut m [(m.out0, out.1)] out.2 0 noise.toNat

/-- TCOMB (R250). -/
def tcomb (m : MxD) (bs : List Byte) : JobOut :=
  let n0 := planeBytes (m.nant * m.nlay) 1 m.nsc 4
  let al : Rat := (sx 16 m.noise : Rat) / 32768
  let be : Rat := (sx 16 (m.noise / 2 ^ 16) : Rat) / 32768
  let out := planes (m.nant * m.nlay) 1 m.nsc 4 (fun pl _ k =>
    let o := elemOff 1 m.nsc 4 pl 0 k
    putC (crScale (pow2 (-(m.sh : Int))) (crAdd (crScale al (cAt bs o)) (crScale be (cAt bs (n0 + o))))))
  mxOut m [(m.out0, out.1)] out.2 0 0

/-- The real value of an element of H, and σ². -/
def MxD.hScale (m : MxD) : Rat := pow2 ((m.hexp : Int) - 15)
def MxD.sigma2 (m : MxD) : Rat := (m.noise : Rat) / (2 ^ 30 : Nat)

/-- EQ1 (R251). -/
def eq1 (m : MxD) (x bs : List Byte) : JobOut :=
  let n0 := planeBytes m.nant m.nsym m.nsc 4
  let h (a k : Nat) : CR := crScale m.hScale (cAt bs (n0 + elemOff 1 m.nsc 4 a 0 k))
  let y (a t k : Nat) : CR := crScale (pow2 (-15)) (cAt bs (elemOff m.nsym m.nsc 4 a t k))
  let hh (k : Nat) : Rat := ratSum ((List.range m.nant).map (fun a => crAbs2 (h a k)))
  let o0 := planes 1 m.nsym m.nsc 4 (fun _ t k =>
    let num := crSum ((List.range m.nant).map (fun a => crMul (crConj (h a k)) (y a t k)))
    let den := hh k + m.sigma2
    putC (crScale 8192 (divOpen x bs (2 * k) num.1 den, divOpen x bs (2 * k + 1) num.2 den)))
  let o1 := planes 1 1 m.nsc 2 (fun _ _ k => if m.noise = 0 then (toBytes 2 65535, 1) else putG (hh k / m.sigma2))
  mxOut m [(m.out0, o0.1), (m.out1, o1.1)] (o0.2 + o1.2) 0 0

/-- H of one subcarrier as antenna rows by layer, from plane array bytes at offset `o`. -/
def MxD.hAt (m : MxD) (bs : List Byte) (o k a l : Nat) : CR :=
  crScale m.hScale (cAt bs (o + elemOff 1 m.nsc 4 (a * m.nlay + l) 0 k))

/-- HᴴH + s I of one subcarrier, row by row, with the diagonal raised when a pivot is too small; and whether it was. -/
def MxD.gram (m : MxD) (h : Nat → Nat → CR) (s : Rat) : List CR × Bool :=
  let hh := (List.range m.nlay).flatMap (fun i => (List.range m.nlay).map (fun l =>
    crSum ((List.range m.nant).map (fun a => crMul (crConj (h a i)) (h a l)))))
  let tr := ratSum ((List.range m.nlay).map (fun i => (hh.getD (i * m.nlay + i) (0, 0)).1))
  let plus (c : Rat) (l : List CR) : List CR := l.zipIdx.map (fun e => if e.2 / m.nlay = e.2 % m.nlay then (e.1.1 + c, e.1.2) else e.1)
  let g := plus s hh
  if Config.mxSmallPivot m.nlay g then (plus (tr / (m.nlay : Rat) / (2 ^ 20 : Nat)) g, true) else (g, false)

/-- MMSE and ZF (R251). -/
def mmse (m : MxD) (x bs : List Byte) : JobOut :=
  let n0 := planeBytes m.nant m.nsym m.nsc 4
  let zf := m.op = 0x14 || m.noise = 0
  let s := if zf then 0 else m.sigma2
  let h (q a l : Nat) : CR := m.hAt bs n0 (m.centre q) a l
  let gr (q : Nat) : List CR × Bool := m.gram (h q) s
  let inv (q i l : Nat) : CR := Config.mxInv m.nlay (gr q).1 (i * m.nlay + l)
  let y (a t k : Nat) : CR := crScale (pow2 (-15)) (cAt bs (elemOff m.nsym m.nsc 4 a t k))
  let o0 := planes m.nlay m.nsym m.nsc 4 (fun l t k =>
    let q := k / m.g
    let z := crSum ((List.range m.nlay).map (fun i => crMul (inv q l i)
      (crSum ((List.range m.nant).map (fun a => crMul (crConj (h q a i)) (y a t k))))))
    putC (crScale 8192 z))
  let o1 := planes m.nlay 1 m.ng 2 (fun l _ q =>
    let den := m.sigma2 * (inv q l l).1
    if m.noise = 0 then (toBytes 2 65535, 1)
    else putG (divOpen x bs (l * m.ng + q) 1 den - (if zf then 0 else 1)))
  let sing := ((List.range m.ng).filter (fun q => (gr q).2)).length
  mxOut m [(m.out0, o0.1), (m.out1, o1.1)] (o0.2 + o1.2) sing sing

/-- The largest r with r² ≤ n, within `k` bits. -/
def isqrt (k n : Nat) : Nat :=
  (List.range k).foldl (fun r i => let t := r + 2 ^ (k - 1 - i); if t * t ≤ n then t else r) 0

/-- Round the square root of a rational to the nearest integer, ties to even. -/
def sqrtRound (q : Rat) : Nat :=
  let f := (q * 4).floor.toNat
  let s := isqrt 64 f
  let m := (s + 1) / 2
  if s % 2 = 1 ∧ ((s * s : Nat) : Rat) = q * 4 ∧ m % 2 = 1 then m - 1 else m

/-- BFWEIGHT (R252). -/
def bfweight (m : MxD) (x bs : List Byte) : JobOut :=
  let h (q a l : Nat) : CR := m.hAt bs 0 (m.centre q) a l
  let gr (q : Nat) : List CR × Bool := m.gram (h q) m.sigma2
  let w (q a l : Nat) : CR := crSum ((List.range m.nlay).map (fun i => crMul (h q a i) (Config.mxInv m.nlay (gr q).1 (i * m.nlay + l))))
  let sq (q a l : Nat) (part : CR → Rat) : Rat × Bool :=
    let den := (m.nlay : Rat) * ratSum ((List.range m.nant).map (fun b => crAbs2 (w q b l)))
    let v := part (w q a l)
    (divOpen x bs ((q * 64 + a) * 16 + l) (v * v) den, decide (v < 0))
  let vals (q : Nat) : List (Rat × Bool) :=
    (List.range m.nant).flatMap (fun a => (List.range m.nlay).flatMap (fun l => [sq q a l (·.1), sq q a l (·.2)]))
  let fits (q : Nat) (e : Int) : Bool := (vals q).all (fun v => decide (sqrtRound (v.1 * pow2 (2 * (15 - e))) ≤ 32767))
  let wexp (q : Nat) : Int := ((List.range 256).map (fun i : Nat => (i : Int) - 15) |>.find? (fits q)).getD 0
  let rec1 (q : Nat) : List Byte :=
    let e := wexp q
    padTo 64 [BitVec.ofInt 8 e] ++ padTo (up64 (4 * m.nant * m.nlay)) ((vals q).flatMap (fun v =>
      let r : Int := sqrtRound (v.1 * pow2 (2 * (15 - e)))
      toBytes 2 (pat 16 (sat 16 (if v.2 then -r else r)))))
  let sing := ((List.range m.ng).filter (fun q => (gr q).2)).length
  mxOut m [(m.out0, ((List.range m.ng).map rec1).flatten)] 0 sing sing

/-- PRECODE (R252). -/
def precode (m : MxD) (bs : List Byte) : JobOut :=
  let n0 := planeBytes m.nlay m.nsym m.nsc 4
  let wexp (q : Nat) : Int := sx 8 (ofBytes ((bs.drop (n0 + q * m.wRec)).take 1))
  let w (q a l : Nat) : CR := cAt bs (n0 + q * m.wRec + 64 + 4 * (a * m.nlay + l))
  let out := planes m.nant m.nsym m.nsc 4 (fun a t k =>
    let q := k / m.g
    putC (crScale (pow2 (wexp q - 15 - (m.sh : Int)))
      (crSum ((List.range m.nlay).map (fun l => crMul (w q a l) (cAt bs (elemOff m.nsym m.nsc 4 l t k)))))))
  mxOut m [(m.out0, out.1)] out.2 0 0

/-- One coordinate of a constellation point in units of 1/√norm, from its bits, the outermost sign first
(TS 38.211 clause 5.1, which the spec cites). -/
def axis : List Bool → Int
  | [] => 1
  | b :: bs =>
    let inner : Int := if bs.isEmpty then 0 else axis bs
    (if b then -1 else 1) * ((2 ^ bs.length : Nat) - inner)

/-- The point of a bit pattern (bit i of `c` is bit i of the element): real and imaginary parts in units of 1/√norm. -/
def consPoint (qm c : Nat) : Int × Int :=
  if qm = 1 then (let v := axis [c.testBit 0]; (v, v))
  else
    (axis ((List.range (qm / 2)).map (fun i => c.testBit (2 * i))), axis ((List.range (qm / 2)).map (fun i => c.testBit (2 * i + 1))))

/-- norm: the mean of |point|² in those units. -/
def consNorm (qm : Nat) : Nat :=
  match qm with
  | 1 => 2 | 2 => 2 | 4 => 10 | 6 => 42 | 8 => 170 | _ => 682

/-- Whether a − b√n < 0. -/
def negSqrt (a b : Int) (n : Nat) : Bool :=
  if 0 ≤ b then decide (a < 0 ∨ a * a < b * b * n) else decide (a < 0 ∧ b * b * n < a * a)

/-- floor((a − b√n) / c). -/
def floorSqrt (a b : Int) (n c : Nat) : Int :=
  let r := isqrt 80 (b * b * n).toNat
  let exact := decide ((r * r : Nat) = b * b * n)
  if 0 ≤ b then (a - r - (if exact then 0 else 1)) / c else (a + r) / c

/-- DEMAP (R253): distances are (4096 A − B√n) / (4096 n), with A = |p|² and B = x̂ · p. -/
def demap (m : MxD) (bs : List Byte) : JobOut :=
  let qm := m.bitsPer
  let n := consNorm qm
  let n0 := planeBytes m.nlay m.nsym m.nsc 4
  let out := planes m.nlay m.nsym m.nsc qm (fun l t k =>
    let (xr, xi) := ci16 ((bs.drop (elemOff m.nsym m.nsc 4 l t k)).take 4)
    let ga := ofBytes ((bs.drop (n0 + elemOff 1 m.ng 2 l 0 (k / m.g))).take 2)
    let best (b : Nat) (v : Bool) : Int × Int :=
      ((List.range (2 ^ qm)).foldl (fun (acc : Option (Int × Int)) c =>
        if c.testBit b = v then
          let (pr, pi) := consPoint qm c
          let d : Int × Int := (4096 * (pr * pr + pi * pi), xr * pr + xi * pi)
          match acc with
          | none => some d
          | some e => if negSqrt (d.1 - e.1) (d.2 - e.2) n then some d else some e
        else acc) none).getD (0, 0)
    let bits := (List.range qm).map (fun b =>
      let d1 := best b true
      let d0 := best b false
      let kk : Int := m.llrsc * ga
      let p := kk * (d1.1 - d0.1)
      let q := kk * (d1.2 - d0.2)
      let den := 2 ^ 26 * n
      let r : Int := if q = 0 then convQ p den else floorSqrt (2 * p + den) (2 * q) n (2 * den)
      BitVec.ofInt 8 (if 127 < r then 127 else if r < -127 then -127 else r))
    (bits, 0))
  mxOut m [(m.out0, out.1)] 0 0 0

/-! ## Meanings -/

/-- What a matrix descriptor asks. -/
def mxPlan (f : MxD → List Byte → List Byte → JobOut) (x : List Byte) : JobPlan := ((mxD x).cause x, (mxD x).ins, f (mxD x) x)

/-- Run the job of matrix engine j, if its OP is `op`. -/
def mxRun (d : Dev) (j op : Nat) (f : MxD → List Byte → List Byte → JobOut) : Dev :=
  match jobWith d 1 j op with
  | none => d
  | some x => runPlan d 1 j (mxPlan f x)

def execChest (j : Nat) (s : State) : Out := run s (fun d => mxRun d j 0x10 chest)
def execTcomb (j : Nat) (s : State) : Out := run s (fun d => mxRun d j 0x11 (fun m _ bs => tcomb m bs))
def execEq1 (j : Nat) (s : State) : Out := run s (fun d => mxRun d j 0x12 eq1)
def execMmse (j : Nat) (s : State) : Out := run s (fun d => mxRun d j 0x13 mmse)
def execZf (j : Nat) (s : State) : Out := run s (fun d => mxRun d j 0x14 mmse)
def execBfweight (j : Nat) (s : State) : Out := run s (fun d => mxRun d j 0x15 bfweight)
def execPrecode (j : Nat) (s : State) : Out := run s (fun d => mxRun d j 0x16 (fun m _ bs => precode m bs))
def execDemap (j : Nat) (s : State) : Out := run s (fun d => mxRun d j 0x17 (fun m _ bs => demap m bs))

end Sys2Proof.Machine
end

