-- ==== Sys2Proof/Machine/Firmware.lean ====
section
/-! DEFINITION. The baseline firmware's part of the interface (file 00): the resource map (R10, R11), foreign writes (R9), profile
descriptors (R13), the limits of R27, R29 and R296, and requests with their replies (R12). What the firmware is free
to choose, which resources it claims and which register values it gives them, comes with the command. -/

namespace Sys2Proof.Machine

/-! ## The resource map (R10, R11) -/

/-- The die address of a published map. -/
def fwMap (d : Dev) : Option Nat :=
  let a := rd64 d Reg.SRL_RMAP % 2 ^ 48
  if a ≠ 0 ∧ inMem d.grade a 64 ∧ a < hbmSize d.grade ∧ getNum d.mem a 4 = 0x504D5352 then some a else none

/-- One claim: KIND, GROUP, CELL, COUNT, FIRST. -/
structure Claim where
  kind : Nat
  group : Nat
  cell : Nat
  count : Nat
  first : Nat
  deriving DecidableEq, Repr

/-- The claim in 16 bytes of a map, and the bytes of a claim. -/
def claimOf (bs : List Byte) : Claim :=
  ⟨imgNum bs 0 1, imgNum bs 1 1, imgNum bs 2 2, imgNum bs 4 4, imgNum bs 8 8⟩
def claimBytes (c : Claim) : List Byte :=
  toBytes 1 c.kind ++ toBytes 1 c.group ++ toBytes 2 c.cell ++ toBytes 4 c.count ++ toBytes 8 c.first

/-- The claims of the map at `a`. -/
def claimsAt (d : Dev) (a : Nat) : List Claim :=
  (List.range (min 65536 (getNum d.mem (a + 0xC) 4))).map (fun e => claimOf (getBytes d.mem (a + 0x40 + 16 * e) 16))

/-- Entries are sorted by KIND, then GROUP, then FIRST. -/
def claimKey (c : Claim) : Nat := (c.kind * 256 + c.group) * 2 ^ 64 + c.first
def claimsMeet (a b : Claim) : Bool :=
  decide (a.kind = b.kind) && decide (a.group = b.group) && decide (a.first < b.first + b.count) && decide (b.first < a.first + a.count)

/-- The map is rewritten with new claims; SEQ is even again, two further on. -/
def writeClaims (d : Dev) (a : Nat) (cs : List Claim) : Dev :=
  let seq := getNum d.mem (a + 8) 4
  let d := memPut d (a + 0x40) (cs.flatMap claimBytes)
  memPut d (a + 8) (toBytes 4 ((seq / 2 * 2 + 2) % 2 ^ 32) ++ toBytes 4 cs.length)

/-- Claims for a cell are added; one that meets an entry, or that no longer fits the map, is not. -/
def addClaims (d : Dev) (a cell : Nat) (new : List FwClaim) : Dev :=
  let cs := new.foldl (fun cs (n : FwClaim) =>
    let c : Claim := ⟨n.kind % 256, n.group % 256, cell, n.count % 2 ^ 32, n.first % 2 ^ 64⟩
    if cs.any (claimsMeet c) || decide (65536 ≤ cs.length) then cs else insertBy claimKey c cs) (claimsAt d a)
  if new.isEmpty then d else writeClaims d a cs

/-- The claims of a cell are removed. -/
def dropClaims (d : Dev) (a cell : Nat) : Dev :=
  let cs := claimsAt d a
  let keep := cs.filter (fun c => c.cell ≠ cell)
  if keep.length = cs.length then d else writeClaims d a keep

/-! ## Foreign writes (R9) -/

/-- The fields of a word that a write sets: RW and STG. -/
def ownMask (a : Nat) : Nat := accMask a (fun x => decide (x = .rw ∨ x = .stg))

/-- The firmware writes a register, and remembers the value (kept plus 1, so that a value of 0 is listed too). -/
def fwWrite (d : Dev) (w : FwWrite) : Dev :=
  let d := (writeReg d (.unit stopHK) w.addr 4 w.val.toNat).1
  { d with fw := { d.fw with vals := mput 0 d.fw.vals w.addr (w.val.toNat + 1) } }

/-- Before its next commit the firmware restores every value that another has changed, and records the address. -/
def fwRestore (d : Dev) : Dev :=
  d.fw.vals.foldl (fun d e =>
    let m := ownMask e.1
    if (ownWord d e.1 &&& m) = ((e.2 - 1) &&& m) then d
    else logEvent ((writeReg d (.unit stopHK) e.1 4 (e.2 - 1)).1) (5 * 256 + Config.evLow 5 1 % 256) 0 (Config.evInfo 5 1 % 2 ^ 32) e.1) d

/-! ## Profile descriptors (R13) -/

/-- Bits of the little-endian word at byte `o` of a descriptor. -/
def pw (x : List Byte) (o hi lo : Nat) : Nat := bits (imgNum x o 4) hi lo

/-- An offset names a section of at least `n` bytes. -/
def secOk (x : List Byte) (o n : Nat) : Bool := decide (o % 64 = 0) && decide (64 ≤ o) && decide (o + n ≤ x.length)

/-- The lowest byte offset whose check fails. -/
def lowBad (cs : List (Nat × Bool)) : Option Nat :=
  (cs.filter (fun c => !c.2)).foldl (fun (b : Option Nat) c => match b with | some v => some (min v c.1) | none => some c.1) none

/-- The header's checks; `len` is LEN of the request and `lte` says which cells in service are LTE. -/
def headChecks (x : List Byte) (len : Nat) (lte : Nat → Bool) : List (Nat × Bool) :=
  let rat := pw x 0xC 1 0
  let mu := pw x 0xC 4 3
  [(0, decide (imgNum x 0 4 = 0x46435250)), (4, decide (imgNum x 4 4 = 1)), (8, decide (imgNum x 8 4 = len ∧ 64 ≤ len)),
   (0xC, decide (rat ≠ 3) && decide (mu ≠ 3) && (decide (rat = 0) || decide (mu = 0)) && (decide (pw x 0xC 5 5 = 0) || decide (rat = 0 ∧ mu = 2))
     && decide (pw x 0xC 15 7 = 0) && (decide (rat ≠ 2) || decide (pw x 0xC 31 16 = 2))),
   (0x10, decide (1 ≤ pw x 0x10 6 0 ∧ pw x 0x10 6 0 ≤ 64) && decide (pw x 0x10 7 7 = 0) && decide (1 ≤ pw x 0x10 12 8 ∧ pw x 0x10 12 8 ≤ 16)
     && decide (pw x 0x10 15 13 = 0) && decide (1 ≤ pw x 0x10 19 16 ∧ pw x 0x10 19 16 ≤ 8) && decide (pw x 0x10 31 20 = 0)),
   (0x14, decide (pw x 0x14 15 10 = 0) && (if rat = 2 then lte (pw x 0x14 31 16) else decide (pw x 0x14 31 16 = 0))),
   (0x18, secOk x (imgNum x 0x18 4) 16),
   (0x1C, decide (imgNum x 0x1C 4 = 0) || secOk x (imgNum x 0x1C 4) 16),
   (0x20, if pw x 0xC 2 2 = 1 then secOk x (imgNum x 0x20 4) 8 else decide (imgNum x 0x20 4 = 0)),
   (0x24, decide (imgNum x 0x24 4 = 0) || secOk x (imgNum x 0x24 4) 32),
   (0x28, secOk x (imgNum x 0x28 4) 16)]
  ++ (List.range 5).map (fun i => (0x2C + 4 * i, decide (imgNum x (0x2C + 4 * i) 4 = 0)))

/-- The fronthaul section's checks. -/
def fhChecks (x : List Byte) : List (Nat × Bool) :=
  let o := imgNum x 0x18 4
  let n := pw x o 15 0
  [(o, decide (1 ≤ n ∧ n ≤ 512) && decide (pw x o 31 16 = 0) && decide (o + 16 + 16 * n ≤ x.length)),
   (o + 4, decide (pw x (o + 4) 5 0 < 48) && decide (pw x (o + 4) 31 19 = 0)), (o + 0xC, decide (pw x (o + 0xC) 31 16 = 0))]
  ++ (List.range (min n 512)).flatMap (fun f =>
    let e := o + 16 + 16 * f
    [(e, decide (pw x e 22 16 < pw x 0x10 6 0)), (e + 4, decide (pw x (e + 4) 31 6 = 0)), (e + 8, decide (pw x (e + 8) 31 16 = 0)),
     (e + 12, decide (imgNum x (e + 12) 4 = 0))])

/-- The radio-unit section's checks. -/
def ruChecks (x : List Byte) : List (Nat × Bool) :=
  let o := imgNum x 0x1C 4
  let n := pw x (o + 0xC) 3 0
  if o = 0 then []
  else
    [(o + 4, decide (pw x (o + 4) 31 10 = 0)), (o + 8, decide (pw x (o + 8) 15 12 = 0) && decide (pw x (o + 8) 31 28 = 0)),
     (o + 0xC, decide (n ≤ 8) && decide (pw x (o + 0xC) 31 4 = 0) && decide (o + 16 + 16 * n ≤ x.length))]
    ++ (List.range (min n 8)).flatMap (fun i =>
      let e := o + 16 + 16 * i
      [(e, decide (pw x e 7 5 ≤ 3) && decide (pw x e 31 8 = 0)), (e + 4, decide (pw x (e + 4) 15 12 = 0) && decide (pw x (e + 4) 31 30 = 0)),
       (e + 8, decide (imgNum x (e + 8) 4 &&& imgNum x o 4 = imgNum x (e + 8) 4)), (e + 12, decide (pw x (e + 12) 31 16 = 0))])

/-- The TDD, PRACH and processing sections' checks. -/
def restChecks (x : List Byte) : List (Nat × Bool) :=
  let t := imgNum x 0x20 4
  let r := imgNum x 0x24 4
  let p := imgNum x 0x28 4
  (if t = 0 then [] else
    [(t + 4, decide (1 ≤ pw x (t + 4) 6 0 ∧ pw x (t + 4) 6 0 ≤ 64) && decide (pw x (t + 4) 31 7 = 0)
      && decide (t + 8 + 8 * pw x (t + 4) 6 0 ≤ x.length))])
  ++ (if r = 0 then [] else
    [(r, (decide (pw x r 10 0 = 139) || decide (pw x r 10 0 = 839) || decide (pw x r 10 0 = 1151)) && decide (1 ≤ pw x r 17 11 ∧ pw x r 17 11 ≤ 64)
      && decide (pw x r 31 18 = 0)),
     (r + 4, decide (pw x (r + 4) 31 16 = 0)), (r + 0x18, decide (pw x (r + 0x18) 31 16 = 0)), (r + 0x1C, decide (pw x (r + 0x1C) 31 24 = 0))])
  ++ [(p, decide (pw x p 23 23 = 0) && decide (pw x p 31 29 = 0)),
      (p + 4, decide (1 ≤ pw x (p + 4) 5 0 ∧ pw x (p + 4) 5 0 ≤ 32) && decide (pw x (p + 4) 31 10 = 0)),
      (p + 8, decide (pw x (p + 8) 31 8 = 0)), (p + 0xC, decide (pw x (p + 0xC) 31 6 = 0))]

/-- BADOFS of a descriptor, if a field breaks its row: the header first, then the sections. -/
def badOfs (x : List Byte) (len : Nat) (lte : Nat → Bool) : Option Nat :=
  match lowBad (headChecks x len lte) with
  | some o => some o
  | none => lowBad (fhChecks x ++ ruChecks x ++ restChecks x)

/-- The carrier that a descriptor gives. -/
def profileCell (x : List Byte) : Cell :=
  let p := imgNum x 0x28 4
  { rat := pw x 0xC 1 0, bw := pw x 0xC 31 16, nant := pw x 0x10 6 0, nldl := pw x 0x10 12 8, nlul := pw x 0x10 19 16,
    split := decide (pw x 0xC 6 6 = 1), maxtbs := pw x p 19 0, qmmax := pw x p 22 20, maxit := pw x p 28 24, mu := pw x 0xC 4 3,
    anchor := pw x 0x14 31 16 }

/-! ## Limits (R27, R29, R296) -/

/-- Load points of a carrier, in units of 1/640 point. -/
def Cell.points (c : Cell) : Nat := if c.rat = 2 then 0 else c.bw * c.nant * (if c.split then 4 else 1)

/-- The load points of a set. -/
def pointsOf (cs : List Cell) : Nat := (cs.map Cell.points).foldl (· + ·) 0

/-- The load-point limit in force, in the same units. -/
def pointLimit (d : Dev) : Nat :=
  let (lim, cores) := match d.grade with | .af => (2400, 256) | .am => (1600, 192)
  lim * activeCores d / cores * 640

/-- The instances and the clock, in cycles per millisecond, of each coding-engine kind (R26, R420). -/
def codingLimit (g : Grade) (kind : Nat) : Nat :=
  let am := decide (g = .am)
  85 * (match kind with
    | 0 => (if am then 16 else 24) * 1300000 | 1 => 8 * 1200000 | 2 => 4 * 1200000 | 3 => 8 * 1000000 | _ => 4 * 1000000) / 100

/-- The profile fields that the coding sums follow from. -/
def Cell.profile (c : Cell) : List Nat := [c.rat, c.mu, c.maxtbs, c.qmmax, c.nldl, c.nlul, c.maxit]

/-- The first limit that a set of carriers breaks, 0 if none; `c` is the carrier that is new or changed. -/
def limitBroken (d : Dev) (cs : List Cell) (c : Cell) : Nat :=
  if pointLimit d < pointsOf cs then 1
  else if (match d.grade with | .af => 96 | .am => 64) < cs.length then 2
  else if 16 < c.nldl ∨ 8 < c.nlul then 3
  else match (List.range 5).find? (fun k =>
      decide (codingLimit d.grade k < (cs.map (fun x => Config.codingCycles k x.profile)).foldl (· + ·) 0)) with
    | some k => 4 + k
    | none => 0

/-! ## Requests (R12) -/

/-- A request entry. -/
structure FwEntry where
  op : Nat
  cell : Nat
  replyQ : Nat
  desc : Nat
  len : Nat
  cookie : Nat
  at_ : Nat
  zerosOk : Bool
  deriving DecidableEq, Repr

def entryOf (bs : List Byte) : FwEntry :=
  { op := imgNum bs 0 1, cell := imgNum bs 2 2, replyQ := pw bs 4 19 0, desc := imgNum bs 8 8 % 2 ^ 48, len := imgNum bs 0x10 4,
    cookie := imgNum bs 0x14 4, at_ := imgNum bs 0x18 8,
    zerosOk := decide (imgNum bs 1 1 = 0) && decide (pw bs 4 31 20 = 0) && decide (imgNum bs 0xE 2 = 0) }

/-- Carriers by cell once every waiting request has taken effect. -/
def cellsAfter (d : Dev) : Map (Option Cell) :=
  d.fw.waits.foldl (fun m r => mput none m r.cell r.new) d.fw.cells

/-- The carriers of a map. -/
def carriers (m : Map (Option Cell)) : List Cell := m.filterMap (·.2)

/-- The reply to a request is sent. -/
def fwReply (d : Dev) (replyQ cookie status limit b points badofs : Nat) : Dev :=
  sendRecord d replyQ (toBytes 1 0x80 ++ toBytes 1 status ++ toBytes 1 limit ++ toBytes 1 0 ++ toBytes 4 cookie ++ toBytes 8 b
    ++ toBytes 4 points ++ toBytes 4 (pointLimit d) ++ toBytes 4 badofs ++ toBytes 4 0)

/-- A request that is not admitted. -/
def fwRefuse (d : Dev) (e : FwEntry) (status limit badofs : Nat) : Dev :=
  fwReply d e.replyQ e.cookie status limit 0 (pointsOf (carriers d.fw.cells)) badofs

/-- The boundary at which a request asks to take effect. -/
def askedB (d : Dev) (t : Nat) : Nat :=
  let t' := if t = 0 then 0 else if isBoundary (gridOf d) t then t else boundaryAfter (gridOf d) t
  max t' (nextBoundary d)

/-- The commit for a boundary is requested, with the firmware's own values restored first. It waits while another boundary
is pending. -/
def fwCommit (d : Dev) (b : Nat) : Dev :=
  let d := fwRestore d
  if comState d = 1 ∧ comB d ≠ b then d else comRequest d b true false false false

/-- An admitted request: claims, register values, and the wait for its boundary. -/
def fwAdmit (d : Dev) (a : Nat) (e : FwEntry) (new : Option Cell) (claims : List FwClaim) (writes : List FwWrite) : Dev :=
  let d := writes.foldl fwWrite (addClaims d a e.cell claims)
  let d := if e.op = 3 then { d with fw := { d.fw with vals := writes.foldl (fun m (w : FwWrite) => mput 0 m w.addr 0) d.fw.vals } } else d
  let b := askedB d e.at_
  fwCommit { d with fw := { d.fw with waits := d.fw.waits ++ [⟨e.op, e.cell, new, e.replyQ, e.cookie, b⟩] } } b

/-- The descriptor of ADD or CHANGE is read and checked, and the limits applied. -/
def fwProfile (d : Dev) (a : Nat) (e : FwEntry) (noRes : Nat) (claims : List FwClaim) (writes : List FwWrite) : Dev :=
  let bs := getBytes d.mem e.desc e.len
  let after := cellsAfter d
  let lte (n : Nat) : Bool := match mget none after n with | some c => decide (c.rat = 1) | none => false
  match badOfs bs e.len lte with
  | some o => fwRefuse d e 2 0 o
  | none =>
    let c := profileCell bs
    let cs := carriers (mput none after e.cell (some c))
    let lim := limitBroken d cs c
    if lim ≠ 0 then fwRefuse d e 1 lim 0
    else if noRes ≠ 0 then fwRefuse d e 1 9 0
    else if macCount d.grade ≤ pw bs (imgNum bs 0x18 4 + 4) 5 0 then fwRefuse d e 1 10 0
    else fwAdmit d a e (some c) claims writes

/-- The firmware handles a request entry. -/
def fwHandle (d : Dev) (a : Nat) (e : FwEntry) (noRes : Nat) (claims : List FwClaim) (writes : List FwWrite) : Dev :=
  let known := (mget none d.fw.cells e.cell).isSome
  if !e.zerosOk then fwRefuse d e 2 0 0
  else if e.op = 4 then fwReply d e.replyQ e.cookie 0 0 0 (pointsOf (carriers d.fw.cells)) 0
  else if 96 ≤ e.cell then fwRefuse d e 3 0 0
  else if d.fw.waits.any (fun r => decide (r.cell = e.cell)) then fwRefuse d e 4 0 0
  else if e.op ≠ 1 ∧ !known then fwRefuse d e 3 0 0
  else if e.op = 3 then fwAdmit d a e none [] writes
  else if e.desc % 64 ≠ 0 ∨ !inMem d.grade e.desc (max 1 e.len) then fwRefuse d e 2 0 0
  else
    match memRead d e.desc e.len with
    | (d, .ok, _) => fwProfile d a e noRes claims writes
    | (d, _, _) => fwRefuse d e 2 0 0

/-- The firmware takes the request at the head of its control MAILBOX queue, if it has operation `op`. -/
def fwTake (d : Dev) (op noRes : Nat) (claims : List FwClaim) (writes : List FwWrite) : Dev :=
  match fwMap d with
  | none => d
  | some a =>
    let h := getNum d.mem (a + 0x10) 4 % 2 ^ 20
    let q := h % 2 ^ 14
    let x := qOf d q
    if x.st = 1 ∧ x.gen = h / 2 ^ 14 ∧ qType d q = 5 ∧ 32 ≤ qEsz d q ∧ 0 < avail x.slots then
      match memRead d (qBase d q + x.head * qEsz d q) (qEsz d q) with
      | (d, .ok, bs) =>
        if (entryOf bs).op = op then fwHandle (consumed d q 0 x.gen) a (entryOf bs) noRes claims writes else d
      | (d, .wait, _) => d
      | (d, _, _) => consumed d q 0 x.gen
    else d

/-! ## The end of a commit (R12) -/

/-- A request takes effect at B: the set of carriers changes, a removed carrier's claims go, and the reply is sent. -/
def fwDone (d : Dev) (b : Nat) (r : FwReq) : Dev :=
  let d := { d with fw := { d.fw with cells := mput none d.fw.cells r.cell r.new } }
  let d := if r.op = 3 then (match fwMap d with | some a => dropClaims d a r.cell | none => d) else d
  fwReply d r.replyQ r.cookie 0 0 b (pointsOf (carriers d.fw.cells)) 0

/-- The commit at B has ended: requests for a boundary up to B are done if it applied, and the others ask again. -/
def fwCommitEnd (d : Dev) (b : Nat) (ok : Bool) : Dev :=
  let due (r : FwReq) : Bool := ok && decide (r.b ≤ b)
  let done := d.fw.waits.filter due
  let d := done.foldl (fun d r => fwDone d b r) { d with fw := { d.fw with waits := d.fw.waits.filter (fun r => !due r) } }
  match d.fw.waits with
  | [] => d
  | r :: _ => fwCommit d (askedB d r.b)

/-! ## Meanings -/

def execAdd (noRes : Nat) (claims : List FwClaim) (writes : List FwWrite) (s : State) : Out := run s (fun d => fwTake d 1 noRes claims writes)
def execChange (noRes : Nat) (claims : List FwClaim) (writes : List FwWrite) (s : State) : Out := run s (fun d => fwTake d 2 noRes claims writes)
def execRemove (writes : List FwWrite) (s : State) : Out := run s (fun d => fwTake d 3 0 [] writes)
def execQuery (s : State) : Out := run s (fun d => fwTake d 4 0 [] [])

end Sys2Proof.Machine
end

