-- ==== Sys2Proof/Machine/Commit.lean ====
section
/-! DEFINITION. The steps of a commit and of a snapshot (file 02): arming and the checks of each domain (R54, R65), the decision
at B − 1,024 Tc, the moment of application (R52, R53), the end at B + 1,024 Tc (R54, R56), the capture (R60 to R63),
and STOP packets (R356). -/

namespace Sys2Proof.Machine

/-! ## Values that a commit leaves (R52) -/

/-- The words of an arm latch take effect: the STG fields of each, nothing else of it. -/
def applyWords (d : Dev) (l : Map Nat) : Dev :=
  l.foldl (fun d e =>
    let m := stgMask e.1
    ww d e.1 ((rw d e.1 &&& (2 ^ 32 - 1 - m)) ||| (e.2 &&& m))) d

/-! ## Checks at the arming point (R65) -/

/-- The commit includes a field of the AIR_TOUT set n. -/
def toutIn (keys : List Nat) (n : Nat) : Bool := keys.any (fun a => decide (Reg.AIR_TOUT_CTRL n ≤ a ∧ a < Reg.AIR_TOUT_CTRL n + 0x10))

/-- PERIOD, OFFSET and WIDTH of output n keep their limits. -/
def toutOk (d : Dev) (n : Nat) : Bool :=
  let p := rw d (Reg.AIR_TOUT_PERIOD n)
  let w := rw d (Reg.AIR_TOUT_WIDTH n)
  decide (p % 2 = 0) && decide (4 ≤ p) && decide (rw d (Reg.AIR_TOUT_OFFSET n) < p) && decide (2 ≤ w) && decide (w + 2 ≤ p)

/-- The checks of the AIR_TOUT sets that a commit includes and leaves enabled; `d` holds the values it would leave. -/
def toutCheck (d : Dev) (keys : List Nat) : Bool :=
  (List.range 8).all (fun n => !toutIn keys n || !rbit d (Reg.AIR_TOUT_CTRL n) 0 || toutOk d n)

/-- The clock domains of R420 whose checks fail at the arming point, by R37 (PWR: Housekeeping); `new` holds the values the
commit would leave. -/
def failing (old new : Dev) (keys : List Nat) : List Nat :=
  let fen := keys.any (fun a => decide (0x3000B00000 ≤ a ∧ a < 0x3000C00000))
  (if (List.range 32).all (freqCheck new keys) then [] else [62])
    ++ (if fen && !fenCheck new then [44] else []) ++ (if txsCheck new keys then [] else [45])
    ++ ((List.range 12).filter (fun g => !macCheck old new keys g)).map (· + 46)
    ++ (if toutCheck new keys then [] else [61]) ++ (if yrwCheck new keys then [] else [63])

/-! ## The steps (R54) -/

/-- COMMIT_ARM: step 2, at the arming point. Every stop latches its staged words and checks them. -/
def commitArm (d : Dev) : Dev :=
  if comState d = 1 ∧ comB d ≤ d.air.now + ARM_LEAD then
    let keys := d.staged.map (·.1)
    let bad := failing d (applyWords d d.staged) keys
    let d := { d with latch := d.staged, staged := [], air := { d.air with armFail := bad, decided := none, applied := false } }
    fset d Reg.AIR_COMMIT_STATUS 1 0 2
  else d

/-- COMMIT_DECIDE: step 3. `missing` are domains whose stop has not acknowledged for any other reason. -/
def commitDecide (d : Dev) (missing : List Nat) : Dev :=
  if comState d = 2 ∧ d.air.decided = none ∧ comB d ≤ d.air.now + 1024 then
    match missing.filter (· < 64) ++ d.air.armFail with
    | [] => { d with air := { d.air with decided := some true } }
    | x :: xs =>
      let d := { d with air := { d.air with decided := some false } }
      alert (fset (setComResult d 5) Reg.AIR_COMMIT_STATUS 13 8 (xs.foldl min x)) 2
  else d

/-- Words whose value a unit computes, in the order of their blocks. -/
def computedWords (d : Dev) : List Nat :=
  [Reg.AIR_NOW, Reg.AIR_NOW + 4, Reg.AIR_VIEW, Reg.AIR_VIEW + 4, Reg.TSY_STATUS, Reg.TSY_QUERY_INFO, Reg.TSY_QUERY_INFO + 4,
   Reg.TSY_OCC, Reg.TSY_RETAINED, Reg.QMG_ACTIVE, Reg.PWR_STATUS, Reg.MON_STATUS, Reg.SRL_CFG_SEQ, Reg.SRL_CFG_SEQ + 4,
   Reg.SRL_FW_SEQ, Reg.SRL_FW_SEQ + 4, Reg.CPN_STATUS, Reg.HLK_ID0, Reg.HLK_ID1, Reg.HLK_ID2, Reg.HLK_DIR_OCC, Reg.MEM_PEND,
   Reg.HBM_ID 0, Reg.HBM_ID 1, Reg.HBM_STATUS 0, Reg.HBM_STATUS 1]
  ++ (List.range 64).map Reg.TSY_POOL_READY ++ (List.range 256).map Reg.TSY_CORE_STATE
  ++ (List.range 45).map Reg.PWR_DOM_STATE ++ d.qs.map (fun e => Reg.QMG_QBASE e.1 + 12)
  ++ (List.range 5).flatMap (fun b => (List.range 24).map (fun j => 0x3000C00200 + b * 0x100000 + 4 * j))
  ++ (List.range 256).flatMap (fun c => [0x000, 0x058, 0x060, 0x064, 0x070, 0x074, 0x128].map (ccr c))

/-- The copy that a capture takes of every word. -/
def snapWords (d : Dev) : Map Word :=
  (computedWords d).foldl (fun m a => if absentReg d.grade a || (findReg a).isNone then m else mput (regReset a) m a (word (liveWord d a))) d.regs

/-- The RC fields of a word that a snapshot copies. -/
def clrMask (a : Nat) : Nat := accMask a (fun x => decide (x = .rc)) &&& snapMask a

/-- Every RC field that the capture copied is cleared (R61). -/
def clearCounts (d : Dev) : Dev :=
  used (d.regs.foldl (fun d e => if 0x4000000000 ≤ e.1 ∨ clrMask e.1 = 0 then d else ww d e.1 (rw d e.1 &&& (2 ^ 32 - 1 - clrMask e.1))) d)

/-- SNAPSHOT_CAPTURE: at B the snapshot is taken, before any commit at B takes effect. -/
def snapCapture (d : Dev) : Dev :=
  if snState d = 2 ∧ !d.air.snTaken ∧ d.air.sn.b ≤ d.air.now then
    let r := d.air.sn
    let d := { d with snap := snapWords d }
    let d := if r.own = some true || r.com = some true then clearCounts d else d
    let d := { d with air := { d.air with snTaken := true } }
    fset d Reg.AIR_SNAP_STATUS 31 16 ((fget d Reg.AIR_SNAP_STATUS 31 16 + 1) % 2 ^ 16)
  else d

/-- The words at `keys` have taken effect at `b`; what each block does then. -/
def applied (old d : Dev) (keys : List Nat) (b : Nat) : Dev :=
  freqApplied old (macApplied old (yrwApplied (txsApplied old (fenApplied old d keys b) keys b) keys b) keys) keys

/-- COMMIT_APPLY: step 4, at B. -/
def commitApply (d : Dev) : Dev :=
  if comState d = 2 ∧ d.air.decided = some true ∧ !d.air.applied ∧ comB d ≤ d.air.now then
    let b := comB d
    let d := if d.air.sn.b = b then snapCapture d else d
    let keys := d.latch.map (·.1)
    let d := (List.range 8).foldl (fun d n => if toutIn keys n then toutCommit d n b else d) d
    let d := if keys.contains Reg.AIR_PPSO_CFG then toutCommit d 8 b else d
    let new := applyWords d d.latch
    applied d { new with latch := [], air := { new.air with applied := true } } keys b
  else d

/-- Words that a failed commit leaves staged: those written since take precedence. -/
def restage (d : Dev) : Dev := { d with staged := d.staged.foldl (fun m e => mput NOSTG m e.1 e.2) d.latch, latch := [] }

/-- COMMIT_END: step 5, at B + 1,024 Tc. -/
def commitEnd (d : Dev) : Dev :=
  if comState d = 2 ∧ d.air.decided ≠ none ∧ (d.air.decided = some false ∨ d.air.applied) ∧ comB d + 1024 ≤ d.air.now then
    let b := comB d
    let ok := d.air.decided = some true
    let keep := d.air.comPersist
    let d := if ok then fset (setComResult d 1) Reg.AIR_COMMIT_STATUS 31 16 ((fget d Reg.AIR_COMMIT_STATUS 31 16 + 1) % 2 ^ 16)
             else restage d
    let d := { d with air := { d.air with armFail := [], decided := none, applied := false, comPersist := false } }
    let d := match d.air.comQueued with
      | some q => comPend (cbit { d with air := { d.air with comQueued := none } } Reg.AIR_COMMIT_STATUS 2) q
      | none => fset d Reg.AIR_COMMIT_STATUS 1 0 0
    let d := if rbit d Reg.AIR_CTRL 11 then hlkSrc d 0 else d
    let d := if ok ∧ keep then persist d else d
    stepIfFree (fwCommitEnd d b ok)
  else d

/-! ## STOP packets (R356) -/

/-- The stop of a power domain (R351, R422). -/
def domStop (p : Nat) : Nat :=
  if p < 32 then cluStop p
  else match p with
    | 32 => 5 | 33 => 17 | 34 => 22 | 35 => stopENC | 36 => stopTPD | 37 => stopFEN | 38 => stopFEN
    | _ => macStop (p - 39)

/-- A STOP packet reaches the always-on part of a stop. ARM, CANCEL and the snapshot act for all stops at once. -/
def stopPacket (d : Dev) (what : StopOp) (stop : Nat) : Dev :=
  if 56 ≤ stop then d
  else match what with
    | .arm => commitArm d
    | .cancel => commitDecide d []
    | .snapshot => snapCapture d
    | .table => stopTable d stop
    | .flip => stopFlip d stop
    | .powerDown p => if domStop p = stop then powerDown d p else d
    | .powerUp p => if domStop p = stop then wakeRequest d p false else d

/-! ## Meanings -/

def execCommitArm (s : State) : Out := run s commitArm
def execCommitDecide (missing : List Nat) (s : State) : Out := run s (fun d => commitDecide d missing)
def execCommitApply (s : State) : Out := run s commitApply
def execCommitEnd (s : State) : Out := run s commitEnd
def execSnapshotCapture (s : State) : Out := run s snapCapture
def execStop (what : StopOp) (stop : Nat) (s : State) : Out := run s (fun d => stopPacket d what stop)

end Sys2Proof.Machine
end

