-- ==== Sys2Proof/Machine/Package.lean ====
section
/-! DEFINITION. The package (file 19): supply of VIN (R476), the management SPI (R480), and the levels of the open-drain pins
(R429, R431, R436, R477). -/

namespace Sys2Proof.Machine

/-! ## Supply (R476) -/

/-- VIN_RISE: the power stage starts; the die is at its reset values and start-up has done no step. -/
def vinRise (d : Dev) : Dev := if d.pkg.powered then d else keepSorrel d Dev.reset

/-- VIN_FALL: every rail stops. Sorrel, the repair map and the fuses keep what they hold (R443). -/
def vinFall (d : Dev) : Dev :=
  if d.pkg.powered then { (keepSorrel d Dev.reset) with pkg := { Pkg.reset with powered := false } } else d

/-! ## Pin levels (R429, R431, R436, R477) -/

/-- Start-up has done step 1, so the pin drivers are powered. -/
def pinsUp (d : Dev) : Bool := d.pkg.powered && decide (1 ≤ fget d Reg.SRL_BOOT 3 0)

/-- ALERT_N is driven low: in step 1, after a trip, in a freeze, and while a bit of MON_ALERT is set. -/
def alertLow (d : Dev) : Bool := d.pkg.powered && (!pinsUp d || d.pkg.tripped || d.cpn.frozen || decide (rw d Reg.MON_ALERT ≠ 0))

/-- REPLACE_N is driven low. -/
def replaceLow (d : Dev) : Bool := pinsUp d && decide (rw d Reg.MON_REPLACE ≠ 0)

/-- THERMTRIP_N is driven low. -/
def tripLow (d : Dev) : Bool := pinsUp d && d.pkg.tripped

/-! ## The management SPI (R480) -/

/-- Addresses served from step 2 to step 5: AIR, PWR, MON, SRL and CPN. -/
def spiEarly (a : Nat) : Bool :=
  let i := (a - 0x3000000000) / 0x100000
  decide (0x3000000000 ≤ a ∧ a < 0x3010000000) && [0, 4, 5, 6, 8].contains i

/-- The SPI serves an address: not before the end of step 2, and only the early blocks until the end of step 5. -/
def spiServes (d : Dev) (a : Nat) : Bool :=
  !d.cpn.frozen && (rbit d Reg.SRL_BOOT 10 || stepDone d 5 || (stepDone d 2 && spiEarly a))

/-- Who asks: the SPI, or nobody that waits for the answer once CS_N has risen. -/
def spiWho (lost : Bool) : Who := if lost then .unit stopHK else .spi

/-- The access must go to a stop and wait there. -/
def spiAway (d : Dev) (a : Nat) : Bool := !addrServes d a && !absentReg d.grade a && presentRange d.grade a 4

/-- SPI_READ; with `lost`, CS_N rises during the read, and its data is lost. A read that must wait at its stop, for a wake or
for a line, goes there as a packet, and MISO shows 0xA5 when its answer comes. -/
def spiRead (d : Dev) (a : Nat) (lost : Bool) : Dev :=
  let tell (d : Dev) (v st : Nat) : Dev := setMiso d (if lost then [] else spiReply v st)
  let send (d : Dev) : Dev := setMiso (sendReq d (spiWho lost) 0x01 a 4 0 [] [] []).1 []
  if !spiServes d a then tell d 0 2
  else if a % 4 ≠ 0 then tell d 0 (if isReg a then 2 else 1)
  else if ownAnswer d .spi a 4 ≠ 0 then tell d 0 (ownAnswer d .spi a 4)
  else if spiAway d a then send d
  else match serveRead d .spi a 4 with
    | (d, some r) => tell d (ofBytes r.data) r.status
    | (d, none) => send d

/-- SPI_WRITE: `got` bits of write data came before CS_N rose; fewer than 32 write nothing. With `lost`, CS_N rises after
them and the status is lost. -/
def spiWrite (d : Dev) (a v got : Nat) (lost : Bool) : Dev :=
  let tell (d : Dev) (st : Nat) : Dev := setMiso d (if lost then [] else [0xA5#8, BitVec.ofNat 8 (st % 16)])
  let send (d : Dev) : Dev :=
    setMiso (sendReq d (spiWho lost) (if 0x4000000000 ≤ a ∧ a < 0x4004000000 then 0x20 else 0x02) a 4 0 (toBytes 4 v) [] []).1 []
  if got < 32 then setMiso d []
  else if !spiServes d a then tell d 2
  else if a % 4 ≠ 0 then tell d (if isReg a then 2 else 1)
  else if ownAnswer d .spi a 4 ≠ 0 then tell d (ownAnswer d .spi a 4)
  else if spiAway d a then send d
  else match serveWrite d .spi a (toBytes 4 v) [] [] with
    | (d, some st) => tell d st
    | (d, none) => send d

/-- SPI_BAD_COMMAND: every following byte is 0xFF. -/
def spiBad (d : Dev) (cmd n : Nat) : Dev := if cmd = 2 ∨ cmd = 3 then d else setMiso d (List.replicate n 0xFF#8)

/-! ## Meanings -/

/-- The SPI answers during a freeze too, with status REG at once. -/
def spiRuns (d : Dev) : Bool := d.pkg.powered && !d.pkg.tripped

def execVinRise (s : State) : Out := runAlways s vinRise
def execVinFall (s : State) : Out := runAlways s vinFall
def execSpiRead (addr : BitVec 48) (lost : Bool) (s : State) : Out :=
  runAlways s (fun d => if spiRuns d then spiRead d addr.toNat lost else d)
def execSpiWrite (addr : BitVec 48) (v : Word) (got : Nat) (lost : Bool) (s : State) : Out :=
  runAlways s (fun d => if spiRuns d then spiWrite d addr.toNat v.toNat got lost else d)
def execSpiBadCommand (cmd : BitVec 8) (n : Nat) (s : State) : Out :=
  runAlways s (fun d => if spiRuns d then spiBad d cmd.toNat n else d)

end Sys2Proof.Machine
end

