-- ==== Sys2Proof/Machine/Scalar.lean ====
section
/-! DEFINITION. The S slot of a Glesen core (R115 to R119, R132): arithmetic, logic, compares, predicates, moves, control
transfers, hardware loops and BCP moves. -/

namespace Sys2Proof.Machine

/-- An S-slot instruction. -/
def slotS (i : Iss) (op : Ctx → Op) (s : State) : Out := run s (issue i 0 op)

/-! ## OPC 0x00 (R115) -/

/-- Format SR: `rd ← g ra rb` at latency `lat`; an operation marked "RB = 0" needs RB 0. -/
def opSR (f : FSR) (two : Bool) (lat : Nat) (g : Nat → Nat → Nat) (k : Ctx) : Op :=
  let ra := f.ra.toNat
  let rb := f.rb.toNat
  Op.alu (two || decide (rb = 0)) (if two then [cS ra, cS rb] else [cS ra]) [cS f.rd.toNat]
    [k.res (cS f.rd.toNat) (g (k.s ra) (k.s rb)) lat]

/-- Format SI (R116): `rd ← g ra imm`; `range` is the largest immediate when it is limited. -/
def opSI (f : FSI) (limit : Bool) (g : Nat → Nat → Nat) (k : Ctx) : Op :=
  let imm := pat 32 (sx 10 f.imm.toNat)
  Op.alu (!limit || decide (f.imm.toNat < 32)) [cS f.ra.toNat] [cS f.rd.toNat]
    [k.res (cS f.rd.toNat) (g (k.s f.ra.toNat) imm) 1]

/-- Format SC: `pd ← g ra operand`. -/
def opSC (f : FSC) (g : Nat → Nat → Bool) (k : Ctx) : Op :=
  let rb := f.x.toNat / 2 ^ 6
  let y := if f.i then pat 32 (sx 11 f.x.toNat) else k.s rb
  Op.alu (f.i || decide (f.x.toNat % 2 ^ 6 = 0)) (cS f.ra.toNat :: (if f.i then [] else [cS rb])) [cP f.pd.toNat]
    [k.res (cP f.pd.toNat) (b2n (g (k.s f.ra.toNat) y)) 1]

/-- Format SP: `pd ← g pa pb`; `ins` predicate inputs, the unused ones 0. -/
def opSP (f : FSP) (ins : Nat) (g : Bool → Bool → Bool) (k : Ctx) : Op :=
  let pa := f.pa.toNat
  let pb := f.pb.toNat
  let p (i : Nat) : Bool := decide (k.rd (cP i) = 1)
  Op.alu (decide (f.z = 0) && (decide (2 ≤ ins) || decide (pb = 0)) && (decide (1 ≤ ins) || decide (pa = 0)))
    ((if 1 ≤ ins then [cP pa] else []) ++ (if 2 ≤ ins then [cP pb] else [])) [cP f.pd.toNat]
    [k.res (cP f.pd.toNat) (b2n (g (p pa) (p pb))) 1]

/-- Shifts by an unsigned count (R115). -/
def shl32 (a n : Nat) : Nat := if 32 ≤ n then 0 else a * 2 ^ n % 2 ^ 32
def shr32 (a n : Nat) : Nat := if 32 ≤ n then 0 else a / 2 ^ n
def sar32 (a n : Nat) : Nat := pat 32 (sx 32 a / (2 ^ min n 32 : Nat))
/-- Leading zero bits of a 32-bit value. -/
def clz32 (a : Nat) : Nat := ((List.range 32).takeWhile (fun i => !a.testBit (31 - i))).length
/-- Leading bits below bit 31 that equal bit 31. -/
def cls32 (a : Nat) : Nat := ((List.range 31).takeWhile (fun i => a.testBit (30 - i) == a.testBit 31)).length

/-- `add` (R115). -/
def execAddS (i : Iss) (f : FSR) (s : State) : Out := slotS i (opSR f true 1 (fun a b => (a + b) % 2 ^ 32)) s
/-- `sub` (R115). -/
def execSub (i : Iss) (f : FSR) (s : State) : Out := slotS i (opSR f true 1 (fun a b => (a + 2 ^ 32 - b) % 2 ^ 32)) s
/-- `and` (R115). -/
def execAnd (i : Iss) (f : FSR) (s : State) : Out := slotS i (opSR f true 1 (fun a b => a &&& b)) s
/-- `or` (R115). -/
def execOr (i : Iss) (f : FSR) (s : State) : Out := slotS i (opSR f true 1 (fun a b => a ||| b)) s
/-- `xor` (R115). -/
def execXor (i : Iss) (f : FSR) (s : State) : Out := slotS i (opSR f true 1 (fun a b => a ^^^ b)) s
/-- `andn` (R115). -/
def execAndn (i : Iss) (f : FSR) (s : State) : Out := slotS i (opSR f true 1 (fun a b => a &&& (2 ^ 32 - 1 - b))) s
/-- `shl` (R115). -/
def execShl (i : Iss) (f : FSR) (s : State) : Out := slotS i (opSR f true 1 (shl32)) s
/-- `shr` (R115). -/
def execShr (i : Iss) (f : FSR) (s : State) : Out := slotS i (opSR f true 1 (shr32)) s
/-- `sar` (R115). -/
def execSar (i : Iss) (f : FSR) (s : State) : Out := slotS i (opSR f true 1 (sar32)) s
/-- `min` (R115). -/
def execMin (i : Iss) (f : FSR) (s : State) : Out := slotS i (opSR f true 1 (fun a b => if sx 32 a ≤ sx 32 b then a else b)) s
/-- `max` (R115). -/
def execMax (i : Iss) (f : FSR) (s : State) : Out := slotS i (opSR f true 1 (fun a b => if sx 32 b ≤ sx 32 a then a else b)) s
/-- `minu` (R115). -/
def execMinu (i : Iss) (f : FSR) (s : State) : Out := slotS i (opSR f true 1 (fun a b => min a b)) s
/-- `maxu` (R115). -/
def execMaxu (i : Iss) (f : FSR) (s : State) : Out := slotS i (opSR f true 1 (fun a b => max a b)) s
/-- `adds` (R115). -/
def execAdds (i : Iss) (f : FSR) (s : State) : Out := slotS i (opSR f true 1 (fun a b => pat 32 (sat 32 (sx 32 a + sx 32 b)))) s
/-- `subs` (R115). -/
def execSubs (i : Iss) (f : FSR) (s : State) : Out := slotS i (opSR f true 1 (fun a b => pat 32 (sat 32 (sx 32 a - sx 32 b)))) s
/-- `abs` (R115). -/
def execAbs (i : Iss) (f : FSR) (s : State) : Out := slotS i (opSR f false 1 (fun a _ => pat 32 (sat 32 (if sx 32 a < 0 then - sx 32 a else sx 32 a)))) s
/-- `negs` (R115). -/
def execNegs (i : Iss) (f : FSR) (s : State) : Out := slotS i (opSR f false 1 (fun a _ => pat 32 (sat 32 (- sx 32 a)))) s
/-- `clz` (R115). -/
def execClz (i : Iss) (f : FSR) (s : State) : Out := slotS i (opSR f false 1 (fun a _ => clz32 a)) s
/-- `cls` (R115). -/
def execCls (i : Iss) (f : FSR) (s : State) : Out := slotS i (opSR f false 1 (fun a _ => cls32 a)) s
/-- `sxh` (R115). -/
def execSxh (i : Iss) (f : FSR) (s : State) : Out := slotS i (opSR f false 1 (fun a _ => pat 32 (sx 16 a))) s
/-- `zxh` (R115). -/
def execZxh (i : Iss) (f : FSR) (s : State) : Out := slotS i (opSR f false 1 (fun a _ => a % 2 ^ 16)) s
/-- `sxb` (R115). -/
def execSxb (i : Iss) (f : FSR) (s : State) : Out := slotS i (opSR f false 1 (fun a _ => pat 32 (sx 8 a))) s
/-- `zxb` (R115). -/
def execZxb (i : Iss) (f : FSR) (s : State) : Out := slotS i (opSR f false 1 (fun a _ => a % 2 ^ 8)) s
/-- `mul` (R115). -/
def execMul (i : Iss) (f : FSR) (s : State) : Out := slotS i (opSR f true 3 (fun a b => a * b % 2 ^ 32)) s
/-- `mulh` (R115). -/
def execMulh (i : Iss) (f : FSR) (s : State) : Out := slotS i (opSR f true 3 (fun a b => pat 64 (sx 32 a * sx 32 b) / 2 ^ 32)) s
/-- `mulhu` (R115). -/
def execMulhu (i : Iss) (f : FSR) (s : State) : Out := slotS i (opSR f true 3 (fun a b => a * b / 2 ^ 32)) s

/-! ## Immediates, compares and predicates (R116) -/

/-- `addi` (R116). -/
def execAddi (i : Iss) (f : FSI) (s : State) : Out := slotS i (opSI f false (fun a b => (a + b) % 2 ^ 32)) s
/-- `andi` (R116). -/
def execAndi (i : Iss) (f : FSI) (s : State) : Out := slotS i (opSI f false (fun a b => a &&& b)) s
/-- `ori` (R116). -/
def execOri (i : Iss) (f : FSI) (s : State) : Out := slotS i (opSI f false (fun a b => a ||| b)) s
/-- `xori` (R116). -/
def execXori (i : Iss) (f : FSI) (s : State) : Out := slotS i (opSI f false (fun a b => a ^^^ b)) s
/-- `shli` (R116). -/
def execShli (i : Iss) (f : FSI) (s : State) : Out := slotS i (opSI f true (shl32)) s
/-- `shri` (R116). -/
def execShri (i : Iss) (f : FSI) (s : State) : Out := slotS i (opSI f true (shr32)) s
/-- `sari` (R116). -/
def execSari (i : Iss) (f : FSI) (s : State) : Out := slotS i (opSI f true (sar32)) s
/-- `cmp.eq` (R116). -/
def execCmpEq (i : Iss) (f : FSC) (s : State) : Out := slotS i (opSC f (fun a b => decide (a = b))) s
/-- `cmp.ne` (R116). -/
def execCmpNe (i : Iss) (f : FSC) (s : State) : Out := slotS i (opSC f (fun a b => decide (a ≠ b))) s
/-- `cmp.lt` (R116). -/
def execCmpLt (i : Iss) (f : FSC) (s : State) : Out := slotS i (opSC f (fun a b => decide (sx 32 a < sx 32 b))) s
/-- `cmp.le` (R116). -/
def execCmpLe (i : Iss) (f : FSC) (s : State) : Out := slotS i (opSC f (fun a b => decide (sx 32 a ≤ sx 32 b))) s
/-- `cmp.gt` (R116). -/
def execCmpGt (i : Iss) (f : FSC) (s : State) : Out := slotS i (opSC f (fun a b => decide (sx 32 b < sx 32 a))) s
/-- `cmp.ge` (R116). -/
def execCmpGe (i : Iss) (f : FSC) (s : State) : Out := slotS i (opSC f (fun a b => decide (sx 32 b ≤ sx 32 a))) s
/-- `cmp.ltu` (R116). -/
def execCmpLtu (i : Iss) (f : FSC) (s : State) : Out := slotS i (opSC f (fun a b => decide (a < b))) s
/-- `cmp.leu` (R116). -/
def execCmpLeu (i : Iss) (f : FSC) (s : State) : Out := slotS i (opSC f (fun a b => decide (a ≤ b))) s
/-- `cmp.gtu` (R116). -/
def execCmpGtu (i : Iss) (f : FSC) (s : State) : Out := slotS i (opSC f (fun a b => decide (b < a))) s
/-- `cmp.geu` (R116). -/
def execCmpGeu (i : Iss) (f : FSC) (s : State) : Out := slotS i (opSC f (fun a b => decide (b ≤ a))) s
/-- `pand` (R116). -/
def execPand (i : Iss) (f : FSP) (s : State) : Out := slotS i (opSP f 2 (fun a b => a && b)) s
/-- `por` (R116). -/
def execPor (i : Iss) (f : FSP) (s : State) : Out := slotS i (opSP f 2 (fun a b => a || b)) s
/-- `pxor` (R116). -/
def execPxor (i : Iss) (f : FSP) (s : State) : Out := slotS i (opSP f 2 (fun a b => xor a b)) s
/-- `pandn` (R116). -/
def execPandn (i : Iss) (f : FSP) (s : State) : Out := slotS i (opSP f 2 (fun a b => a && !b)) s
/-- `pnot` (R116). -/
def execPnot (i : Iss) (f : FSP) (s : State) : Out := slotS i (opSP f 1 (fun a _ => !a)) s
/-- `pset` (R116). -/
def execPset (i : Iss) (f : FSP) (s : State) : Out := slotS i (opSP f 0 (fun _ _ => true)) s
/-- `pclr` (R116). -/
def execPclr (i : Iss) (f : FSP) (s : State) : Out := slotS i (opSP f 0 (fun _ _ => false)) s

/-! ## Moves (R94, R116, R117) -/

/-- `mov` (R117). -/
def opMov (f : FSX) (k : Ctx) : Op :=
  let dst := f.dst.toNat
  let src := f.src.toNat
  Op.alu (movCode dst && movCode src && decide (f.z = 0)) [src] [dst] [k.res dst (k.rd src) 1]

/-- The bank at PLEVEL of the running level (R94). -/
def plevelOf (k : Ctx) : Nat := plevelBank k.d (bits (rw k.d (ccr k.c (lvlOff k.bank 0x024))) 1 0)

/-- `mvfb`: a register of the bank at PLEVEL is read, under that bank's `rrb`; PRIV at level 0 (R94, R117). -/
def opMvfb (f : FSX) (k : Ctx) : Op :=
  let dst := f.dst.toNat
  let src := f.src.toNat
  let p := plevelOf k
  let b := bankOf k.x p
  { legal := bankedCode dst && bankedCode src && (accCode dst == accCode src) && decide (f.z = 0), reads := [], dests := [dst],
    ct := false, stall := decide (0 < k.bank) && awaiting k.x p (phys (rrbOf b) src), mem := 0,
    eff := fun u => if k.bank = 0 then u.fail 8 0 else u.put [k.res dst (bankRead b (phys (rrbOf b) src)) 1] }

/-- `mvtb`: a register of the bank at PLEVEL is written (R94, R117). -/
def opMvtb (f : FSX) (k : Ctx) : Op :=
  let dst := f.dst.toNat
  let src := f.src.toNat
  let p := plevelOf k
  let b := bankOf k.x p
  { legal := bankedCode dst && bankedCode src && (accCode dst == accCode src) && decide (f.z = 0), reads := [src], dests := [dst],
    ct := false, stall := decide (0 < k.bank) && awaiting k.x p (phys (rrbOf b) dst), mem := 0,
    eff := fun u => if k.bank = 0 then u.fail 8 0
                    else { u with bankWr := u.bankWr ++ [(p, phys (rrbOf b) dst, k.rd src)] } }

/-- `mov` (R117). -/
def execMov (i : Iss) (f : FSX) (s : State) : Out := slotS i (opMov f) s
/-- `mvfb` (R94, R117). -/
def execMvfb (i : Iss) (f : FSX) (s : State) : Out := slotS i (opMvfb f) s
/-- `mvtb` (R94, R117). -/
def execMvtb (i : Iss) (f : FSX) (s : State) : Out := slotS i (opMvtb f) s
/-- `movl` (R116). -/
def execMovl (i : Iss) (f : FSL) (s : State) : Out :=
  slotS i (fun k => Op.alu true [] [cS f.rd.toNat] [k.res (cS f.rd.toNat) (pat 32 (sx 16 f.imm.toNat)) 1]) s
/-- `movh`: the upper half is written, rd is read at issue (R116). -/
def execMovh (i : Iss) (f : FSL) (s : State) : Out :=
  slotS i (fun k => Op.alu true [cS f.rd.toNat] [cS f.rd.toNat]
    [k.res (cS f.rd.toNat) (f.imm.toNat * 2 ^ 16 + k.s f.rd.toNat % 2 ^ 16) 1]) s

/-! ## Control transfers (R75, R76, R116, R118, R119) -/

/-- The return address: after the second delay bundle (R75). -/
def returnAddr (k : Ctx) (eob : Bool) : Nat :=
  let e := if eob then k.pc + 4 else bundleEnd k.d k.c (k.pc + 4)
  bundleEnd k.d k.c (bundleEnd k.d k.c e)

/-- A control transfer to `target`; `link` writes `a15`; `leaves`: `br` and `jr` end loops they leave (R136). -/
def opCt (k : Ctx) (legal : Bool) (reads : List Nat) (target : Nat) (link leaves eob : Bool) : Op :=
  { legal := legal, reads := reads, dests := if link then [cA 15] else [], ct := true, stall := false, mem := 0,
    eff := fun u =>
      let u := if link then u.put [k.res (cA 15) (returnAddr k eob) 1] else u
      { u with taken := true, target := target, leaves := leaves } }

/-- The target of `br` and `call`: the instruction's address plus 4 × OFS20 (R118). -/
def brTarget (k : Ctx) (f : FSB) : Nat := pat 32 ((k.pc : Int) + 4 * sx 20 f.ofs.toNat)

/-- `br` (R118). -/
def execBr (i : Iss) (f : FSB) (s : State) : Out := slotS i (fun k => opCt k true [] (brTarget k f) false true i.eob) s
/-- `call` (R118). -/
def execCall (i : Iss) (f : FSB) (s : State) : Out := slotS i (fun k => opCt k true [] (brTarget k f) true false i.eob) s
/-- `jr` (R116). -/
def execJr (i : Iss) (f : FSJ) (s : State) : Out :=
  slotS i (fun k => opCt k (decide (f.z = 0)) [cA f.an.toNat] (k.a f.an.toNat) false true i.eob) s
/-- `jalr` (R116). -/
def execJalr (i : Iss) (f : FSJ) (s : State) : Out :=
  slotS i (fun k => opCt k (decide (f.z = 0)) [cA f.an.toNat] (k.a f.an.toNat) true false i.eob) s
/-- `reti`: PRIV at level 0; RETI_RESUME returns (R94, R96). -/
def execReti (i : Iss) (z : BitVec 20) (s : State) : Out :=
  slotS i (fun k => { legal := decide (z = 0), reads := [], dests := [], ct := true, stall := false, mem := 0,
                      eff := fun u => if k.bank = 0 then u.fail 8 0 else { u with taken := true, reti := true } }) s
/-- `done`: the item ends after the delay bundles and the wait of R119. -/
def execDone (i : Iss) (f : FSY) (s : State) : Out :=
  slotS i (fun _ => { legal := decide (f.z = 0), reads := [], dests := [], ct := true, stall := false, mem := 0,
                      eff := fun u => { u with taken := true, done := some f.code.toNat } }) s

/-! ## Loops, fence, trap, brk (R85, R97, R132, R467) -/

/-- `loop` and `loop.r` (R132). -/
def opLoop (f : FSLP) (rot : Bool) (k : Ctx) : Op :=
  let l := b2n f.lc
  let cf := f.count.toNat
  let count := if f.i then cf else k.s (cf % 32)
  let ps : List (Nat × Nat) := if rot then [(cP 4, 1), (cP 5, 0), (cP 6, 0), (cP 7, 0)] else []
  { legal := (f.i || decide (cf < 32)) && (rot || decide (f.stg = 0)), reads := if f.i then [] else [cS (cf % 32)],
    dests := (0x48 + l) :: ps.map (·.1), ct := false, stall := false, mem := 0,
    eff := fun u => { (u.put (k.res (0x48 + l) count 1 :: ps.map (fun e => k.res e.1 e.2 1))) with
                      loop := some (l, count, k.pc + 4 * f.endofs.toNat, f.stg.toNat, rot) } }

/-- `loop` (R132). -/
def execLoop (i : Iss) (f : FSLP) (s : State) : Out := slotS i (opLoop f false) s
/-- `loop.r` (R132). -/
def execLoopR (i : Iss) (f : FSLP) (s : State) : Out := slotS i (opLoop f true) s
/-- `fence` stalls while a remote access of the core is outstanding (R85, R118). -/
def execFence (i : Iss) (f : FSY) (s : State) : Out :=
  slotS i (fun k => { legal := decide (f.z = 0) && decide (f.code = 0), reads := [], dests := [], ct := false,
                      stall := guardOf k i && decide (k.x.rmt ≠ []), mem := 0, eff := fun u => u }) s
/-- `trap`: SW_TRAP with the low 6 bits of CODE (R97, R118). -/
def execTrap (i : Iss) (f : FSY) (s : State) : Out :=
  slotS i (fun _ => { legal := decide (f.z = 0), reads := [], dests := [], ct := false, stall := false, mem := 0,
                      eff := fun u => u.failAt 9 0 (f.code.toNat % 64) 0 }) s
/-- `brk`: BREAK, or BKPT when a debugger is attached (R97, R118, R467). -/
def execBrk (i : Iss) (f : FSY) (s : State) : Out :=
  slotS i (fun k => { legal := decide (f.z = 0) && decide (f.code = 0), reads := [], dests := [], ct := false, stall := false, mem := 0,
                      eff := fun u => if rbit k.d (Reg.CPN_DBG_CTL k.c) 0 then { u with brk := true } else u.fail 0x0A 0 }) s

/-! ## Moves to and from the bit coprocessor (R116, R170) -/

/-- `mtc`: a `c` register takes four `s` registers; it waits for an uncompleted command that uses the register (R170). -/
def opMtc (f : FSQ) (k : Ctx) : Op :=
  let cn := f.cn.toNat
  let sq := f.sq.toNat
  let v := (List.range 4).foldl (fun v e => v + k.s (sq + e) * 2 ^ (32 * e)) 0
  { legal := isQuad sq && decide (f.z = 0), reads := codes (cS sq) 4, dests := [cC cn], ct := false,
    stall := cprstPending k.x || k.x.bcp.queue.any (fun q => (bcpReads q.w).contains cn || (bcpWrites q.w).contains cn), mem := 0,
    eff := fun u => { u with mtc := u.mtc ++ [(cn, v)] } }

/-- `mfc`: four `s` registers take a `c` register (R116, R170). -/
def opMfc (f : FSQ) (k : Ctx) : Op :=
  let cn := f.cn.toNat
  let sq := f.sq.toNat
  let v := cVal k.x cn
  { legal := isQuad sq && decide (f.z = 0), reads := [], dests := codes (cS sq) 4, ct := false,
    stall := cprstPending k.x || k.x.bcp.queue.any (fun q => (bcpWrites q.w).contains cn), mem := 0,
    eff := fun u => u.put ((List.range 4).map (fun e => k.res (cS (sq + e)) (v / 2 ^ (32 * e) % 2 ^ 32) 2)) }

/-- `mtc` (R116). -/
def execMtc (i : Iss) (f : FSQ) (s : State) : Out := slotS i (opMtc f) s
/-- `mfc` (R116). -/
def execMfc (i : Iss) (f : FSQ) (s : State) : Out := slotS i (opMfc f) s

end Sys2Proof.Machine
end

