-- ==== Sys2Proof/Machine/Vector.lean ====
section
/-! DEFINITION. The V slot of a Glesen core (file 05): element types and groups (R138 to R142), arithmetic (R144 to R150),
memory accesses with element faults (R151 to R156), element moves, vector length and mask operations (R145). -/

namespace Sys2Proof.Machine

/-- A V-slot instruction. -/
def slotV (i : Iss) (op : Ctx → Op) (s : State) : Out := run s (issue i 3 op)

/-! ## Elements and groups (R138 to R141) -/

/-- Element size of a TY code: 0 ci16, 1 i16, 2 i32, 3 i8. -/
def tySize (ty : Nat) : Nat := [4, 2, 4, 1].getD ty 4
/-- Width in bits of a part of an element. -/
def tyPart (ty : Nat) : Nat := [16, 16, 32, 8].getD ty 16
/-- Beats of an arithmetic instruction (R138). -/
def tyBeats (ty vl : Nat) : Nat := if ty = 3 then 1 else ceilDiv vl 16
/-- The footprint of an operand in registers (R139). -/
def footprint (vl size : Nat) : Nat := ceilDiv (vl * size) 64
/-- Whether a field may name an operand of footprint `n` (R139). -/
def groupOk (n i : Nat) : Bool := decide (n ≤ 1) || (decide (n ≤ 4) && isQuad i)
/-- The registers that an operand counts as, by logical code: one, or all four of its group (R139). -/
def groupCodes (n i : Nat) : List Nat := if n ≤ 1 then [cV i] else codes (cV i) 4

/-- Element `e` of the operand at register `i` (R139). -/
def Ctx.el (k : Ctx) (i size e : Nat) : Nat :=
  let per := 64 / size
  k.v (i + e / per) / 2 ^ (8 * size * (e % per)) % 2 ^ (8 * size)

/-- Whether element `e` is active under the guard field (R141). -/
def Ctx.active (k : Ctx) (mk e : Nat) : Bool := decide (e < k.vl) && (decide (mk = 0) || (k.vm mk).testBit e)
/-- The active elements in order. -/
def Ctx.actives (k : Ctx) (mk : Nat) : List Nat := (List.range k.vl).filter (k.active mk)

/-- Vector results: the elements written, of `size` bytes, at register `i`; every other bit is left unchanged (R140). -/
def Ctx.vres (k : Ctx) (i size lat : Nat) (els : List (Nat × Nat)) : List Inflight :=
  let per := 64 / size
  let w := 8 * size
  (List.range (footprint k.vl size)).map (fun j =>
    let mine := els.filter (fun e => decide (e.1 / per = j))
    ⟨k.bank, phys k.rrb (cV (i + j)), mine.foldl (fun v e => v ||| e.2 % 2 ^ w * 2 ^ (w * (e.1 % per))) 0,
      mine.foldl (fun v e => v ||| (2 ^ w - 1) * 2 ^ (w * (e.1 % per))) 0, k.n + lat, k.n, false⟩)

/-- The guard register that an instruction reads. -/
def guardReg (mk : Nat) : List Nat := if mk = 0 then [] else [cVm mk]

/-- An element operation: sources with their sizes, destination, and the value of each active element. -/
def opEl (k : Ctx) (legal : Bool) (srcs : List (Nat × Nat)) (vd dsize mk lat : Nat) (extraR : List Nat)
    (g : Nat → Nat) : Op :=
  let fp (s : Nat × Nat) : Nat := footprint k.vl s.2
  let nd := footprint k.vl dsize
  Op.alu (legal && srcs.all (fun s => groupOk (fp s) s.1) && groupOk nd vd)
    (srcs.flatMap (fun s => groupCodes (fp s) s.1) ++ guardReg mk ++ extraR) (groupCodes nd vd)
    (k.vres vd dsize lat ((k.actives mk).map (fun e => (e, g e))))

/-- Apply a function to each part of two elements of a type. -/
def byPart (ty : Nat) (h : Int → Int → Int) (a b : Nat) : Nat :=
  let w := tyPart ty
  if ty = 0 then mkC (h (half a 0) (half b 0)) (h (half a 1) (half b 1)) else pat w (h (sx w a) (sx w b))

/-- Format VR with two vector sources; `types` the codes accepted. -/
def opVR (f : FVR) (types : List Nat) (g : Nat → Nat → Nat → Nat) (k : Ctx) : Op :=
  let ty := f.ty.toNat
  let sz := tySize ty
  let a := f.va.toNat
  let b := f.vb.toNat
  opEl k (types.contains ty) [(a, sz), (b, sz)] f.vd.toNat sz f.mg.toNat (2 + tyBeats ty k.vl - 1) []
    (fun e => g ty (k.el a sz e) (k.el b sz e))

/-- Format VR with VB = 0. -/
def opVR1 (f : FVR) (types : List Nat) (g : Nat → Nat → Nat) (k : Ctx) : Op :=
  let ty := f.ty.toNat
  let sz := tySize ty
  let a := f.va.toNat
  opEl k (types.contains ty && decide (f.vb = 0)) [(a, sz)] f.vd.toNat sz f.mg.toNat (2 + tyBeats ty k.vl - 1) []
    (fun e => g ty (k.el a sz e))

/-- Format VI: shifts of each part by n, less than the part width. -/
def opVI (f : FVI) (h : Nat → Int → Int) (k : Ctx) : Op :=
  let ty := f.ty.toNat
  let sz := tySize ty
  let a := f.va.toNat
  opEl k (decide (f.imm.toNat < tyPart ty)) [(a, sz)] f.vd.toNat sz f.mg.toNat (2 + tyBeats ty k.vl - 1) []
    (fun e => byPart ty (fun x _ => h (tyPart ty) x) (k.el a sz e) 0)

/-- A compare: bit e of `vmd` for each active element, 0 elsewhere (R146). -/
def opVcmp (f : FVR) (h : Int → Int → Bool) (k : Ctx) : Op :=
  let ty := f.ty.toNat
  let sz := tySize ty
  let w := 8 * sz
  let a := f.va.toNat
  let b := f.vb.toNat
  let vd := f.vd.toNat
  let n := footprint k.vl sz
  let v := (k.actives f.mg.toNat).foldl (fun acc e => if h (sx w (k.el a sz e)) (sx w (k.el b sz e)) then acc ||| 2 ^ e else acc) 0
  Op.alu (decide (ty ≠ 0) && decide (vd < 8) && groupOk n a && groupOk n b)
    (groupCodes n a ++ groupCodes n b ++ guardReg f.mg.toNat) [cVm vd] [k.res (cVm vd) v (2 + tyBeats ty k.vl - 1)]

/-! ## Arithmetic (R144, R146) -/

/-- `vadd` (R144, R146). -/
def execVadd (i : Iss) (f : FVR) (s : State) : Out := slotV i (opVR f [0, 1, 2, 3] (fun ty => byPart ty (fun x y => x + y))) s
/-- `vadds` (R144, R146). -/
def execVadds (i : Iss) (f : FVR) (s : State) : Out := slotV i (opVR f [0, 1, 2, 3] (fun ty => byPart ty (fun x y => sat (tyPart ty) (x + y)))) s
/-- `vsub` (R144, R146). -/
def execVsub (i : Iss) (f : FVR) (s : State) : Out := slotV i (opVR f [0, 1, 2, 3] (fun ty => byPart ty (fun x y => x - y))) s
/-- `vsubs` (R144, R146). -/
def execVsubs (i : Iss) (f : FVR) (s : State) : Out := slotV i (opVR f [0, 1, 2, 3] (fun ty => byPart ty (fun x y => sat (tyPart ty) (x - y)))) s
/-- `vand` (R144). -/
def execVand (i : Iss) (f : FVR) (s : State) : Out := slotV i (opVR f [0, 1, 2, 3] (fun _ a b => a &&& b)) s
/-- `vor` (R144). -/
def execVor (i : Iss) (f : FVR) (s : State) : Out := slotV i (opVR f [0, 1, 2, 3] (fun _ a b => a ||| b)) s
/-- `vxor` (R144). -/
def execVxor (i : Iss) (f : FVR) (s : State) : Out := slotV i (opVR f [0, 1, 2, 3] (fun _ a b => a ^^^ b)) s
/-- `vmin` (R144). -/
def execVmin (i : Iss) (f : FVR) (s : State) : Out := slotV i (opVR f [1, 2, 3] (fun ty => byPart ty (fun x y => min x y))) s
/-- `vmax` (R144). -/
def execVmax (i : Iss) (f : FVR) (s : State) : Out := slotV i (opVR f [1, 2, 3] (fun ty => byPart ty (fun x y => max x y))) s
/-- `vmov` (R144). -/
def execVmov (i : Iss) (f : FVR) (s : State) : Out := slotV i (opVR1 f [0, 1, 2, 3] (fun _ a => a)) s
/-- `vconj` (R144). -/
def execVconj (i : Iss) (f : FVR) (s : State) : Out := slotV i (opVR1 f [0] (fun _ a => mkC (half a 0) (sat 16 (- half a 1)))) s
/-- `vsel`: every element below vl, from va where the guard bit is 1, otherwise from vb (R141, R144). -/
def execVsel (i : Iss) (f : FVR) (s : State) : Out := slotV i (fun k =>
  let ty := f.ty.toNat
  let sz := tySize ty
  let a := f.va.toNat
  let b := f.vb.toNat
  opEl k (decide (f.mg ≠ 0)) [(a, sz), (b, sz)] f.vd.toNat sz 0 (2 + tyBeats ty k.vl - 1) (guardReg f.mg.toNat)
    (fun e => if (k.vm f.mg.toNat).testBit e then k.el a sz e else k.el b sz e)) s
/-- `vcmp.eq` (R144, R146). -/
def execVcmpEq (i : Iss) (f : FVR) (s : State) : Out := slotV i (opVcmp f (fun x y => decide (x = y))) s
/-- `vcmp.ne` (R144, R146). -/
def execVcmpNe (i : Iss) (f : FVR) (s : State) : Out := slotV i (opVcmp f (fun x y => decide (x ≠ y))) s
/-- `vcmp.lt` (R144, R146). -/
def execVcmpLt (i : Iss) (f : FVR) (s : State) : Out := slotV i (opVcmp f (fun x y => decide (x < y))) s
/-- `vcmp.le` (R144, R146). -/
def execVcmpLe (i : Iss) (f : FVR) (s : State) : Out := slotV i (opVcmp f (fun x y => decide (x ≤ y))) s
/-- `vcmp.gt` (R144, R146). -/
def execVcmpGt (i : Iss) (f : FVR) (s : State) : Out := slotV i (opVcmp f (fun x y => decide (y < x))) s
/-- `vcmp.ge` (R144, R146). -/
def execVcmpGe (i : Iss) (f : FVR) (s : State) : Out := slotV i (opVcmp f (fun x y => decide (y ≤ x))) s
/-- `vshli` (R144, R146). -/
def execVshli (i : Iss) (f : FVI) (s : State) : Out := slotV i (opVI f (fun _ x => x * (2 ^ f.imm.toNat : Nat))) s
/-- `vshri` (R144, R146). -/
def execVshri (i : Iss) (f : FVI) (s : State) : Out := slotV i (opVI f (fun w x => (pat w x / 2 ^ f.imm.toNat : Nat))) s
/-- `vsari` (R144, R146). -/
def execVsari (i : Iss) (f : FVI) (s : State) : Out := slotV i (opVI f (fun _ x => x / (2 ^ f.imm.toNat : Nat))) s

/-! ## Complex and block-floating-point operations (R147 to R150) -/

/-- Beats of an instruction with ci16 operands. -/
def cBeats (k : Ctx) : Nat := ceilDiv k.vl 16

/-- `vcmul` and `vcmulj` (R147). -/
def opVcmul (f : FVC) (conj : Bool) (k : Ctx) : Op :=
  let a := f.va.toNat
  let b := f.vb.toNat
  opEl k (!f.z) [(a, 4), (b, 4)] f.vd.toNat 4 f.mg.toNat (4 + cBeats k - 1) [] (fun e => cmulQ15 conj (k.el a 4 e) (k.el b 4 e))

/-- `vcmac` and `vcmacj`: vd is ci32 and read at issue (R147). -/
def opVcmac (f : FVC) (conj : Bool) (k : Ctx) : Op :=
  let a := f.va.toNat
  let b := f.vb.toNat
  let vd := f.vd.toNat
  opEl k (!f.z) [(a, 4), (b, 4), (vd, 8)] vd 8 f.mg.toNat (4 + cBeats k - 1) [] (fun e =>
    let (re, im) := cprod conj (k.el a 4 e) (k.el b 4 e)
    let o := k.el vd 8 e
    pat 32 (sat 32 (sx 32 o + re)) + 2 ^ 32 * pat 32 (sat 32 (sx 32 (o / 2 ^ 32) + im)))

/-- A VC instruction of one source: VB = 0. -/
def opVC1 (f : FVC) (legal : Bool) (g : Nat → Nat) (k : Ctx) : Op :=
  let a := f.va.toNat
  opEl k (legal && !f.z && decide (f.vb = 0)) [(a, 4)] f.vd.toNat 4 f.mg.toNat (4 + cBeats k - 1) [] (fun e => g (k.el a 4 e))

/-- `vcmul` (R147). -/
def execVcmul (i : Iss) (f : FVC) (s : State) : Out := slotV i (opVcmul f false) s
/-- `vcmulj` (R147). -/
def execVcmulj (i : Iss) (f : FVC) (s : State) : Out := slotV i (opVcmul f true) s
/-- `vcmac` (R147). -/
def execVcmac (i : Iss) (f : FVC) (s : State) : Out := slotV i (opVcmac f false) s
/-- `vcmacj` (R147). -/
def execVcmacj (i : Iss) (f : FVC) (s : State) : Out := slotV i (opVcmac f true) s
/-- `vcmag2` (R147). -/
def execVcmag2 (i : Iss) (f : FVC) (s : State) : Out := slotV i (opVC1 f (!f.j) (fun a => pat 32 (min (2 ^ 31 - 1) (half a 0 * half a 0 + half a 1 * half a 1)))) s
/-- `vcrot.p` (R147). -/
def execVcrotP (i : Iss) (f : FVC) (s : State) : Out := slotV i (opVC1 f true (fun a => mkC (sat 16 (- half a 1)) (half a 0))) s
/-- `vcrot.n` (R147). -/
def execVcrotN (i : Iss) (f : FVC) (s : State) : Out := slotV i (opVC1 f true (fun a => mkC (half a 1) (sat 16 (- half a 0)))) s

/-- `vcdot` and `vcdotj`: exact sums over the active elements, added modulo 2^40 (R148). -/
def opVcdot (f : FVD) (conj : Bool) (k : Ctx) : Op :=
  let a := f.va.toNat
  let b := f.vb.toNat
  let acd := f.acd.toNat
  let n := footprint k.vl 4
  let (re, im) := (k.actives f.mg.toNat).foldl (fun (p : Int × Int) e =>
    let q := cprod conj (k.el a 4 e) (k.el b 4 e)
    (p.1 + q.1, p.2 + q.2)) ((0, 0) : Int × Int)
  let acc (i : Nat) : Int := if f.zero then 0 else k.acc i
  let lat := 6 + cBeats k - 1
  Op.alu (isEven acd && decide (f.z = 0) && groupOk n a && groupOk n b)
    (groupCodes n a ++ groupCodes n b ++ guardReg f.mg.toNat ++ codes (cAcc acd) 2) (codes (cAcc acd) 2)
    [k.res (cAcc acd) (pat 40 (acc acd + re)) lat, k.res (cAcc (acd + 1)) (pat 40 (acc (acd + 1) + im)) lat]

/-- `vcdot` (R148). -/
def execVcdot (i : Iss) (f : FVD) (s : State) : Out := slotV i (opVcdot f false) s
/-- `vcdotj` (R148). -/
def execVcdotj (i : Iss) (f : FVD) (s : State) : Out := slotV i (opVcdot f true) s
/-- `vpack`: each ci32 part by R126, convergent and saturated (R149). -/
def execVpack (i : Iss) (f : FVI) (s : State) : Out := slotV i (fun k =>
  let a := f.va.toNat
  let h (x : Nat) : Int := sat 16 (roundShift 2 (sx 32 x) f.imm.toNat)
  opEl k (decide (f.ty = 0)) [(a, 8)] f.vd.toNat 4 f.mg.toNat (2 + cBeats k - 1) []
    (fun e => mkC (h (k.el a 8 e)) (h (k.el a 8 e / 2 ^ 32)))) s
/-- `vunpk`: each ci16 part times 2^sh (R149). -/
def execVunpk (i : Iss) (f : FVI) (s : State) : Out := slotV i (fun k =>
  let a := f.va.toNat
  let h (x : Int) : Nat := pat 32 (x * (2 ^ f.imm.toNat : Nat))
  opEl k (decide (f.ty = 0 ∧ f.imm.toNat ≤ 15)) [(a, 4)] f.vd.toNat 8 f.mg.toNat (2 + cBeats k - 1) []
    (fun e => h (half (k.el a 4 e) 0) + 2 ^ 32 * h (half (k.el a 4 e) 1))) s

/-- Parts of a ci16 or i16 element. -/
def parts16 (ty x : Nat) : List Int := if ty = 0 then [half x 0, half x 1] else [sx 16 x]

/-- A block shift of one part by k (R150). -/
def bfShift (n : Int) (x : Int) : Int :=
  if 0 ≤ n then (if 16 ≤ n ∧ x = 0 then 0 else if 16 ≤ n then sat 16 (if 0 < x then 2 ^ 16 else - 2 ^ 16) else sat 16 (x * (2 ^ n.toNat : Nat)))
  else if n ≤ -16 then 0 else roundShift 2 x (-n).toNat

/-- `vbfs`: shift by the signed value of `rs` (R150). -/
def execVbfs (i : Iss) (f : FVR) (s : State) : Out := slotV i (fun k =>
  let ty := f.ty.toNat
  let sz := tySize ty
  let a := f.va.toNat
  let n := sx 32 (k.s f.vb.toNat)
  opEl k (decide (ty ≤ 1)) [(a, sz)] f.vd.toNat sz f.mg.toNat (2 + tyBeats ty k.vl - 1) [cS f.vb.toNat]
    (fun e => byPart ty (fun x _ => bfShift n x) (k.el a sz e) 0)) s

/-- `vbfn`: normalise by the smallest count of redundant sign bits, which goes to `sd` (R150). -/
def opVbfn (f : FVR) (k : Ctx) : Op :=
  let ty := f.ty.toNat
  let sz := tySize ty
  let a := f.va.toNat
  let vd := f.vd.toNat
  let act := k.actives f.mg.toNat
  let n := if act = [] then 0 else act.foldl (fun m e => (parts16 ty (k.el a sz e)).foldl (fun m x => min m (cls16 x)) m) 15
  let lat := 4 + tyBeats ty k.vl - 1
  let fp := footprint k.vl sz
  Op.alu (decide (ty ≤ 1) && groupOk fp a && groupOk fp vd) (groupCodes fp a ++ guardReg f.mg.toNat)
    (groupCodes fp vd ++ [cS f.vb.toNat])
    (k.vres vd sz lat (act.map (fun e => (e, byPart ty (fun x _ => x * (2 ^ n : Nat)) (k.el a sz e) 0)))
      ++ [k.res (cS f.vb.toNat) n lat])

/-- `vbfn` (R150). -/
def execVbfn (i : Iss) (f : FVR) (s : State) : Out := slotV i (opVbfn f) s

/-! ## Memory (R151 to R156) -/

/-- Element addresses of a strided access and the address after the last (R151). -/
def strideAddrs (k : Ctx) (m : Nat) : Nat → Nat → Option (List Nat × Nat)
  | 0, x => some ([], x)
  | n + 1, x =>
    match modUpdate x (k.rd (cM m)) (k.rd (cBase m)) (k.rd (cCtl m)) with
    | none => none
    | some y => (strideAddrs k m n y).map (fun r => (x :: r.1, r.2))

/-- The kinds of vector access: unit stride, strided by modifier, indexed. -/
inductive VForm where
  | unit | stride | index
  deriving DecidableEq, Repr

/-- Element addresses and the updated base; none for a reserved modifier (R87, R151). -/
def vecAddrs (k : Ctx) (f : FVM) (form : VForm) : Option (List Nat × Nat) :=
  let an := k.a f.an.toNat
  let sz := 2 ^ f.sz.toNat
  match form with
  | .unit => some ((List.range k.vl).map (fun e => (an + e * sz) % 2 ^ 32), (an + k.vl * sz) % 2 ^ 32)
  | .stride => strideAddrs k (f.rx.toNat % 8) k.vl an
  | .index => some ((List.range k.vl).map (fun e => (an + k.el f.rx.toNat 4 e) % 2 ^ 32), an)

/-- A faulty element: outside LDM, or not aligned to its size (R152). -/
def elFaulty (sz a : Nat) : Bool := decide (0x40000 < a + sz) || decide (a % sz ≠ 0)

/-- Encoding rules of VM (R144). -/
def vmLegal (k : Ctx) (f : FVM) (form : VForm) : Bool :=
  let n := footprint k.vl (2 ^ f.sz.toNat)
  groupOk n f.vt.toNat &&
  (match form with
   | .unit => decide (f.rx = 0) | .stride => decide (f.rx.toNat < 8)
   | .index => !f.u && groupOk (footprint k.vl 4) f.rx.toNat)

/-- Registers that a VM instruction addresses with. -/
def vmReads (k : Ctx) (f : FVM) (form : VForm) : List Nat :=
  cA f.an.toNat :: guardReg f.mg.toNat ++
  (match form with
   | .unit => [] | .stride => cMod (f.rx.toNat % 8) | .index => groupCodes (footprint k.vl 4) f.rx.toNat)

/-- Beats of an access form (R153). -/
def vmBeats (k : Ctx) (f : FVM) (form : VForm) : Nat :=
  match form with
  | .unit => (match f.sz.toNat with | 0 => 1 | 3 => ceilDiv k.vl 8 | _ => ceilDiv k.vl 16)
  | _ => ceilDiv k.vl 16

/-- A vector load; `ff`: first fault; `cls`: class latency (R151 to R155). -/
def opVload (f : FVM) (form : VForm) (ff : Bool) (cls : Nat) (k : Ctx) : Op :=
  let sz := 2 ^ f.sz.toNat
  let n := footprint k.vl sz
  let vt := f.vt.toNat
  let regs := groupCodes n vt
  { legal := vmLegal k f form, reads := vmReads k f form,
    dests := regs ++ (if f.u then [cA f.an.toNat] else []) ++ (if ff then [codeVff] else []), ct := false, stall := false, mem := 2,
    eff := fun u =>
      match vecAddrs k f form with
      | none => u.fail 1 3
      | some (addrs, next) =>
        let act := (k.actives f.mg.toNat).map (fun e => (e, addrs.getD e 0))
        let bad := act.find? (fun e => elFaulty sz e.2)
        let first := act.head?
        match bad with
        | some b =>
          if ff ∧ first ≠ some b then
            let next := if form = .unit then (k.a f.an.toNat + b.1 * sz) % 2 ^ 32 else next
            let els := act.filter (fun e => decide (e.1 < b.1))
            { u with ops := u.ops ++ [.vload sz els (regs.map (phys k.rrb)) vt (cls + vmBeats k f form - 1) (some b.1)
                       (if f.u then some (phys k.rrb (cA f.an.toNat), next) else none)],
                     acc := u.acc ++ els.map (fun e => (e.2, sz, false)) }
          else u.failAt 7 3 b.1 b.2
        | none =>
          { u with ops := u.ops ++ [.vload sz act (regs.map (phys k.rrb)) vt (cls + vmBeats k f form - 1) (if ff then some 0 else none)
                     (if f.u then some (phys k.rrb (cA f.an.toNat), next) else none)],
                   acc := u.acc ++ act.map (fun e => (e.2, sz, false)) } }

/-- A vector store: the bytes of a higher-numbered element remain (R151 to R154). -/
def opVstore (f : FVM) (form : VForm) (k : Ctx) : Op :=
  let sz := 2 ^ f.sz.toNat
  let vt := f.vt.toNat
  { legal := vmLegal k f form, reads := vmReads k f form ++ groupCodes (footprint k.vl sz) vt,
    dests := if f.u then [cA f.an.toNat] else [], ct := false, stall := false, mem := 2,
    eff := fun u =>
      match vecAddrs k f form with
      | none => u.fail 1 3
      | some (addrs, next) =>
        let act := (k.actives f.mg.toNat).map (fun e => (e, addrs.getD e 0))
        match act.find? (fun e => elFaulty sz e.2) with
        | some b => u.failAt 7 3 b.1 b.2
        | none =>
          let u := if f.u then u.put [k.res (cA f.an.toNat) next 1] else u
          { u with stores := u.stores ++ act.map (fun e => ⟨e.2, toBytes sz (k.el vt sz e.1), true⟩),
                   acc := u.acc ++ act.map (fun e => (e.2, sz, true)) } }

/-- `vld` (R151). -/
def execVld (i : Iss) (f : FVM) (s : State) : Out := slotV i (opVload f .unit false 5) s
/-- `vlds` (R151). -/
def execVlds (i : Iss) (f : FVM) (s : State) : Out := slotV i (opVload f .stride false 8) s
/-- `vgather` (R151). -/
def execVgather (i : Iss) (f : FVM) (s : State) : Out := slotV i (opVload f .index false 8) s
/-- `vldff` (R155). -/
def execVldff (i : Iss) (f : FVM) (s : State) : Out := slotV i (opVload f .unit true 6) s
/-- `vgatherff` (R155). -/
def execVgatherff (i : Iss) (f : FVM) (s : State) : Out := slotV i (opVload f .index true 8) s
/-- `vst` (R151). -/
def execVst (i : Iss) (f : FVM) (s : State) : Out := slotV i (opVstore f .unit) s
/-- `vsts` (R151). -/
def execVsts (i : Iss) (f : FVM) (s : State) : Out := slotV i (opVstore f .stride) s
/-- `vscatter` (R151). -/
def execVscatter (i : Iss) (f : FVM) (s : State) : Out := slotV i (opVstore f .index) s

/-! ## Element moves (R144) -/

/-- `vext`: element IDX to `sd`, sign-extended; a ci16 element whole (R144). -/
def opVext (f : FVX) (k : Ctx) : Op :=
  let sz := tySize f.ty.toNat
  let n := footprint k.vl sz
  let x := k.el f.vx.toNat sz f.idx.toNat
  Op.alu (decide (f.z = 0) && decide (f.idx.toNat < k.vl) && groupOk n f.vx.toNat) (groupCodes n f.vx.toNat) [cS f.rs.toNat]
    [k.res (cS f.rs.toNat) (pat 32 (sx (8 * sz) x)) 2]

/-- `vins`: element IDX takes the low part of `rs` (R144). -/
def opVins (f : FVX) (k : Ctx) : Op :=
  let sz := tySize f.ty.toNat
  let n := footprint k.vl sz
  Op.alu (decide (f.z = 0) && decide (f.idx.toNat < k.vl) && groupOk n f.vx.toNat) [cS f.rs.toNat] (groupCodes n f.vx.toNat)
    (k.vres f.vx.toNat sz 2 [(f.idx.toNat, k.s f.rs.toNat)])

/-- `vbcast`: every element below vl takes the low part of `rs` (R144). -/
def opVbcast (f : FVX) (k : Ctx) : Op :=
  let ty := f.ty.toNat
  let sz := tySize ty
  let n := footprint k.vl sz
  Op.alu (decide (f.z = 0) && decide (f.idx = 0) && groupOk n f.vx.toNat) [cS f.rs.toNat] (groupCodes n f.vx.toNat)
    (k.vres f.vx.toNat sz (2 + tyBeats ty k.vl - 1) ((List.range k.vl).map (fun e => (e, k.s f.rs.toNat))))

/-- `vext` (R144). -/
def execVext (i : Iss) (f : FVX) (s : State) : Out := slotV i (opVext f) s
/-- `vins` (R144). -/
def execVins (i : Iss) (f : FVX) (s : State) : Out := slotV i (opVins f) s
/-- `vbcast` (R144). -/
def execVbcast (i : Iss) (f : FVX) (s : State) : Out := slotV i (opVbcast f) s

/-! ## Vector length, fault index and masks (R145) -/

/-- `vsetvl`: the unsigned source clamped to [1, 64] (R145). -/
def opVsetvl (f : FVL) (k : Ctx) : Op :=
  let v := if f.i then f.imm.toNat else k.s f.rs.toNat
  Op.alu (decide (f.z = 0) && (if f.i then decide (f.rs = 0) else decide (f.imm = 0))) (if f.i then [] else [cS f.rs.toNat]) [codeVl]
    [k.res codeVl (max 1 (min 64 v)) 2]

/-- The unused fields of the other VL instructions are 0. -/
def vlZero (f : FVL) : Bool := decide (f.z = 0) && !f.i && decide (f.imm = 0)

/-- `vsetvl` (R145). -/
def execVsetvl (i : Iss) (f : FVL) (s : State) : Out := slotV i (opVsetvl f) s
/-- `vgetvl` (R145). -/
def execVgetvl (i : Iss) (f : FVL) (s : State) : Out :=
  slotV i (fun k => Op.alu (vlZero f) [codeVl] [cS f.rs.toNat] [k.res (cS f.rs.toNat) k.vl 2]) s
/-- `vgetff` (R145). -/
def execVgetff (i : Iss) (f : FVL) (s : State) : Out :=
  slotV i (fun k => Op.alu (vlZero f) [codeVff] [cS f.rs.toNat] [k.res (cS f.rs.toNat) k.x.vff.toNat 2]) s
/-- `vsetff` (R145). -/
def execVsetff (i : Iss) (f : FVL) (s : State) : Out :=
  slotV i (fun k => Op.alu (vlZero f) [cS f.rs.toNat] [codeVff] [k.res codeVff (k.s f.rs.toNat % 64) 2]) s

/-- A mask operation that writes `vmd`: which of MA, MB and RS it uses; the others are 0. -/
def opVK (f : FVK) (ma mb rs : Bool) (g : Ctx → Nat → Nat → Nat) (k : Ctx) : Op :=
  let a := f.ma.toNat
  let b := f.mb.toNat
  let r := f.rs.toNat
  Op.alu (!f.z && (ma || decide (a = 0)) && (mb || decide (b = 0)) && (if rs then isEven r else decide (r = 0)))
    ((if ma then [cVm a] else []) ++ (if mb then [cVm b] else []) ++ (if rs then codes (cS r) 2 else [])) [cVm f.md.toNat]
    [k.res (cVm f.md.toNat) (g k (k.vm a) (k.vm b) % 2 ^ 64) 2]

/-- A mask operation that writes `sd` (and `sd` + 1 when `pair`) from MA; MD and MB are 0. -/
def opVKs (f : FVK) (pair : Bool) (g : Ctx → Nat → Nat) (k : Ctx) : Op :=
  let r := f.rs.toNat
  let v := g k (k.vm f.ma.toNat)
  Op.alu (!f.z && decide (f.md = 0) && decide (f.mb = 0) && (!pair || isEven r)) [cVm f.ma.toNat] (codes (cS r) (if pair then 2 else 1))
    (k.res (cS r) (v % 2 ^ 32) 2 :: (if pair then [k.res (cS (r + 1)) (v / 2 ^ 32 % 2 ^ 32) 2] else []))

/-- The bits of a mask below vl. -/
def belowVl (k : Ctx) (m : Nat) : List Nat := (List.range k.vl).filter (fun e => m.testBit e)

/-- `vmand` (R145). -/
def execVmand (i : Iss) (f : FVK) (s : State) : Out := slotV i (opVK f true true false (fun _ a b => a &&& b)) s
/-- `vmor` (R145). -/
def execVmor (i : Iss) (f : FVK) (s : State) : Out := slotV i (opVK f true true false (fun _ a b => a ||| b)) s
/-- `vmxor` (R145). -/
def execVmxor (i : Iss) (f : FVK) (s : State) : Out := slotV i (opVK f true true false (fun _ a b => a ^^^ b)) s
/-- `vmandn` (R145). -/
def execVmandn (i : Iss) (f : FVK) (s : State) : Out := slotV i (opVK f true true false (fun _ a b => a &&& (2 ^ 64 - 1 - b))) s
/-- `vmnot` (R145). -/
def execVmnot (i : Iss) (f : FVK) (s : State) : Out := slotV i (opVK f true false false (fun _ a _ => 2 ^ 64 - 1 - a)) s
/-- `vmset` (R145). -/
def execVmset (i : Iss) (f : FVK) (s : State) : Out := slotV i (opVK f false false false (fun k _ _ => 2 ^ k.vl - 1)) s
/-- `vmclr` (R145). -/
def execVmclr (i : Iss) (f : FVK) (s : State) : Out := slotV i (opVK f false false false (fun _ _ _ => 0)) s
/-- `vmfrs` (R145). -/
def execVmfrs (i : Iss) (f : FVK) (s : State) : Out := slotV i (opVK f false false true (fun k _ _ => k.s f.rs.toNat + k.s (f.rs.toNat + 1) * 2 ^ 32)) s
/-- `vmpop` (R145). -/
def execVmpop (i : Iss) (f : FVK) (s : State) : Out := slotV i (opVKs f false (fun k m => (belowVl k m).length)) s
/-- `vmfirst` (R145). -/
def execVmfirst (i : Iss) (f : FVK) (s : State) : Out := slotV i (opVKs f false (fun k m => (belowVl k m).headD 64)) s
/-- `vmtos` (R145). -/
def execVmtos (i : Iss) (f : FVK) (s : State) : Out := slotV i (opVKs f true (fun _ m => m)) s

end Sys2Proof.Machine
end

