-- ==== Sys2Proof/Machine/Dispatch.lean ====
section
/-! DEFINITION. The meaning of every command, one arm per constructor of Instr, each a direct call of its definition. -/

namespace Sys2Proof.Machine

/-- The effect of a command on everything but the queue of waiting commands. -/
def exec (i : Instr) (s : State) : Host.Outcome State Fault Refusal :=
  match i with
  | .add noRes claims writes => Sys2Proof.Machine.execAdd noRes claims writes s
  | .change noRes claims writes => Sys2Proof.Machine.execChange noRes claims writes s
  | .remove writes => Sys2Proof.Machine.execRemove writes s
  | .query => Sys2Proof.Machine.execQuery s
  | .registerWrite who a n v => Sys2Proof.Machine.execRegisterWrite who a n v s
  | .pllLock => Sys2Proof.Machine.execPllLock s
  | .sourceLost => Sys2Proof.Machine.execSourceLost s
  | .refclkLoss => Sys2Proof.Machine.execRefclkLoss s
  | .airPhaseAdj v => Sys2Proof.Machine.execAirPhaseAdj v s
  | .ppsInEdge odd => Sys2Proof.Machine.execPpsInEdge odd s
  | .airStep v => Sys2Proof.Machine.execAirStep v s
  | .timingOutEdge n => Sys2Proof.Machine.execTimingOutEdge n s
  | .ppsOutEdge => Sys2Proof.Machine.execPpsOutEdge s
  | .airCommitGrid v => Sys2Proof.Machine.execAirCommitGrid v s
  | .commitNext persist snap clr discard => Sys2Proof.Machine.execCommitNext persist snap clr discard s
  | .commitAt persist snap clr discard => Sys2Proof.Machine.execCommitAt persist snap clr discard s
  | .commitDiscard => Sys2Proof.Machine.execCommitDiscard s
  | .commitArm => Sys2Proof.Machine.execCommitArm s
  | .commitDecide missing => Sys2Proof.Machine.execCommitDecide missing s
  | .commitApply => Sys2Proof.Machine.execCommitApply s
  | .commitEnd => Sys2Proof.Machine.execCommitEnd s
  | .snapNext clr => Sys2Proof.Machine.execSnapNext clr s
  | .snapAt clr => Sys2Proof.Machine.execSnapAt clr s
  | .snapshotArm => Sys2Proof.Machine.execSnapshotArm s
  | .snapshotCapture => Sys2Proof.Machine.execSnapshotCapture s
  | .snapshotEnd => Sys2Proof.Machine.execSnapshotEnd s
  | .addS u f => Sys2Proof.Machine.execAddS u f s
  | .sub u f => Sys2Proof.Machine.execSub u f s
  | .and u f => Sys2Proof.Machine.execAnd u f s
  | .or u f => Sys2Proof.Machine.execOr u f s
  | .xor u f => Sys2Proof.Machine.execXor u f s
  | .andn u f => Sys2Proof.Machine.execAndn u f s
  | .shl u f => Sys2Proof.Machine.execShl u f s
  | .shr u f => Sys2Proof.Machine.execShr u f s
  | .sar u f => Sys2Proof.Machine.execSar u f s
  | .min u f => Sys2Proof.Machine.execMin u f s
  | .max u f => Sys2Proof.Machine.execMax u f s
  | .minu u f => Sys2Proof.Machine.execMinu u f s
  | .maxu u f => Sys2Proof.Machine.execMaxu u f s
  | .adds u f => Sys2Proof.Machine.execAdds u f s
  | .subs u f => Sys2Proof.Machine.execSubs u f s
  | .abs u f => Sys2Proof.Machine.execAbs u f s
  | .negs u f => Sys2Proof.Machine.execNegs u f s
  | .clz u f => Sys2Proof.Machine.execClz u f s
  | .cls u f => Sys2Proof.Machine.execCls u f s
  | .sxh u f => Sys2Proof.Machine.execSxh u f s
  | .zxh u f => Sys2Proof.Machine.execZxh u f s
  | .sxb u f => Sys2Proof.Machine.execSxb u f s
  | .zxb u f => Sys2Proof.Machine.execZxb u f s
  | .mul u f => Sys2Proof.Machine.execMul u f s
  | .mulh u f => Sys2Proof.Machine.execMulh u f s
  | .mulhu u f => Sys2Proof.Machine.execMulhu u f s
  | .addi u f => Sys2Proof.Machine.execAddi u f s
  | .andi u f => Sys2Proof.Machine.execAndi u f s
  | .ori u f => Sys2Proof.Machine.execOri u f s
  | .xori u f => Sys2Proof.Machine.execXori u f s
  | .shli u f => Sys2Proof.Machine.execShli u f s
  | .shri u f => Sys2Proof.Machine.execShri u f s
  | .sari u f => Sys2Proof.Machine.execSari u f s
  | .cmpEq u f => Sys2Proof.Machine.execCmpEq u f s
  | .cmpNe u f => Sys2Proof.Machine.execCmpNe u f s
  | .cmpLt u f => Sys2Proof.Machine.execCmpLt u f s
  | .cmpLe u f => Sys2Proof.Machine.execCmpLe u f s
  | .cmpGt u f => Sys2Proof.Machine.execCmpGt u f s
  | .cmpGe u f => Sys2Proof.Machine.execCmpGe u f s
  | .cmpLtu u f => Sys2Proof.Machine.execCmpLtu u f s
  | .cmpLeu u f => Sys2Proof.Machine.execCmpLeu u f s
  | .cmpGtu u f => Sys2Proof.Machine.execCmpGtu u f s
  | .cmpGeu u f => Sys2Proof.Machine.execCmpGeu u f s
  | .pand u f => Sys2Proof.Machine.execPand u f s
  | .por u f => Sys2Proof.Machine.execPor u f s
  | .pxor u f => Sys2Proof.Machine.execPxor u f s
  | .pandn u f => Sys2Proof.Machine.execPandn u f s
  | .pnot u f => Sys2Proof.Machine.execPnot u f s
  | .pset u f => Sys2Proof.Machine.execPset u f s
  | .pclr u f => Sys2Proof.Machine.execPclr u f s
  | .mov u f => Sys2Proof.Machine.execMov u f s
  | .movl u f => Sys2Proof.Machine.execMovl u f s
  | .movh u f => Sys2Proof.Machine.execMovh u f s
  | .br u f => Sys2Proof.Machine.execBr u f s
  | .call u f => Sys2Proof.Machine.execCall u f s
  | .jr u f => Sys2Proof.Machine.execJr u f s
  | .jalr u f => Sys2Proof.Machine.execJalr u f s
  | .reti u z => Sys2Proof.Machine.execReti u z s
  | .retiResume c => Sys2Proof.Machine.execRetiResume c s
  | .loop u f => Sys2Proof.Machine.execLoop u f s
  | .loopR u f => Sys2Proof.Machine.execLoopR u f s
  | .loopBack c => Sys2Proof.Machine.execLoopBack c s
  | .fence u f => Sys2Proof.Machine.execFence u f s
  | .trap u f => Sys2Proof.Machine.execTrap u f s
  | .brk u f => Sys2Proof.Machine.execBrk u f s
  | .done u f => Sys2Proof.Machine.execDone u f s
  | .mvfb u f => Sys2Proof.Machine.execMvfb u f s
  | .mvtb u f => Sys2Proof.Machine.execMvtb u f s
  | .mtc u f => Sys2Proof.Machine.execMtc u f s
  | .mfc u f => Sys2Proof.Machine.execMfc u f s
  | .ldB u f => Sys2Proof.Machine.execLdB u f s
  | .ldBu u f => Sys2Proof.Machine.execLdBu u f s
  | .ldH u f => Sys2Proof.Machine.execLdH u f s
  | .ldHu u f => Sys2Proof.Machine.execLdHu u f s
  | .ldW u f => Sys2Proof.Machine.execLdW u f s
  | .ldD u f => Sys2Proof.Machine.execLdD u f s
  | .ldQ u f => Sys2Proof.Machine.execLdQ u f s
  | .ldA u f => Sys2Proof.Machine.execLdA u f s
  | .ldAcc u f => Sys2Proof.Machine.execLdAcc u f s
  | .ldM u f => Sys2Proof.Machine.execLdM u f s
  | .stB u f => Sys2Proof.Machine.execStB u f s
  | .stH u f => Sys2Proof.Machine.execStH u f s
  | .stW u f => Sys2Proof.Machine.execStW u f s
  | .stD u f => Sys2Proof.Machine.execStD u f s
  | .stQ u f => Sys2Proof.Machine.execStQ u f s
  | .stA u f => Sys2Proof.Machine.execStA u f s
  | .stAcc u f => Sys2Proof.Machine.execStAcc u f s
  | .stM u f => Sys2Proof.Machine.execStM u f s
  | .addiA u f => Sys2Proof.Machine.execAddiA u f s
  | .adda u f => Sys2Proof.Machine.execAdda u f s
  | .upd u f => Sys2Proof.Machine.execUpd u f s
  | .cmac u f => Sys2Proof.Machine.execCmac u f s
  | .cmacj u f => Sys2Proof.Machine.execCmacj u f s
  | .dmac u f => Sys2Proof.Machine.execDmac u f s
  | .xmac u f => Sys2Proof.Machine.execXmac u f s
  | .qmac u f => Sys2Proof.Machine.execQmac u f s
  | .mac u f => Sys2Proof.Machine.execMac u f s
  | .fir u f => Sys2Proof.Machine.execFir u f s
  | .extw u f => Sys2Proof.Machine.execExtw u f s
  | .exth u f => Sys2Proof.Machine.execExth u f s
  | .extc u f => Sys2Proof.Machine.execExtc u f s
  | .clracc u f => Sys2Proof.Machine.execClracc u f s
  | .clraccP u f => Sys2Proof.Machine.execClraccP u f s
  | .movsa u f => Sys2Proof.Machine.execMovsa u f s
  | .addacc u f => Sys2Proof.Machine.execAddacc u f s
  | .subacc u f => Sys2Proof.Machine.execSubacc u f s
  | .shacc u f => Sys2Proof.Machine.execShacc u f s
  | .movga u f => Sys2Proof.Machine.execMovga u f s
  | .movla u f => Sys2Proof.Machine.execMovla u f s
  | .svadd u f => Sys2Proof.Machine.execSvadd u f s
  | .svadds u f => Sys2Proof.Machine.execSvadds u f s
  | .svsub u f => Sys2Proof.Machine.execSvsub u f s
  | .svsubs u f => Sys2Proof.Machine.execSvsubs u f s
  | .svconj u f => Sys2Proof.Machine.execSvconj u f s
  | .svrotj u f => Sys2Proof.Machine.execSvrotj u f s
  | .svrotnj u f => Sys2Proof.Machine.execSvrotnj u f s
  | .svshr u f => Sys2Proof.Machine.execSvshr u f s
  | .svcmul u f => Sys2Proof.Machine.execSvcmul u f s
  | .svcmulj u f => Sys2Proof.Machine.execSvcmulj u f s
  | .svswap u f => Sys2Proof.Machine.execSvswap u f s
  | .vadd u f => Sys2Proof.Machine.execVadd u f s
  | .vadds u f => Sys2Proof.Machine.execVadds u f s
  | .vsub u f => Sys2Proof.Machine.execVsub u f s
  | .vsubs u f => Sys2Proof.Machine.execVsubs u f s
  | .vand u f => Sys2Proof.Machine.execVand u f s
  | .vor u f => Sys2Proof.Machine.execVor u f s
  | .vxor u f => Sys2Proof.Machine.execVxor u f s
  | .vmin u f => Sys2Proof.Machine.execVmin u f s
  | .vmax u f => Sys2Proof.Machine.execVmax u f s
  | .vshli u f => Sys2Proof.Machine.execVshli u f s
  | .vshri u f => Sys2Proof.Machine.execVshri u f s
  | .vsari u f => Sys2Proof.Machine.execVsari u f s
  | .vmov u f => Sys2Proof.Machine.execVmov u f s
  | .vsel u f => Sys2Proof.Machine.execVsel u f s
  | .vconj u f => Sys2Proof.Machine.execVconj u f s
  | .vcmpEq u f => Sys2Proof.Machine.execVcmpEq u f s
  | .vcmpNe u f => Sys2Proof.Machine.execVcmpNe u f s
  | .vcmpLt u f => Sys2Proof.Machine.execVcmpLt u f s
  | .vcmpLe u f => Sys2Proof.Machine.execVcmpLe u f s
  | .vcmpGt u f => Sys2Proof.Machine.execVcmpGt u f s
  | .vcmpGe u f => Sys2Proof.Machine.execVcmpGe u f s
  | .vcmul u f => Sys2Proof.Machine.execVcmul u f s
  | .vcmulj u f => Sys2Proof.Machine.execVcmulj u f s
  | .vcmac u f => Sys2Proof.Machine.execVcmac u f s
  | .vcmacj u f => Sys2Proof.Machine.execVcmacj u f s
  | .vcmag2 u f => Sys2Proof.Machine.execVcmag2 u f s
  | .vcrotP u f => Sys2Proof.Machine.execVcrotP u f s
  | .vcrotN u f => Sys2Proof.Machine.execVcrotN u f s
  | .vcdot u f => Sys2Proof.Machine.execVcdot u f s
  | .vcdotj u f => Sys2Proof.Machine.execVcdotj u f s
  | .vpack u f => Sys2Proof.Machine.execVpack u f s
  | .vunpk u f => Sys2Proof.Machine.execVunpk u f s
  | .vbfs u f => Sys2Proof.Machine.execVbfs u f s
  | .vbfn u f => Sys2Proof.Machine.execVbfn u f s
  | .vld u f => Sys2Proof.Machine.execVld u f s
  | .vlds u f => Sys2Proof.Machine.execVlds u f s
  | .vgather u f => Sys2Proof.Machine.execVgather u f s
  | .vldff u f => Sys2Proof.Machine.execVldff u f s
  | .vgatherff u f => Sys2Proof.Machine.execVgatherff u f s
  | .vst u f => Sys2Proof.Machine.execVst u f s
  | .vsts u f => Sys2Proof.Machine.execVsts u f s
  | .vscatter u f => Sys2Proof.Machine.execVscatter u f s
  | .vext u f => Sys2Proof.Machine.execVext u f s
  | .vins u f => Sys2Proof.Machine.execVins u f s
  | .vbcast u f => Sys2Proof.Machine.execVbcast u f s
  | .vsetvl u f => Sys2Proof.Machine.execVsetvl u f s
  | .vgetvl u f => Sys2Proof.Machine.execVgetvl u f s
  | .vgetff u f => Sys2Proof.Machine.execVgetff u f s
  | .vsetff u f => Sys2Proof.Machine.execVsetff u f s
  | .vmand u f => Sys2Proof.Machine.execVmand u f s
  | .vmor u f => Sys2Proof.Machine.execVmor u f s
  | .vmxor u f => Sys2Proof.Machine.execVmxor u f s
  | .vmandn u f => Sys2Proof.Machine.execVmandn u f s
  | .vmnot u f => Sys2Proof.Machine.execVmnot u f s
  | .vmset u f => Sys2Proof.Machine.execVmset u f s
  | .vmclr u f => Sys2Proof.Machine.execVmclr u f s
  | .vmpop u f => Sys2Proof.Machine.execVmpop u f s
  | .vmfirst u f => Sys2Proof.Machine.execVmfirst u f s
  | .vmtos u f => Sys2Proof.Machine.execVmtos u f s
  | .vmfrs u f => Sys2Proof.Machine.execVmfrs u f s
  | .interruptEntry c => Sys2Proof.Machine.execInterruptEntry c s
  | .preciseException c code slot => Sys2Proof.Machine.execPreciseException c code slot s
  | .deferredException c => Sys2Proof.Machine.execDeferredException c s
  | .ccrIrqRaise c v => Sys2Proof.Machine.execCcrIrqRaise c v s
  | .dmaGo c v => Sys2Proof.Machine.execDmaGo c v s
  | .dmaAbort c => Sys2Proof.Machine.execDmaAbort c s
  | .dmaTransferStart c => Sys2Proof.Machine.execDmaTransferStart c s
  | .dmaTransferEnd c => Sys2Proof.Machine.execDmaTransferEnd c s
  | .ginit c => Sys2Proof.Machine.execGinit c s
  | .gseq c => Sys2Proof.Machine.execGseq c s
  | .gxor c => Sys2Proof.Machine.execGxor c s
  | .crcu c => Sys2Proof.Machine.execCrcu c s
  | .gxorm c => Sys2Proof.Machine.execGxorm c s
  | .crcm c => Sys2Proof.Machine.execCrcm c s
  | .bilv c => Sys2Proof.Machine.execBilv c s
  | .rmsel c => Sys2Proof.Machine.execRmsel c s
  | .rmrev c => Sys2Proof.Machine.execRmrev c s
  | .pack c => Sys2Proof.Machine.execPack c s
  | .stclr c => Sys2Proof.Machine.execStclr c s
  | .cpsave c => Sys2Proof.Machine.execCpsave c s
  | .cprst c => Sys2Proof.Machine.execCprst c s
  | .bcpCommandComplete c => Sys2Proof.Machine.execBcpCommandComplete c s
  | .descriptorAccept => Sys2Proof.Machine.execDescriptorAccept s
  | .release => Sys2Proof.Machine.execRelease s
  | .signal => Sys2Proof.Machine.execSignal s
  | .tsySignal v => Sys2Proof.Machine.execTsySignal v s
  | .tsyEventRaise v => Sys2Proof.Machine.execTsyEventRaise v s
  | .eventRaise => Sys2Proof.Machine.execEventRaise s
  | .waitTimeout id => Sys2Proof.Machine.execWaitTimeout id s
  | .dispatch => Sys2Proof.Machine.execDispatch s
  | .doneReport => Sys2Proof.Machine.execDoneReport s
  | .tsyCancel v => Sys2Proof.Machine.execTsyCancel v s
  | .tsyMsg v => Sys2Proof.Machine.execTsyMsg v s
  | .deadline id => Sys2Proof.Machine.execDeadline id s
  | .watchdogKill id => Sys2Proof.Machine.execWatchdogKill id s
  | .haltHoldExpiry c => Sys2Proof.Machine.execHaltHoldExpiry c s
  | .resume c => Sys2Proof.Machine.execResume c s
  | .tsyRelease v => Sys2Proof.Machine.execTsyRelease v s
  | .lineageReport => Sys2Proof.Machine.execLineageReport s
  | .queueCreate q => Sys2Proof.Machine.execQueueCreate q s
  | .queueDestroy q => Sys2Proof.Machine.execQueueDestroy q s
  | .queueDisabled q => Sys2Proof.Machine.execQueueDisabled q s
  | .qdbReserve who q g => Sys2Proof.Machine.execQdbReserve who q g s
  | .qdbPublish who q idx gen vd => Sys2Proof.Machine.execQdbPublish who q idx gen vd s
  | .reservationTimeout => Sys2Proof.Machine.execReservationTimeout s
  | .hwProduce q => Sys2Proof.Machine.execHwProduce q s
  | .hwConsume q => Sys2Proof.Machine.execHwConsume q s
  | .qdbConsumed q nm1 gen => Sys2Proof.Machine.execQdbConsumed q nm1 gen s
  | .queueNotify q => Sys2Proof.Machine.execQueueNotify q s
  | .fft j => Sys2Proof.Machine.execFft j s
  | .ifft j => Sys2Proof.Machine.execIfft j s
  | .dft j => Sys2Proof.Machine.execDft j s
  | .idft j => Sys2Proof.Machine.execIdft j s
  | .prach j => Sys2Proof.Machine.execPrach j s
  | .chest j => Sys2Proof.Machine.execChest j s
  | .tcomb j => Sys2Proof.Machine.execTcomb j s
  | .eq1 j => Sys2Proof.Machine.execEq1 j s
  | .mmse j => Sys2Proof.Machine.execMmse j s
  | .zf j => Sys2Proof.Machine.execZf j s
  | .bfweight j => Sys2Proof.Machine.execBfweight j s
  | .precode j => Sys2Proof.Machine.execPrecode j s
  | .demap j => Sys2Proof.Machine.execDemap j s
  | .scan b => Sys2Proof.Machine.execScan b s
  | .ldpcDecode j => Sys2Proof.Machine.execLdpcDecode j s
  | .ldpcEncode j => Sys2Proof.Machine.execLdpcEncode j s
  | .turboDecode j => Sys2Proof.Machine.execTurboDecode j s
  | .polarEncode j => Sys2Proof.Machine.execPolarEncode j s
  | .polarDecode j => Sys2Proof.Machine.execPolarDecode j s
  | .jobComplete kind j => Sys2Proof.Machine.execJobComplete kind j s
  | .gainUpdate st => Sys2Proof.Machine.execGainUpdate st s
  | .freezeEnd st => Sys2Proof.Machine.execFreezeEnd st s
  | .fenGlUnfreeze v => Sys2Proof.Machine.execFenGlUnfreeze v s
  | .energyTrigger b w => Sys2Proof.Machine.execEnergyTrigger b w s
  | .qualifierDone b w => Sys2Proof.Machine.execQualifierDone b w s
  | .wordMatch b w => Sys2Proof.Machine.execWordMatch b w s
  | .windowResult b w => Sys2Proof.Machine.execWindowResult b w s
  | .bfGraceExpiry b w => Sys2Proof.Machine.execBfGraceExpiry b w s
  | .bfSampleDrop b n => Sys2Proof.Machine.execBfSampleDrop b n s
  | .fenBfAck b w v => Sys2Proof.Machine.execFenBfAck b w v s
  | .paEnEdge n => Sys2Proof.Machine.execPaEnEdge n s
  | .txsPaenClr v => Sys2Proof.Machine.execTxsPaenClr v s
  | .yrwSwTrig v => Sys2Proof.Machine.execYrwSwTrig v s
  | .seqTrigger q => Sys2Proof.Machine.execSeqTrigger q s
  | .samplingInstant q => Sys2Proof.Machine.execSamplingInstant q s
  | .sequenceResult raws => Sys2Proof.Machine.execSequenceResult raws s
  | .injGo => Sys2Proof.Machine.execInjGo s
  | .injCancel => Sys2Proof.Machine.execInjCancel s
  | .injSampling => Sys2Proof.Machine.execInjSampling s
  | .injResult raws => Sys2Proof.Machine.execInjResult raws s
  | .calPhase0 ch => Sys2Proof.Machine.execCalPhase0 ch s
  | .calPhase1 ch target => Sys2Proof.Machine.execCalPhase1 ch target s
  | .calPhaseStart => Sys2Proof.Machine.execCalPhaseStart s
  | .calPhaseEnd raws => Sys2Proof.Machine.execCalPhaseEnd raws s
  | .yrwResAck r v => Sys2Proof.Machine.execYrwResAck r v s
  | .frameReceive m frame pcsErr corr uncorr per => Sys2Proof.Machine.execFrameReceive m frame pcsErr corr uncorr per s
  | .frameDelivery m => Sys2Proof.Machine.execFrameDelivery m s
  | .rxHoldExpiry m => Sys2Proof.Machine.execRxHoldExpiry m s
  | .macBrProd g r v => Sys2Proof.Machine.execMacBrProd g r v s
  | .brEnable g r v => Sys2Proof.Machine.execBrEnable g r v s
  | .frameLaunch m => Sys2Proof.Machine.execFrameLaunch m s
  | .frameSent m => Sys2Proof.Machine.execFrameSent m s
  | .macTxtsPop m => Sys2Proof.Machine.execMacTxtsPop m s
  | .macLinkUp m => Sys2Proof.Machine.execMacLinkUp m s
  | .macLinkDown m los => Sys2Proof.Machine.execMacLinkDown m los s
  | .wakeMatch m frame => Sys2Proof.Machine.execWakeMatch m frame s
  | .read p => Sys2Proof.Machine.execRead p s
  | .write p => Sys2Proof.Machine.execWrite p s
  | .doorbell p => Sys2Proof.Machine.execDoorbell p s
  | .rdata who tag => Sys2Proof.Machine.execRdata who tag s
  | .wack who tag => Sys2Proof.Machine.execWack who tag s
  | .irq c => Sys2Proof.Machine.execIrq c s
  | .stop what stop => Sys2Proof.Machine.execStop what stop s
  | .linkReplay kind id spent => Sys2Proof.Machine.execLinkReplay kind id spent s
  | .heartbeatLoss kind id => Sys2Proof.Machine.execHeartbeatLoss kind id s
  | .reconfMarkFailed kind id => Sys2Proof.Machine.execReconfMarkFailed kind id s
  | .reconfReturn kind id => Sys2Proof.Machine.execReconfReturn kind id s
  | .rtsTestEnd kind id => Sys2Proof.Machine.execRtsTestEnd kind id s
  | .epochFlip => Sys2Proof.Machine.execEpochFlip s
  | .epochRelease => Sys2Proof.Machine.execEpochRelease s
  | .requestTimeout who tag => Sys2Proof.Machine.execRequestTimeout who tag s
  | .powerDown p => Sys2Proof.Machine.execPowerDown p s
  | .pointOfNoReturn p => Sys2Proof.Machine.execPointOfNoReturn p s
  | .powerOff p => Sys2Proof.Machine.execPowerOff p s
  | .powerDownAbandon p => Sys2Proof.Machine.execPowerDownAbandon p s
  | .wake p => Sys2Proof.Machine.execWake p s
  | .wakeAdmit => Sys2Proof.Machine.execWakeAdmit s
  | .wakeComplete p => Sys2Proof.Machine.execWakeComplete p s
  | .refetchComplete la => Sys2Proof.Machine.execRefetchComplete la s
  | .teaselGo => Sys2Proof.Machine.execTeaselGo s
  | .teaselAbort => Sys2Proof.Machine.execTeaselAbort s
  | .teaselLineRead => Sys2Proof.Machine.execTeaselLineRead s
  | .readRaw => Sys2Proof.Machine.execReadRaw s
  | .writeData => Sys2Proof.Machine.execWriteData s
  | .writeChk => Sys2Proof.Machine.execWriteChk s
  | .testOpDone => Sys2Proof.Machine.execTestOpDone s
  | .refetchWindowEnable w => Sys2Proof.Machine.execRefetchWindowEnable w s
  | .rd core tag addr len => Sys2Proof.Machine.execRd core tag addr len s
  | .wr core tag addr data mask => Sys2Proof.Machine.execWr core tag addr data mask s
  | .rdc core tag addr => Sys2Proof.Machine.execRdc core tag addr s
  | .rdx core tag addr => Sys2Proof.Machine.execRdx core tag addr s
  | .wb core tag addr data => Sys2Proof.Machine.execWb core tag addr data s
  | .cln core tag addr => Sys2Proof.Machine.execCln core tag addr s
  | .snpack tag => Sys2Proof.Machine.execSnpack tag s
  | .snpdata tag data => Sys2Proof.Machine.execSnpdata tag data s
  | .hostBadPacket h => Sys2Proof.Machine.execHostBadPacket h s
  | .snoopTimeout tag => Sys2Proof.Machine.execSnoopTimeout tag s
  | .cohEnable r => Sys2Proof.Machine.execCohEnable r s
  | .cohDisable r => Sys2Proof.Machine.execCohDisable r s
  | .flushDone r => Sys2Proof.Machine.execFlushDone r s
  | .hlkVecRaise v => Sys2Proof.Machine.execHlkVecRaise v s
  | .hlkVecEn v => Sys2Proof.Machine.execHlkVecEn v s
  | .moduleFail m down => Sys2Proof.Machine.execModuleFail m down s
  | .hostLinkDown => Sys2Proof.Machine.execHostLinkDown s
  | .hostLinkUp w0 w1 r0 r1 => Sys2Proof.Machine.execHostLinkUp w0 w1 r0 r1 s
  | .hostReset => Sys2Proof.Machine.execHostReset s
  | .hostDownTimeout => Sys2Proof.Machine.execHostDownTimeout s
  | .tempSample temps => Sys2Proof.Machine.execTempSample temps s
  | .throttleStart vin pin => Sys2Proof.Machine.execThrottleStart vin pin s
  | .throttleEnd vin pin => Sys2Proof.Machine.execThrottleEnd vin pin s
  | .droop v => Sys2Proof.Machine.execDroop v s
  | .monResult volts procs => Sys2Proof.Machine.execMonResult volts procs s
  | .monResAck v => Sys2Proof.Machine.execMonResAck v s
  | .monFault c => Sys2Proof.Machine.execMonFault c s
  | .coreFail c => Sys2Proof.Machine.execCoreFail c s
  | .spareSubstitute c => Sys2Proof.Machine.execSpareSubstitute c s
  | .listenEntry => Sys2Proof.Machine.execListenEntry s
  | .listenAllOff => Sys2Proof.Machine.execListenAllOff s
  | .loadFw => Sys2Proof.Machine.execLoadFw s
  | .persist => Sys2Proof.Machine.execPersist s
  | .eraseCfg => Sys2Proof.Machine.execEraseCfg s
  | .sorrelWriteDone => Sys2Proof.Machine.execSorrelWriteDone s
  | .run => Sys2Proof.Machine.execRun s
  | .vinRise => Sys2Proof.Machine.execVinRise s
  | .vinFall => Sys2Proof.Machine.execVinFall s
  | .porstN bootsel => Sys2Proof.Machine.execPorstN bootsel s
  | .resetN bootsel => Sys2Proof.Machine.execResetN bootsel s
  | .startUpStep fail rmap cal cores spares => Sys2Proof.Machine.execStartUpStep fail rmap cal cores spares s
  | .freezeN ns => Sys2Proof.Machine.execFreezeN ns s
  | .cpnFreeze v => Sys2Proof.Machine.execCpnFreeze v s
  | .bypass => Sys2Proof.Machine.execBypass s
  | .samplePreload pins v => Sys2Proof.Machine.execSamplePreload pins v s
  | .extest pins v => Sys2Proof.Machine.execExtest pins v s
  | .idcode => Sys2Proof.Machine.execIdcode s
  | .cpnStatus => Sys2Proof.Machine.execCpnStatus s
  | .cpnUnlock slot key sig => Sys2Proof.Machine.execCpnUnlock slot key sig s
  | .unlockVerifyDone => Sys2Proof.Machine.execUnlockVerifyDone s
  | .cpnSel v => Sys2Proof.Machine.execCpnSel v s
  | .cpnData => Sys2Proof.Machine.execCpnData s
  | .halt c => Sys2Proof.Machine.execHalt c s
  | .bkptMatch c => Sys2Proof.Machine.execBkptMatch c s
  | .spiRead addr lost => Sys2Proof.Machine.execSpiRead addr lost s
  | .spiWrite addr v got lost => Sys2Proof.Machine.execSpiWrite addr v got lost s
  | .spiBadCommand cmd n => Sys2Proof.Machine.execSpiBadCommand cmd n s
  | .sourceReturn => Sys2Proof.Machine.execSourceReturn s
  | .refclkReturn => Sys2Proof.Machine.execRefclkReturn s
  | .hbmHot c t => Sys2Proof.Machine.execHbmHot c t s
  | .adapterReplay m => Sys2Proof.Machine.execAdapterReplay m s
  | .autorunRelease => Sys2Proof.Machine.execAutorunRelease s
  | .readoutRequestEnd => Sys2Proof.Machine.execReadoutRequestEnd s

end Sys2Proof.Machine
end

