-- ==== Sys2Proof/Safety.lean ====
section
/-! DEFINITION. The terms that claims use: a command that takes effect, an instruction that joins its bundle, a die at rest,
and what a command leaves as it is. No command of this part stops the machine, so a safe run is one that keeps what
these terms name. -/

namespace Sys2Proof.Safety

open Sys2Proof.Machine

/-! ## Commands -/

/-- Command `c` takes the device `d` to `t`, whatever commands wait behind it. -/
def Does (c : Instr) (d t : Dev) : Prop := ∀ q, exec c ⟨q, d⟩ = .next ⟨q, t⟩

/-- Command `c` takes the device `d` to some device of which `p` holds, whatever commands wait behind it. -/
def DoesSome (c : Instr) (d : Dev) (p : Dev → Prop) : Prop := ∃ t, Does c d t ∧ p t

/-- The commands that act on a die that is frozen, without power or stopped by a thermal trip: power, the reset pins, the
Campion port, the SPI port, and the temperature sensors (R429, R455, R465, R476, R480). -/
def actsAlways : Instr → Bool
  | .vinRise | .vinFall | .porstN _ | .resetN _ => true
  | .bypass | .samplePreload _ _ | .extest _ _ | .idcode | .cpnStatus | .cpnUnlock _ _ _ | .unlockVerifyDone | .cpnSel _
  | .cpnData | .readoutRequestEnd => true
  | .spiRead _ _ | .spiWrite _ _ _ _ | .spiBadCommand _ _ => true
  | .tempSample _ => true
  | _ => false

/-! ## Glesen instructions -/

/-- The issue of a Glesen instruction: which core, EOB and guard; none for every other command (R66, R71). -/
def issOf : Instr → Option Iss
  | .addS i _ | .sub i _ | .and i _ | .or i _ | .xor i _ | .andn i _ | .shl i _ | .shr i _ | .sar i _ | .min i _
  | .max i _ | .minu i _ | .maxu i _ | .adds i _ | .subs i _ | .abs i _ | .negs i _ | .clz i _ | .cls i _ | .sxh i _
  | .zxh i _ | .sxb i _ | .zxb i _ | .mul i _ | .mulh i _ | .mulhu i _ | .addi i _ | .andi i _ | .ori i _ | .xori i _
  | .shli i _ | .shri i _ | .sari i _ | .cmpEq i _ | .cmpNe i _ | .cmpLt i _ | .cmpLe i _ | .cmpGt i _ | .cmpGe i _
  | .cmpLtu i _ | .cmpLeu i _ | .cmpGtu i _ | .cmpGeu i _ | .pand i _ | .por i _ | .pxor i _ | .pandn i _ | .pnot i _
  | .pset i _ | .pclr i _ | .mov i _ | .movl i _ | .movh i _ | .br i _ | .call i _ | .jr i _ | .jalr i _ | .reti i _
  | .loop i _ | .loopR i _ | .fence i _ | .trap i _ | .brk i _ | .done i _ | .mvfb i _ | .mvtb i _ | .mtc i _
  | .mfc i _ | .ldB i _ | .ldBu i _ | .ldH i _ | .ldHu i _ | .ldW i _ | .ldD i _ | .ldQ i _ | .ldA i _ | .ldAcc i _
  | .ldM i _ | .stB i _ | .stH i _ | .stW i _ | .stD i _ | .stQ i _ | .stA i _ | .stAcc i _ | .stM i _ | .addiA i _
  | .adda i _ | .upd i _ | .cmac i _ | .cmacj i _ | .dmac i _ | .xmac i _ | .qmac i _ | .mac i _ | .fir i _ | .extw i _
  | .exth i _ | .extc i _ | .clracc i _ | .clraccP i _ | .movsa i _ | .addacc i _ | .subacc i _ | .shacc i _
  | .movga i _ | .movla i _ | .svadd i _ | .svadds i _ | .svsub i _ | .svsubs i _ | .svconj i _ | .svrotj i _
  | .svrotnj i _ | .svshr i _ | .svcmul i _ | .svcmulj i _ | .svswap i _ | .vadd i _ | .vadds i _ | .vsub i _
  | .vsubs i _ | .vand i _ | .vor i _ | .vxor i _ | .vmin i _ | .vmax i _ | .vshli i _ | .vshri i _ | .vsari i _
  | .vmov i _ | .vsel i _ | .vconj i _ | .vcmpEq i _ | .vcmpNe i _ | .vcmpLt i _ | .vcmpLe i _ | .vcmpGt i _
  | .vcmpGe i _ | .vcmul i _ | .vcmulj i _ | .vcmac i _ | .vcmacj i _ | .vcmag2 i _ | .vcrotP i _ | .vcrotN i _
  | .vcdot i _ | .vcdotj i _ | .vpack i _ | .vunpk i _ | .vbfs i _ | .vbfn i _ | .vld i _ | .vlds i _ | .vgather i _
  | .vldff i _ | .vgatherff i _ | .vst i _ | .vsts i _ | .vscatter i _ | .vext i _ | .vins i _ | .vbcast i _
  | .vsetvl i _ | .vgetvl i _ | .vgetff i _ | .vsetff i _ | .vmand i _ | .vmor i _ | .vmxor i _ | .vmandn i _
  | .vmnot i _ | .vmset i _ | .vmclr i _ | .vmpop i _ | .vmfirst i _ | .vmtos i _ | .vmfrs i _ => some i
  | _ => none

/-- What instruction `i` sees of the core `x` of device `d` when it joins bundle `bun` (R69). -/
def ctxOf (i : Iss) (d : Dev) (x : Core) (bun : Bundle) : Ctx :=
  ⟨d, i.core, x, levelOf d i.core, bankOf x (levelOf d i.core), rrbOf (bankOf x (levelOf d i.core)),
    (bankOf x (levelOf d i.core)).count, bun.next⟩

/-- Instruction `i` of `slot`, with the registers it reads and writes, joins the bundle `bun` of a running core: the bundle in
progress, or the one that opens at the pc when its packet is fetched with a good check. No register it uses awaits a
remote load; its slot and its destinations are free in the bundle; and it ends the bundle or leaves room in the packet. -/
structure Joins (i : Iss) (slot : Nat) (reads dests : List Nat) (d d' : Dev) (x : Core) (bun : Bundle) : Prop where
  live : live d = true
  core : x = coreOf d i.core
  may : mayIssue d i.core x = true
  met : (x.bun = some bun ∧ d' = d) ∨
        (x.bun = none ∧ fetch d i.core x.pc = (d', Ans.ok) ∧ bun = Bundle.open_ x.pc)
  ready : ∀ r ∈ reads ++ dests ++ [cP i.pg.toNat],
        awaiting x (levelOf d' i.core) (phys (ctxOf i d' x bun).rrb r) = false
  slotFree : slot ∉ bun.slots
  destsFree : ∀ r ∈ dests, r ∉ bun.dests
  room : i.eob = true ∨ (bun.next + 4) % 16 ≠ 0

/-- The bundle with one more instruction, a control transfer when `ct`, and an A-slot (1) or V-slot (2) access of data
memory by `mem` (R75, R129). -/
def took (bun : Bundle) (slot : Nat) (dests : List Nat) (ct : Bool) (mem : Nat) : Bundle :=
  { bun with slots := bun.slots ++ [slot], dests := bun.dests ++ dests, ct := bun.ct || ct,
             memA := bun.memA || decide (mem = 1), memV := bun.memV || decide (mem = 2) }

/-- The device once the instruction has joined: the bundle ends, or stays in progress. -/
def joined (i : Iss) (d : Dev) (x : Core) (bun : Bundle) : Dev :=
  if i.eob then commit d i.core x { bun with next := bun.next + 4 }
  else setCore d i.core { x with bun := some { bun with next := bun.next + 4 } }

/-- `ins`, where it joins a bundle and `ok` holds (nothing else stalls it), changes the bundle by `eff` when its guard is
true; an illegal encoding raises ILLEGAL (1) instead; with a false guard it takes its slot and destinations and does
nothing more (R71, R114). -/
def Acts (ins : Instr) (i : Iss) (slot : Nat) (ok : Ctx → Prop) (legal : Ctx → Bool) (reads dests : Ctx → List Nat)
    (ct : Bool) (mem : Nat) (eff : Ctx → Bundle → Bundle) : Prop :=
  ∀ d d' x bun, Joins i slot (reads (ctxOf i d' x bun)) (dests (ctxOf i d' x bun)) d d' x bun → ok (ctxOf i d' x bun) →
    Does ins d (joined i d' x
      (if guardOf (ctxOf i d' x bun) i then
         if legal (ctxOf i d' x bun) then eff (ctxOf i d' x bun) (took bun slot (dests (ctxOf i d' x bun)) ct mem)
         else (took bun slot (dests (ctxOf i d' x bun)) ct mem).fail 1 slot
       else took bun slot (dests (ctxOf i d' x bun)) ct mem))

/-- `ins` adds the results `rs` to its bundle. -/
def Results (ins : Instr) (i : Iss) (slot : Nat) (legal : Ctx → Bool) (reads dests : Ctx → List Nat)
    (rs : Ctx → List Inflight) : Prop :=
  Acts ins i slot (fun _ => True) legal reads dests false 0 (fun k u => u.put (rs k))

end Sys2Proof.Safety
end

