-- ==== Sys2Proof/WellFormed.lean ====
section
/-! DEFINITION. Which commands are well formed: operands that number a unit lie in the range that the larger grade has, and
operands of fixed length have it. A command that is not well formed changes nothing that the unit it names would hold. -/

namespace Sys2Proof

/-- A logical core, c = 8n + k (R33). -/
def coreOk (c : Nat) : Bool := decide (c < 256)
/-- A cluster (R3). -/
def cluOk (n : Nat) : Bool := decide (n < 32)
/-- An engine instance, or an item of a kind with 24 at most (R209). -/
def instOk (j : Nat) : Bool := decide (j < 24)
/-- A queue index (R207). -/
def queueOk (q : Nat) : Bool := decide (q < 16384)
/-- A Yarrow sequence (R308). -/
def seqOk (q : Nat) : Bool := decide (q < 8)
/-- A MAC (R319). -/
def macOk (m : Nat) : Bool := decide (m < 48)
/-- A host link module or an HBM controller (R378, R400). -/
def pairOk (m : Nat) : Bool := decide (m < 2)
/-- A burst finder (R261). -/
def finderOk (b : Nat) : Bool := decide (b < 4)
/-- A watch entry, a coherent region (R261, R406). -/
def entryOk (w : Nat) : Bool := decide (w < 16)
/-- A clock domain, a refetch window, a buffer ring (R334, R385, R420). -/
def clockOk (w : Nat) : Bool := decide (w < 64)
/-- A front-end stream (R255). -/
def streamOk (t : Nat) : Bool := decide (t < 1536)
/-- A power domain (R422). -/
def domOk (p : Nat) : Bool := decide (p < 45)
/-- BOOTSEL[1:0] (R450). -/
def bootOk (b : Nat) : Bool := decide (b < 4)
/-- A core of the host die (R402). -/
def hostCoreOk (h : Nat) : Bool := decide (h < 16)
/-- A fabric stop (R351). -/
def stopOk (t : Nat) : Bool := decide (t < 56)
/-- A port group (R319). -/
def groupOk (g : Nat) : Bool := decide (g < 12)
/-- A result set of Yarrow (R318). -/
def yresOk (r : Nat) : Bool := decide (r < 9)
/-- A work-item slot (R176). -/
def slotOk (i : Nat) : Bool := decide (i < 131072)
/-- Bits of SPI write data received (R480). -/
def gotOk (n : Nat) : Bool := decide (n ≤ 32)
/-- A SUPA channel (R307). -/
def chanOk (c : Nat) : Bool := decide (c < 32)
/-- An operand of fixed length. -/
def lenOk {α : Type} (l : List α) (n : Nat) : Bool := decide (l.length = n)
/-- At most 256 raw conversions (R308). -/
def rawsOk (l : List Word) : Bool := decide (l.length ≤ 256)
/-- An initiator (R213, R355). -/
def whoOk : Who → Bool
  | .core c => coreOk c
  | .dma n => cluOk n
  | .host h => hostCoreOk h
  | .spi => true
  | .unit t => stopOk t
/-- A packet's bytes lie inside one 256-byte block, and its stops exist (R351, R355). -/
def pktWf (p : Pkt) : Bool :=
  whoOk p.who && stopOk p.src && stopOk p.dst && decide (p.lenm1 < 256) && decide (p.addr % 256 + p.lenm1 < 256)

/-- The check of each command's operands. -/
def wellFormed : Instr → Bool
  | .add _ _ _ => true
  | .change _ _ _ => true
  | .remove _ => true
  | .query => true
  | .registerWrite who _ _ _ => whoOk who
  | .pllLock => true
  | .sourceLost => true
  | .refclkLoss => true
  | .airPhaseAdj _ => true
  | .ppsInEdge _ => true
  | .airStep _ => true
  | .timingOutEdge _ => true
  | .ppsOutEdge => true
  | .airCommitGrid _ => true
  | .commitNext _ _ _ _ => true
  | .commitAt _ _ _ _ => true
  | .commitDiscard => true
  | .commitArm => true
  | .commitDecide missing => missing.all clockOk
  | .commitApply => true
  | .commitEnd => true
  | .snapNext _ => true
  | .snapAt _ => true
  | .snapshotArm => true
  | .snapshotCapture => true
  | .snapshotEnd => true
  | .addS i _ => coreOk i.core
  | .sub i _ => coreOk i.core
  | .and i _ => coreOk i.core
  | .or i _ => coreOk i.core
  | .xor i _ => coreOk i.core
  | .andn i _ => coreOk i.core
  | .shl i _ => coreOk i.core
  | .shr i _ => coreOk i.core
  | .sar i _ => coreOk i.core
  | .min i _ => coreOk i.core
  | .max i _ => coreOk i.core
  | .minu i _ => coreOk i.core
  | .maxu i _ => coreOk i.core
  | .adds i _ => coreOk i.core
  | .subs i _ => coreOk i.core
  | .abs i _ => coreOk i.core
  | .negs i _ => coreOk i.core
  | .clz i _ => coreOk i.core
  | .cls i _ => coreOk i.core
  | .sxh i _ => coreOk i.core
  | .zxh i _ => coreOk i.core
  | .sxb i _ => coreOk i.core
  | .zxb i _ => coreOk i.core
  | .mul i _ => coreOk i.core
  | .mulh i _ => coreOk i.core
  | .mulhu i _ => coreOk i.core
  | .addi i _ => coreOk i.core
  | .andi i _ => coreOk i.core
  | .ori i _ => coreOk i.core
  | .xori i _ => coreOk i.core
  | .shli i _ => coreOk i.core
  | .shri i _ => coreOk i.core
  | .sari i _ => coreOk i.core
  | .cmpEq i _ => coreOk i.core
  | .cmpNe i _ => coreOk i.core
  | .cmpLt i _ => coreOk i.core
  | .cmpLe i _ => coreOk i.core
  | .cmpGt i _ => coreOk i.core
  | .cmpGe i _ => coreOk i.core
  | .cmpLtu i _ => coreOk i.core
  | .cmpLeu i _ => coreOk i.core
  | .cmpGtu i _ => coreOk i.core
  | .cmpGeu i _ => coreOk i.core
  | .pand i _ => coreOk i.core
  | .por i _ => coreOk i.core
  | .pxor i _ => coreOk i.core
  | .pandn i _ => coreOk i.core
  | .pnot i _ => coreOk i.core
  | .pset i _ => coreOk i.core
  | .pclr i _ => coreOk i.core
  | .mov i _ => coreOk i.core
  | .movl i _ => coreOk i.core
  | .movh i _ => coreOk i.core
  | .br i _ => coreOk i.core
  | .call i _ => coreOk i.core
  | .jr i _ => coreOk i.core
  | .jalr i _ => coreOk i.core
  | .reti i _ => coreOk i.core
  | .retiResume c => coreOk c
  | .loop i _ => coreOk i.core
  | .loopR i _ => coreOk i.core
  | .loopBack c => coreOk c
  | .fence i _ => coreOk i.core
  | .trap i _ => coreOk i.core
  | .brk i _ => coreOk i.core
  | .done i _ => coreOk i.core
  | .mvfb i _ => coreOk i.core
  | .mvtb i _ => coreOk i.core
  | .mtc i _ => coreOk i.core
  | .mfc i _ => coreOk i.core
  | .ldB i _ => coreOk i.core
  | .ldBu i _ => coreOk i.core
  | .ldH i _ => coreOk i.core
  | .ldHu i _ => coreOk i.core
  | .ldW i _ => coreOk i.core
  | .ldD i _ => coreOk i.core
  | .ldQ i _ => coreOk i.core
  | .ldA i _ => coreOk i.core
  | .ldAcc i _ => coreOk i.core
  | .ldM i _ => coreOk i.core
  | .stB i _ => coreOk i.core
  | .stH i _ => coreOk i.core
  | .stW i _ => coreOk i.core
  | .stD i _ => coreOk i.core
  | .stQ i _ => coreOk i.core
  | .stA i _ => coreOk i.core
  | .stAcc i _ => coreOk i.core
  | .stM i _ => coreOk i.core
  | .addiA i _ => coreOk i.core
  | .adda i _ => coreOk i.core
  | .upd i _ => coreOk i.core
  | .cmac i _ => coreOk i.core
  | .cmacj i _ => coreOk i.core
  | .dmac i _ => coreOk i.core
  | .xmac i _ => coreOk i.core
  | .qmac i _ => coreOk i.core
  | .mac i _ => coreOk i.core
  | .fir i _ => coreOk i.core
  | .extw i _ => coreOk i.core
  | .exth i _ => coreOk i.core
  | .extc i _ => coreOk i.core
  | .clracc i _ => coreOk i.core
  | .clraccP i _ => coreOk i.core
  | .movsa i _ => coreOk i.core
  | .addacc i _ => coreOk i.core
  | .subacc i _ => coreOk i.core
  | .shacc i _ => coreOk i.core
  | .movga i _ => coreOk i.core
  | .movla i _ => coreOk i.core
  | .svadd i _ => coreOk i.core
  | .svadds i _ => coreOk i.core
  | .svsub i _ => coreOk i.core
  | .svsubs i _ => coreOk i.core
  | .svconj i _ => coreOk i.core
  | .svrotj i _ => coreOk i.core
  | .svrotnj i _ => coreOk i.core
  | .svshr i _ => coreOk i.core
  | .svcmul i _ => coreOk i.core
  | .svcmulj i _ => coreOk i.core
  | .svswap i _ => coreOk i.core
  | .vadd i _ => coreOk i.core
  | .vadds i _ => coreOk i.core
  | .vsub i _ => coreOk i.core
  | .vsubs i _ => coreOk i.core
  | .vand i _ => coreOk i.core
  | .vor i _ => coreOk i.core
  | .vxor i _ => coreOk i.core
  | .vmin i _ => coreOk i.core
  | .vmax i _ => coreOk i.core
  | .vshli i _ => coreOk i.core
  | .vshri i _ => coreOk i.core
  | .vsari i _ => coreOk i.core
  | .vmov i _ => coreOk i.core
  | .vsel i _ => coreOk i.core
  | .vconj i _ => coreOk i.core
  | .vcmpEq i _ => coreOk i.core
  | .vcmpNe i _ => coreOk i.core
  | .vcmpLt i _ => coreOk i.core
  | .vcmpLe i _ => coreOk i.core
  | .vcmpGt i _ => coreOk i.core
  | .vcmpGe i _ => coreOk i.core
  | .vcmul i _ => coreOk i.core
  | .vcmulj i _ => coreOk i.core
  | .vcmac i _ => coreOk i.core
  | .vcmacj i _ => coreOk i.core
  | .vcmag2 i _ => coreOk i.core
  | .vcrotP i _ => coreOk i.core
  | .vcrotN i _ => coreOk i.core
  | .vcdot i _ => coreOk i.core
  | .vcdotj i _ => coreOk i.core
  | .vpack i _ => coreOk i.core
  | .vunpk i _ => coreOk i.core
  | .vbfs i _ => coreOk i.core
  | .vbfn i _ => coreOk i.core
  | .vld i _ => coreOk i.core
  | .vlds i _ => coreOk i.core
  | .vgather i _ => coreOk i.core
  | .vldff i _ => coreOk i.core
  | .vgatherff i _ => coreOk i.core
  | .vst i _ => coreOk i.core
  | .vsts i _ => coreOk i.core
  | .vscatter i _ => coreOk i.core
  | .vext i _ => coreOk i.core
  | .vins i _ => coreOk i.core
  | .vbcast i _ => coreOk i.core
  | .vsetvl i _ => coreOk i.core
  | .vgetvl i _ => coreOk i.core
  | .vgetff i _ => coreOk i.core
  | .vsetff i _ => coreOk i.core
  | .vmand i _ => coreOk i.core
  | .vmor i _ => coreOk i.core
  | .vmxor i _ => coreOk i.core
  | .vmandn i _ => coreOk i.core
  | .vmnot i _ => coreOk i.core
  | .vmset i _ => coreOk i.core
  | .vmclr i _ => coreOk i.core
  | .vmpop i _ => coreOk i.core
  | .vmfirst i _ => coreOk i.core
  | .vmtos i _ => coreOk i.core
  | .vmfrs i _ => coreOk i.core
  | .interruptEntry c => coreOk c
  | .preciseException c _ _ => coreOk c
  | .deferredException c => coreOk c
  | .ccrIrqRaise c _ => coreOk c
  | .dmaGo c _ => coreOk c
  | .dmaAbort c => coreOk c
  | .dmaTransferStart c => coreOk c
  | .dmaTransferEnd c => coreOk c
  | .ginit c => coreOk c
  | .gseq c => coreOk c
  | .gxor c => coreOk c
  | .crcu c => coreOk c
  | .gxorm c => coreOk c
  | .crcm c => coreOk c
  | .bilv c => coreOk c
  | .rmsel c => coreOk c
  | .rmrev c => coreOk c
  | .pack c => coreOk c
  | .stclr c => coreOk c
  | .cpsave c => coreOk c
  | .cprst c => coreOk c
  | .bcpCommandComplete c => coreOk c
  | .descriptorAccept => true
  | .release => true
  | .signal => true
  | .tsySignal _ => true
  | .tsyEventRaise _ => true
  | .eventRaise => true
  | .waitTimeout id => slotOk id
  | .dispatch => true
  | .doneReport => true
  | .tsyCancel _ => true
  | .tsyMsg _ => true
  | .deadline id => slotOk id
  | .watchdogKill id => slotOk id
  | .haltHoldExpiry c => coreOk c
  | .resume c => coreOk c
  | .tsyRelease _ => true
  | .lineageReport => true
  | .queueCreate q => queueOk q
  | .queueDestroy q => queueOk q
  | .queueDisabled q => queueOk q
  | .qdbReserve who q _ => whoOk who && queueOk q
  | .qdbPublish who q _ _ _ => whoOk who && queueOk q
  | .reservationTimeout => true
  | .hwProduce q => queueOk q
  | .hwConsume q => queueOk q
  | .qdbConsumed q _ _ => queueOk q
  | .queueNotify q => queueOk q
  | .fft j => instOk j
  | .ifft j => instOk j
  | .dft j => instOk j
  | .idft j => instOk j
  | .prach j => instOk j
  | .chest j => instOk j
  | .tcomb j => instOk j
  | .eq1 j => instOk j
  | .mmse j => instOk j
  | .zf j => instOk j
  | .bfweight j => instOk j
  | .precode j => instOk j
  | .demap j => instOk j
  | .scan b => finderOk b
  | .ldpcDecode j => instOk j
  | .ldpcEncode j => instOk j
  | .turboDecode j => instOk j
  | .polarEncode j => instOk j
  | .polarDecode j => instOk j
  | .jobComplete _ j => instOk j
  | .gainUpdate st => streamOk st
  | .freezeEnd st => streamOk st
  | .fenGlUnfreeze _ => true
  | .energyTrigger b w => finderOk b && entryOk w
  | .qualifierDone b w => finderOk b && entryOk w
  | .wordMatch b w => finderOk b && entryOk w
  | .windowResult b w => finderOk b && entryOk w
  | .bfGraceExpiry b w => finderOk b && entryOk w
  | .bfSampleDrop b _ => finderOk b
  | .fenBfAck b w _ => finderOk b && entryOk w
  | .paEnEdge _ => true
  | .txsPaenClr _ => true
  | .yrwSwTrig _ => true
  | .seqTrigger q => seqOk q
  | .samplingInstant q => seqOk q
  | .sequenceResult raws => rawsOk raws
  | .injGo => true
  | .injCancel => true
  | .injSampling => true
  | .injResult raws => rawsOk raws
  | .calPhase0 ch => chanOk ch
  | .calPhase1 ch _ => chanOk ch
  | .calPhaseStart => true
  | .calPhaseEnd raws => rawsOk raws
  | .yrwResAck r _ => yresOk r
  | .frameReceive m _ _ _ _ _ => macOk m
  | .frameDelivery m => macOk m
  | .rxHoldExpiry m => macOk m
  | .macBrProd g r _ => groupOk g && clockOk r
  | .brEnable g r _ => groupOk g && clockOk r
  | .frameLaunch m => macOk m
  | .frameSent m => macOk m
  | .macTxtsPop m => macOk m
  | .macLinkUp m => macOk m
  | .macLinkDown m _ => macOk m
  | .wakeMatch m _ => macOk m
  | .read p => pktWf p
  | .write p => pktWf p
  | .doorbell p => pktWf p
  | .rdata who _ => whoOk who
  | .wack who _ => whoOk who
  | .irq c => coreOk c
  | .stop _ stop => stopOk stop
  | .linkReplay _ _ _ => true
  | .heartbeatLoss _ _ => true
  | .reconfMarkFailed _ _ => true
  | .reconfReturn _ _ => true
  | .rtsTestEnd _ _ => true
  | .epochFlip => true
  | .epochRelease => true
  | .requestTimeout who _ => whoOk who
  | .powerDown p => domOk p
  | .pointOfNoReturn p => domOk p
  | .powerOff p => domOk p
  | .powerDownAbandon p => domOk p
  | .wake p => domOk p
  | .wakeAdmit => true
  | .wakeComplete p => domOk p
  | .refetchComplete _ => true
  | .teaselGo => true
  | .teaselAbort => true
  | .teaselLineRead => true
  | .readRaw => true
  | .writeData => true
  | .writeChk => true
  | .testOpDone => true
  | .refetchWindowEnable w => clockOk w
  | .rd core _ _ _ => hostCoreOk core
  | .wr core _ _ _ _ => hostCoreOk core
  | .rdc core _ _ => hostCoreOk core
  | .rdx core _ _ => hostCoreOk core
  | .wb core _ _ data => hostCoreOk core && lenOk data 64
  | .cln core _ _ => hostCoreOk core
  | .snpack _ => true
  | .snpdata _ data => lenOk data 64
  | .hostBadPacket _ => true
  | .snoopTimeout _ => true
  | .cohEnable r => entryOk r
  | .cohDisable r => entryOk r
  | .flushDone r => entryOk r
  | .hlkVecRaise _ => true
  | .hlkVecEn _ => true
  | .moduleFail m _ => pairOk m
  | .hostLinkDown => true
  | .hostLinkUp _ _ _ _ => true
  | .hostReset => true
  | .hostDownTimeout => true
  | .tempSample temps => lenOk temps 48
  | .throttleStart _ _ => true
  | .throttleEnd _ _ => true
  | .droop _ => true
  | .monResult volts procs => lenOk volts 64 && lenOk procs 32
  | .monResAck _ => true
  | .monFault c => coreOk c
  | .coreFail c => coreOk c
  | .spareSubstitute c => coreOk c
  | .listenEntry => true
  | .listenAllOff => true
  | .loadFw => true
  | .persist => true
  | .eraseCfg => true
  | .sorrelWriteDone => true
  | .run => true
  | .vinRise => true
  | .vinFall => true
  | .porstN bootsel => bootOk bootsel
  | .resetN bootsel => bootOk bootsel
  | .startUpStep _ _ _ cores spares => cores.all coreOk && spares.all cluOk
  | .freezeN _ => true
  | .cpnFreeze _ => true
  | .bypass => true
  | .samplePreload _ _ => true
  | .extest _ _ => true
  | .idcode => true
  | .cpnStatus => true
  | .cpnUnlock _ key sig => lenOk key 97 && lenOk sig 96
  | .unlockVerifyDone => true
  | .cpnSel _ => true
  | .cpnData => true
  | .halt c => coreOk c
  | .bkptMatch c => coreOk c
  | .spiRead _ _ => true
  | .spiWrite _ _ got _ => gotOk got
  | .spiBadCommand _ _ => true
  | .sourceReturn => true
  | .refclkReturn => true
  | .hbmHot c _ => pairOk c
  | .adapterReplay m => pairOk m
  | .autorunRelease => true
  | .readoutRequestEnd => true

end Sys2Proof
end

