-- ==== Sys2Proof/Certificates/Slice0/Obligations.lean ====
section
/-! DEFINITION. The statements for the provers, and the plain arithmetic that they compare the machine with. Where a clause says
`Does c d t`, the command `c` completes: whatever waits behind it, the device `d` becomes `t` and nothing else changes. -/

namespace Sys2Proof.Claims
open Sys2Proof.Machine Sys2Proof.Safety

/-! ## Arithmetic, written independently of the machine -/

/-- The nearest value of `n` signed bits (R17). -/
def clampS (n : Nat) (v : Int) : Int := max (-(2 ^ (n - 1))) (min (2 ^ (n - 1) - 1) v)

/-- A signed shift right with rounding: 0 truncates, 1 rounds half up, 2 rounds half to even (R126). -/
def rounded (rm : Nat) (a : Int) (sh : Nat) : Int :=
  match rm with
  | 0 => a / 2 ^ sh
  | 1 => (2 * a + 2 ^ sh) / 2 ^ (sh + 1)
  | _ =>
    let q := (2 * a + 2 ^ sh) / 2 ^ (sh + 1)
    if 2 * a + 2 ^ sh = q * 2 ^ (sh + 1) ∧ q % 2 = 1 then q - 1 else q

/-- The 32-bit pattern of an integer. -/
def w32 (v : Int) : Word := BitVec.ofInt 32 v

/-- A complex word of two parts modulo 2^16, the real part low. -/
def cplx (re im : Int) : Nat := (BitVec.ofInt 16 re).toNat + 65536 * (BitVec.ofInt 16 im).toNat

/-- The real and imaginary part of a complex word. -/
def rePart (a : Nat) : Int := (BitVec.ofNat 16 a).toInt
def imPart (a : Nat) : Int := (BitVec.ofNat 16 (a / 65536)).toInt

/-- The parts of a product of complex words, and of a product with the conjugate of the second. -/
def prodC (a b : Nat) : Int × Int :=
  (rePart a * rePart b - imPart a * imPart b, rePart a * imPart b + imPart a * rePart b)
def prodJ (a b : Nat) : Int × Int :=
  (rePart a * rePart b + imPart a * imPart b, imPart a * rePart b - rePart a * imPart b)

/-- A Q15 complex product: each part shifted right by 15, half to even, and clamped. -/
def q15 (p : Int × Int) : Nat := cplx (clampS 16 (rounded 2 p.1 15)) (clampS 16 (rounded 2 p.2 15))

/-! ## Shapes of the S slot -/

/-- `rd ← g ra rb`. -/
def SR2 (mk : Iss → FSR → Instr) (lat : Nat) (g : Word → Word → Word) : Prop :=
  ∀ i f, Results (mk i f) i 0 (fun _ => true) (fun _ => [cS f.ra.toNat, cS f.rb.toNat]) (fun _ => [cS f.rd.toNat])
    (fun k => [k.res (cS f.rd.toNat) (g (word (k.s f.ra.toNat)) (word (k.s f.rb.toNat))).toNat lat])

/-- `rd ← g ra`, RB 0. -/
def SR1 (mk : Iss → FSR → Instr) (g : Word → Word) : Prop :=
  ∀ i f, Results (mk i f) i 0 (fun _ => decide (f.rb = 0)) (fun _ => [cS f.ra.toNat]) (fun _ => [cS f.rd.toNat])
    (fun k => [k.res (cS f.rd.toNat) (g (word (k.s f.ra.toNat))).toNat 1])

/-- `rd ← g ra imm`, the immediate sign-extended. -/
def SI1 (mk : Iss → FSI → Instr) (g : Word → Word → Word) : Prop :=
  ∀ i f, Results (mk i f) i 0 (fun _ => true) (fun _ => [cS f.ra.toNat]) (fun _ => [cS f.rd.toNat])
    (fun k => [k.res (cS f.rd.toNat) (g (word (k.s f.ra.toNat)) (f.imm.signExtend 32)).toNat 1])

/-- `rd ← g ra n`, a shift by n = 0 to 31. -/
def SIsh (mk : Iss → FSI → Instr) (g : Word → Nat → Word) : Prop :=
  ∀ i f, Results (mk i f) i 0 (fun _ => decide (f.imm.toNat < 32)) (fun _ => [cS f.ra.toNat]) (fun _ => [cS f.rd.toNat])
    (fun k => [k.res (cS f.rd.toNat) (g (word (k.s f.ra.toNat)) f.imm.toNat).toNat 1])

/-- `pd ← g ra b`, b a register named in X[10:6] or, with I = 1, the sign-extended X. -/
def SC1 (mk : Iss → FSC → Instr) (g : Word → Word → Bool) : Prop :=
  ∀ i f, Results (mk i f) i 0 (fun _ => f.i || decide (f.x.toNat % 64 = 0))
    (fun _ => cS f.ra.toNat :: (if f.i then [] else [cS (f.x.toNat / 64)])) (fun _ => [cP f.pd.toNat])
    (fun k => [k.res (cP f.pd.toNat)
      (b2n (g (word (k.s f.ra.toNat)) (if f.i then f.x.signExtend 32 else word (k.s (f.x.toNat / 64))))) 1])

/-- `pd ← g pa pb`. -/
def SP2 (mk : Iss → FSP → Instr) (g : Bool → Bool → Bool) : Prop :=
  ∀ i f, Results (mk i f) i 0 (fun _ => decide (f.z = 0)) (fun _ => [cP f.pa.toNat, cP f.pb.toNat]) (fun _ => [cP f.pd.toNat])
    (fun k => [k.res (cP f.pd.toNat) (b2n (g (decide (k.rd (cP f.pa.toNat) = 1)) (decide (k.rd (cP f.pb.toNat) = 1)))) 1])

/-- The S slot's instructions that set a register to a constant predicate. -/
def SP0 (mk : Iss → FSP → Instr) (v : Bool) : Prop :=
  ∀ i f, Results (mk i f) i 0 (fun _ => decide (f.z = 0 ∧ f.pa = 0 ∧ f.pb = 0)) (fun _ => []) (fun _ => [cP f.pd.toNat])
    (fun k => [k.res (cP f.pd.toNat) (b2n v) 1])

end Sys2Proof.Claims

open Sys2Proof Sys2Proof.Machine Sys2Proof.Safety Sys2Proof.Claims

/-! ## Scalar instructions -/

/-- R115: the operations of two registers. A shift counts all of rb, so 32 and more leaves zeros, or copies of the sign. -/
def Sys2Proof.Claims.ScalarTwoRegisterResults : Prop :=
  SR2 .addS 1 (fun a b => a + b) ∧ SR2 .sub 1 (fun a b => a - b) ∧ SR2 .and 1 (fun a b => a &&& b) ∧
  SR2 .or 1 (fun a b => a ||| b) ∧ SR2 .xor 1 (fun a b => a ^^^ b) ∧ SR2 .andn 1 (fun a b => a &&& ~~~b) ∧
  SR2 .shl 1 (fun a b => a <<< b.toNat) ∧ SR2 .shr 1 (fun a b => a >>> b.toNat) ∧
  SR2 .sar 1 (fun a b => a.sshiftRight b.toNat) ∧
  SR2 .min 1 (fun a b => if a.toInt < b.toInt then a else b) ∧ SR2 .max 1 (fun a b => if a.toInt < b.toInt then b else a) ∧
  SR2 .minu 1 (fun a b => if a.toNat < b.toNat then a else b) ∧ SR2 .maxu 1 (fun a b => if a.toNat < b.toNat then b else a) ∧
  SR2 .adds 1 (fun a b => w32 (clampS 32 (a.toInt + b.toInt))) ∧
  SR2 .subs 1 (fun a b => w32 (clampS 32 (a.toInt - b.toInt))) ∧
  SR2 .mul 3 (fun a b => a * b) ∧ SR2 .mulh 3 (fun a b => w32 (a.toInt * b.toInt / 2 ^ 32)) ∧
  SR2 .mulhu 3 (fun a b => BitVec.ofNat 32 (a.toNat * b.toNat / 2 ^ 32))

/-- R115: the operations of one register; the absolute value and the negation of the most negative number are clamped. -/
def Sys2Proof.Claims.ScalarOneRegisterResults : Prop :=
  SR1 .abs (fun a => w32 (clampS 32 a.toInt.natAbs)) ∧ SR1 .negs (fun a => w32 (clampS 32 (-a.toInt))) ∧
  SR1 .clz (fun a => a.clz) ∧ SR1 .cls (fun a => (a ^^^ a.sshiftRight 1).clz - 1) ∧
  SR1 .sxh (fun a => (a.setWidth 16).signExtend 32) ∧ SR1 .zxh (fun a => a &&& 0xFFFF) ∧
  SR1 .sxb (fun a => (a.setWidth 8).signExtend 32) ∧ SR1 .zxb (fun a => a &&& 0xFF)

/-- R116: immediates of ten bits, and the two instructions that load half words. -/
def Sys2Proof.Claims.ScalarImmediateResults : Prop :=
  SI1 .addi (fun a b => a + b) ∧ SI1 .andi (fun a b => a &&& b) ∧ SI1 .ori (fun a b => a ||| b) ∧
  SI1 .xori (fun a b => a ^^^ b) ∧ SIsh .shli (fun a n => a <<< n) ∧ SIsh .shri (fun a n => a >>> n) ∧
  SIsh .sari (fun a n => a.sshiftRight n) ∧
  (∀ i f, Results (.movl i f) i 0 (fun _ => true) (fun _ => []) (fun _ => [cS f.rd.toNat])
    (fun k => [k.res (cS f.rd.toNat) (f.imm.signExtend 32).toNat 1])) ∧
  (∀ i f, Results (.movh i f) i 0 (fun _ => true) (fun _ => [cS f.rd.toNat]) (fun _ => [cS f.rd.toNat])
    (fun k => [k.res (cS f.rd.toNat) (f.imm ++ (word (k.s f.rd.toNat)).setWidth 16).toNat 1]))

/-- R116: compares write a predicate with 1 or 0. -/
def Sys2Proof.Claims.CompareResults : Prop :=
  SC1 .cmpEq (fun a b => decide (a = b)) ∧ SC1 .cmpNe (fun a b => decide (a ≠ b)) ∧
  SC1 .cmpLt (fun a b => decide (a.toInt < b.toInt)) ∧ SC1 .cmpLe (fun a b => decide (a.toInt ≤ b.toInt)) ∧
  SC1 .cmpGt (fun a b => decide (b.toInt < a.toInt)) ∧ SC1 .cmpGe (fun a b => decide (b.toInt ≤ a.toInt)) ∧
  SC1 .cmpLtu (fun a b => decide (a.toNat < b.toNat)) ∧ SC1 .cmpLeu (fun a b => decide (a.toNat ≤ b.toNat)) ∧
  SC1 .cmpGtu (fun a b => decide (b.toNat < a.toNat)) ∧ SC1 .cmpGeu (fun a b => decide (b.toNat ≤ a.toNat))

/-- R116: operations on predicates. -/
def Sys2Proof.Claims.PredicateResults : Prop :=
  SP2 .pand (fun a b => a && b) ∧ SP2 .por (fun a b => a || b) ∧ SP2 .pxor (fun a b => a != b) ∧
  SP2 .pandn (fun a b => a && !b) ∧
  (∀ i f, Results (.pnot i f) i 0 (fun _ => decide (f.z = 0 ∧ f.pb = 0)) (fun _ => [cP f.pa.toNat]) (fun _ => [cP f.pd.toNat])
    (fun k => [k.res (cP f.pd.toNat) (b2n (decide (k.rd (cP f.pa.toNat) ≠ 1))) 1])) ∧
  SP0 .pset true ∧ SP0 .pclr false

/-- R115, R116: every scalar instruction of two registers, of one, of an immediate, every compare and every predicate operation adds its result to its bundle. -/
def Obligations.ScalarResults : Prop :=
  Sys2Proof.Claims.ScalarTwoRegisterResults ∧ Sys2Proof.Claims.ScalarOneRegisterResults ∧ Sys2Proof.Claims.ScalarImmediateResults ∧ Sys2Proof.Claims.CompareResults ∧
  Sys2Proof.Claims.PredicateResults

namespace Sys2Proof.Claims
open Sys2Proof.Machine Sys2Proof.Safety

/-- Register codes that `mov` takes (R117), and codes of banked registers. -/
def movable (k : Nat) : Bool := decide (k ≤ 0x37 ∨ (0x40 ≤ k ∧ k ≤ 0x4A) ∨ (0x50 ≤ k ∧ k ≤ 0x5F))
def banked (k : Nat) : Bool := movable k || decide (0x38 ≤ k ∧ k ≤ 0x3F)
def isAcc (k : Nat) : Bool := decide (0x38 ≤ k ∧ k ≤ 0x3F)

/-- A control transfer issues where none is under way (R76). -/
def noDelay (k : Ctx) : Prop := k.x.dly = 0

/-- The mark of a taken transfer to `target`; `leaves`: it ends loops that it leaves (R136). -/
def goTo (target : Nat) (leaves : Bool) (u : Bundle) : Bundle := { u with taken := true, target := target, leaves := leaves }

/-- The address of the instruction plus 4 × OFS20 (R118). -/
def relTarget (k : Ctx) (f : FSB) : Nat := (BitVec.ofNat 32 k.pc + 4 * f.ofs.signExtend 32).toNat

/-- A load or store of AM (R121): its address and the base register after it, none for a reserved modifier. -/
def amPlace (k : Ctx) (f : FAM) (size : Nat) : Nat × Option Nat :=
  let an := BitVec.ofNat 32 (k.a f.an.toNat)
  let step := (f.off.signExtend 32) * BitVec.ofNat 32 size
  let m := f.off.toNat % 8
  match f.mode.toNat with
  | 0 => ((an + step).toNat, some an.toNat)
  | 1 => (an.toNat, some (an + step).toNat)
  | 2 => (an.toNat, modUpdate (k.a f.an.toNat) (k.rd (cM m)) (k.rd (cBase m)) (k.rd (cCtl m)))
  | _ => ((an + word (k.s (f.off.toNat % 32))).toNat, some an.toNat)

/-- Registers that give an AM access its address. -/
def amUses (f : FAM) : List Nat :=
  cA f.an.toNat :: (if f.mode = 2 then cMod (f.off.toNat % 8) else if f.mode = 3 then [cS (f.off.toNat % 32)] else [])

/-- MODE 1 and MODE 2 write the base register. -/
def amBase (f : FAM) : List Nat := if f.mode = 1 ∨ f.mode = 2 then [cA f.an.toNat] else []

/-- The OFF bits that MODE 2 and MODE 3 leave 0, and the registers that RT may name for `n` registers of its file. -/
def amForm (f : FAM) (step limit : Nat) : Bool :=
  decide (f.rt.toNat % step = 0 ∧ f.rt.toNat < limit) && decide (f.mode = 2 → f.off.toNat < 8) && decide (f.mode = 3 → f.off.toNat < 32)

/-- A load of `size` bytes into the registers `regs`; `sel` is the load kind (R120, R122). An access that its address
forbids raises ACCESS (5) or MISALIGN (4) at slot A with its address; a reserved modifier raises ILLEGAL_OP. -/
def LoadsAs (mk : Iss → FAM → Instr) (sel size step limit : Nat) (own : Bool) (regs : Nat → List Nat) : Prop :=
  ∀ i f, Acts (mk i f) i 1
    (fun k => let ea := (amPlace k f size).1
      guardOf k i = true → scalarFault k.d k.c ea size false (decide (sel = 4)) = 0 → amStall k ea size false = false)
    (fun _ => amForm f step limit && !(own && decide (f.rt.toNat = f.an.toNat) && decide (f.mode = 1 ∨ f.mode = 2)))
    (fun _ => amUses f) (fun _ => regs f.rt.toNat ++ amBase f) false 1
    (fun k u =>
      let ea := (amPlace k f size).1
      let fault := scalarFault k.d k.c ea size false (decide (sel = 4))
      match (amPlace k f size).2 with
      | none => u.fail 1 1
      | some an =>
        if fault ≠ 0 then u.failAt fault 1 0 ea
        else loadEff k sel f.rt.toNat ea (if amBase f = [] then u else u.put [k.res (cA f.an.toNat) an 1]))

/-- A store of `size` bytes from the registers `regs`, likewise. -/
def StoresAs (mk : Iss → FAM → Instr) (sel size step limit : Nat) (regs : Nat → List Nat) : Prop :=
  ∀ i f, Acts (mk i f) i 1
    (fun k => let ea := (amPlace k f size).1
      guardOf k i = true → scalarFault k.d k.c ea size true (decide (sel = 4)) = 0 → amStall k ea size true = false)
    (fun _ => amForm f step limit) (fun _ => amUses f ++ regs f.rt.toNat) (fun _ => amBase f) false 1
    (fun k u =>
      let ea := (amPlace k f size).1
      let fault := scalarFault k.d k.c ea size true (decide (sel = 4))
      match (amPlace k f size).2 with
      | none => u.fail 1 1
      | some an =>
        if fault ≠ 0 then u.failAt fault 1 0 ea
        else storeEff k sel f.rt.toNat ea (if amBase f = [] then u else u.put [k.res (cA f.an.toNat) an 1]))

/-- A multiply-accumulate of the terms `ts` of the halves al, ah, bl, bh: destinations ACD and following (R123, R124). -/
def MacAs (mk : Iss → FMM → Instr) (pair : Nat → Bool) (n : Nat) (ts : Int → Int → Int → Int → List Int) : Prop :=
  ∀ i f, Results (mk i f) i 2 (fun _ => pair f.acd.toNat) (fun _ => [cS f.sa.toNat, cS f.sb.toNat])
    (fun _ => codes (cAcc f.acd.toNat) n)
    (fun k =>
      let a := k.s f.sa.toNat
      let b := k.s f.sb.toNat
      (List.range n).map (fun j =>
        let t := (if f.frac then 2 else 1) * (ts (rePart a) (imPart a) (rePart b) (imPart b)).getD j 0
        let v := (if f.zero then 0 else k.accF (f.acd.toNat + j)) + (if f.neg then -t else t)
        k.mac (f.acd.toNat + j) (BitVec.ofInt 40 (if f.sat then clampS 40 v else v)).toNat))

/-- An extraction of `parts` results of `n` bits (R126, R127). -/
def ExtractsAs (mk : Iss → FME → Instr) (n parts : Nat) : Prop :=
  ∀ i f, Results (mk i f) i 2 (fun _ => decide (f.rm.toNat ≠ 3 ∧ f.sh.toNat ≤ 39 ∧ (parts = 2 → f.acs.toNat % 2 = 0)))
    (fun _ => codes (cAcc f.acs.toNat) parts) (fun _ => cS f.sd.toNat :: (if f.pf = 0 then [] else [cP f.pf.toNat]))
    (fun k =>
      let y (j : Nat) : Int := rounded f.rm.toNat (k.acc (f.acs.toNat + j)) f.sh.toNat
      let z (j : Nat) : Int := if f.sat then clampS n (y j) else y j
      let v : Nat := if parts = 2 then cplx (z 0) (z 1) else ((BitVec.ofInt n (z 0)).signExtend 32).toNat
      k.res (cS f.sd.toNat) v 2 ::
        (if f.pf = 0 then []
         else [k.res (cP f.pf.toNat) (b2n (decide (clampS n (y 0) ≠ y 0) || (decide (parts = 2) && decide (clampS n (y 1) ≠ y 1)))) 2]))

/-- The fields of MA that `use` does not name are 0. -/
def maZero (f : FMA) (acd acs sa sh as_ : Bool) : Bool :=
  decide ((acd = true ∨ f.acd = 0) ∧ (acs = true ∨ f.acs = 0) ∧ (sa = true ∨ f.sa = 0) ∧ (sh = true ∨ f.sh = 0) ∧
    (as_ = true ∨ f.sat = false) ∧ f.z = 0)

/-- A short-vector operation on groups of four; `vb` 2: a second group, 1: a number below 16, 0: VB is 0. -/
def ShortVec (mk : Iss → FMV → Instr) (vb : Nat) (g : Nat → Nat → Nat) : Prop :=
  ∀ i f, Results (mk i f) i 2
    (fun _ => decide (f.vd.toNat % 4 = 0 ∧ f.va.toNat % 4 = 0 ∧
      (if vb = 2 then f.vb.toNat % 4 = 0 else if vb = 1 then f.vb.toNat < 16 else f.vb = 0)))
    (fun _ => codes (cS f.va.toNat) 4 ++ (if vb = 2 then codes (cS f.vb.toNat) 4 else []))
    (fun _ => codes (cS f.vd.toNat) 4)
    (fun k => (List.range 4).map (fun e =>
      k.res (cS (f.vd.toNat + e)) (g (k.s (f.va.toNat + e)) (if vb = 2 then k.s (f.vb.toNat + e) else f.vb.toNat)) 2))

end Sys2Proof.Claims

open Sys2Proof Sys2Proof.Machine Sys2Proof.Safety Sys2Proof.Claims

/-- R116, R117: moves between register files. A `p` register reads 0 or 1, and `mov` takes the codes that R117 lists. -/
def Obligations.MoveResults : Prop :=
  (∀ i f, Results (.mov i f) i 0 (fun _ => movable f.dst.toNat && movable f.src.toNat && decide (f.z = 0))
    (fun _ => [f.src.toNat]) (fun _ => [f.dst.toNat]) (fun k => [k.res f.dst.toNat (k.rd f.src.toNat) 1])) ∧
  (∀ i f, Acts (.mvfb i f) i 0
    (fun k => k.bank ≠ 0 → awaiting k.x (plevelOf k) (phys (rrbOf (bankOf k.x (plevelOf k))) f.src.toNat) = false)
    (fun _ => banked f.dst.toNat && banked f.src.toNat && (isAcc f.dst.toNat == isAcc f.src.toNat) && decide (f.z = 0))
    (fun _ => []) (fun _ => [f.dst.toNat]) false 0
    (fun k u => if k.bank = 0 then u.fail 8 0
      else u.put [k.res f.dst.toNat (bankRead (bankOf k.x (plevelOf k)) (phys (rrbOf (bankOf k.x (plevelOf k))) f.src.toNat)) 1])) ∧
  (∀ i f, Acts (.mvtb i f) i 0
    (fun k => k.bank ≠ 0 → awaiting k.x (plevelOf k) (phys (rrbOf (bankOf k.x (plevelOf k))) f.dst.toNat) = false)
    (fun _ => banked f.dst.toNat && banked f.src.toNat && (isAcc f.dst.toNat == isAcc f.src.toNat) && decide (f.z = 0))
    (fun _ => [f.src.toNat]) (fun _ => [f.dst.toNat]) false 0
    (fun k u => if k.bank = 0 then u.fail 8 0
      else { u with bankWr := u.bankWr ++
        [(plevelOf k, phys (rrbOf (bankOf k.x (plevelOf k))) f.dst.toNat, k.rd f.src.toNat)] })) ∧
  (∀ i f, Acts (.mtc i f) i 0
    (fun k => cprstPending k.x = false ∧
      ∀ q ∈ k.x.bcp.queue, f.cn.toNat ∉ bcpReads q.w ∧ f.cn.toNat ∉ bcpWrites q.w)
    (fun _ => decide (f.sq.toNat % 4 = 0) && decide (f.z = 0)) (fun _ => codes (cS f.sq.toNat) 4) (fun _ => [cC f.cn.toNat]) false 0
    (fun k u => { u with mtc := u.mtc ++ [(f.cn.toNat, k.s f.sq.toNat + k.s (f.sq.toNat + 1) * 2 ^ 32 +
      k.s (f.sq.toNat + 2) * 2 ^ 64 + k.s (f.sq.toNat + 3) * 2 ^ 96)] })) ∧
  (∀ i f, Acts (.mfc i f) i 0
    (fun k => cprstPending k.x = false ∧ ∀ q ∈ k.x.bcp.queue, f.cn.toNat ∉ bcpWrites q.w)
    (fun _ => decide (f.sq.toNat % 4 = 0) && decide (f.z = 0)) (fun _ => []) (fun _ => codes (cS f.sq.toNat) 4) false 0
    (fun k u => u.put ((List.range 4).map (fun e =>
      k.res (cS (f.sq.toNat + e)) (cVal k.x f.cn.toNat / 2 ^ (32 * e) % 2 ^ 32) 2))))

/-- R75, R76, R94, R116, R118, R119: control transfers are marked in their bundle, taken when the guard is true; calls write
`a15` with the address after their second delay bundle; `reti` raises PRIV (8) at level 0. -/
def Sys2Proof.Claims.ControlTransfersMarkTheirBundle : Prop :=
  (∀ i f, Acts (.br i f) i 0 noDelay (fun _ => true) (fun _ => []) (fun _ => []) true 0
    (fun k u => goTo (relTarget k f) true u)) ∧
  (∀ i f, Acts (.call i f) i 0 noDelay (fun _ => true) (fun _ => []) (fun _ => [cA 15]) true 0
    (fun k u => goTo (relTarget k f) false (u.put [k.res (cA 15) (returnAddr k i.eob) 1]))) ∧
  (∀ i f, Acts (.jr i f) i 0 noDelay (fun _ => decide (f.z = 0)) (fun _ => [cA f.an.toNat]) (fun _ => []) true 0
    (fun k u => goTo (k.a f.an.toNat) true u)) ∧
  (∀ i f, Acts (.jalr i f) i 0 noDelay (fun _ => decide (f.z = 0)) (fun _ => [cA f.an.toNat]) (fun _ => [cA 15]) true 0
    (fun k u => goTo (k.a f.an.toNat) false (u.put [k.res (cA 15) (returnAddr k i.eob) 1]))) ∧
  (∀ i z, Acts (.reti i z) i 0 noDelay (fun _ => decide (z = 0)) (fun _ => []) (fun _ => []) true 0
    (fun k u => if k.bank = 0 then u.fail 8 0 else { u with taken := true, reti := true })) ∧
  (∀ i f, Acts (.done i f) i 0 noDelay (fun _ => decide (f.z = 0)) (fun _ => []) (fun _ => []) true 0
    (fun _ u => { u with taken := true, done := some f.code.toNat }))

/-- R85, R97, R118, R132, R467: loop setup writes the count, and for a rotating loop p4 to p7; `fence` waits for remote
accesses; `trap` raises SW_TRAP (9) with the low six bits of its code; `brk` raises BREAK (0x0A), or marks the bundle for a
debugger that is attached. -/
def Sys2Proof.Claims.LoopFenceTrapAndBreakEffects : Prop :=
  (∀ i f, Acts (.loop i f) i 0 (fun _ => True) (fun _ => (f.i || decide (f.count.toNat < 32)) && decide (f.stg = 0))
    (fun _ => if f.i then [] else [cS (f.count.toNat % 32)]) (fun _ => [0x48 + b2n f.lc]) false 0
    (fun k u =>
      let count := if f.i then f.count.toNat else k.s (f.count.toNat % 32)
      { (u.put [k.res (0x48 + b2n f.lc) count 1]) with loop := some (b2n f.lc, count, k.pc + 4 * f.endofs.toNat, 0, false) })) ∧
  (∀ i f, Acts (.loopR i f) i 0 (fun _ => True) (fun _ => f.i || decide (f.count.toNat < 32))
    (fun _ => if f.i then [] else [cS (f.count.toNat % 32)]) (fun _ => [0x48 + b2n f.lc, cP 4, cP 5, cP 6, cP 7]) false 0
    (fun k u =>
      let count := if f.i then f.count.toNat else k.s (f.count.toNat % 32)
      { (u.put [k.res (0x48 + b2n f.lc) count 1, k.res (cP 4) 1 1, k.res (cP 5) 0 1, k.res (cP 6) 0 1, k.res (cP 7) 0 1]) with
        loop := some (b2n f.lc, count, k.pc + 4 * f.endofs.toNat, f.stg.toNat, true) })) ∧
  (∀ i f, Acts (.fence i f) i 0 (fun k => guardOf k i = true → k.x.rmt = []) (fun _ => decide (f.z = 0 ∧ f.code = 0))
    (fun _ => []) (fun _ => []) false 0 (fun _ u => u)) ∧
  (∀ i f, Acts (.trap i f) i 0 (fun _ => True) (fun _ => decide (f.z = 0)) (fun _ => []) (fun _ => []) false 0
    (fun _ u => u.failAt 9 0 (f.code.toNat % 64) 0)) ∧
  (∀ i f, Acts (.brk i f) i 0 (fun _ => True) (fun _ => decide (f.z = 0 ∧ f.code = 0)) (fun _ => []) (fun _ => []) false 0
    (fun k u => if rbit k.d (Reg.CPN_DBG_CTL k.c) 0 then { u with brk := true } else u.fail 0x0A 0))

/-- R75, R76, R85, R97, R118, R119, R132, R467: control transfers, loop setup, `fence`, `trap` and `brk`. -/
def Obligations.ControlAndLoopEffects : Prop :=
  Sys2Proof.Claims.ControlTransfersMarkTheirBundle ∧ Sys2Proof.Claims.LoopFenceTrapAndBreakEffects

/-- R120 to R122: every load adds its read to the bundle, at the address of its MODE, for the registers that its row names. -/
def Sys2Proof.Claims.LoadsReadTheirAddress : Prop :=
  LoadsAs .ldB 0 1 1 32 false (fun r => [cS r]) ∧ LoadsAs .ldBu 1 1 1 32 false (fun r => [cS r]) ∧
  LoadsAs .ldH 2 2 1 32 false (fun r => [cS r]) ∧ LoadsAs .ldHu 3 2 1 32 false (fun r => [cS r]) ∧
  LoadsAs .ldW 4 4 1 32 false (fun r => [cS r]) ∧ LoadsAs .ldD 5 8 2 32 false (fun r => [cS r, cS (r + 1)]) ∧
  LoadsAs .ldQ 6 16 4 32 false (fun r => [cS r, cS (r + 1), cS (r + 2), cS (r + 3)]) ∧
  LoadsAs .ldA 7 4 1 16 true (fun r => [cA r]) ∧ LoadsAs .ldAcc 8 8 1 8 false (fun r => [cAcc r]) ∧
  LoadsAs .ldM 9 16 1 8 false (fun r => [cM r, cBase r, cCtl r])

/-- R120 to R122: every store adds its bytes to the bundle, at the address of its MODE. -/
def Sys2Proof.Claims.StoresWriteTheirAddress : Prop :=
  StoresAs .stB 0 1 1 32 (fun r => [cS r]) ∧ StoresAs .stH 2 2 1 32 (fun r => [cS r]) ∧
  StoresAs .stW 4 4 1 32 (fun r => [cS r]) ∧ StoresAs .stD 5 8 2 32 (fun r => [cS r, cS (r + 1)]) ∧
  StoresAs .stQ 6 16 4 32 (fun r => [cS r, cS (r + 1), cS (r + 2), cS (r + 3)]) ∧ StoresAs .stA 7 4 1 16 (fun r => [cA r]) ∧
  StoresAs .stAcc 8 8 1 8 (fun r => [cAcc r]) ∧ StoresAs .stM 9 16 1 8 (fun r => [cM r, cBase r, cCtl r])

/-- R120: address arithmetic, one bundle of latency; `upd` is the update of R86 to R88, and a reserved MODE is illegal. -/
def Sys2Proof.Claims.AddressResults : Prop :=
  (∀ i f, Results (.addiA i f) i 1 (fun _ => true) (fun _ => [cA f.asrc.toNat]) (fun _ => [cA f.ad.toNat])
    (fun k => [k.res (cA f.ad.toNat) (word (k.a f.asrc.toNat) + f.imm.signExtend 32).toNat 1])) ∧
  (∀ i f, Results (.adda i f) i 1 (fun _ => decide (f.z = 0)) (fun _ => [cA f.asrc.toNat, cS f.rs.toNat]) (fun _ => [cA f.ad.toNat])
    (fun k => [k.res (cA f.ad.toNat) (word (k.a f.asrc.toNat) + word (k.s f.rs.toNat)).toNat 1])) ∧
  (∀ i f, Acts (.upd i f) i 1 (fun _ => True) (fun _ => decide (f.z = 0))
    (fun _ => [cA f.asrc.toNat, cM f.mreg.toNat, cBase f.mreg.toNat, cCtl f.mreg.toNat]) (fun _ => [cA f.ad.toNat]) false 0
    (fun k u => match modUpdate (k.a f.asrc.toNat) (k.rd (cM f.mreg.toNat)) (k.rd (cBase f.mreg.toNat)) (k.rd (cCtl f.mreg.toNat)) with
      | some a => u.put [k.res (cA f.ad.toNat) a 1]
      | none => u.fail 1 1))

/-- R86 to R88: an address moves by INC; under a circular modifier it stays inside its buffer; under a bit-reversed one only
the index bits change. -/
def Sys2Proof.Claims.ModifierUpdatesStayInTheirBuffer : Prop :=
  (∀ an inc base ctl, bits ctl 31 30 = 0 → bits ctl 29 24 = 0 → modUpdate an inc base ctl = some ((an + inc) % 2 ^ 32)) ∧
  (∀ an inc base ctl, bits ctl 31 30 = 1 → bits ctl 29 24 = 0 → 0 < bits ctl 23 0 → base + bits ctl 23 0 ≤ 2 ^ 32 →
    ∃ a, modUpdate an inc base ctl = some a ∧ base ≤ a ∧ a < base + bits ctl 23 0 ∧
      ((a : Int) - an - (BitVec.ofNat 32 inc).toInt) % (bits ctl 23 0 : Int) = 0) ∧
  (∀ an inc base ctl, bits ctl 31 30 = 3 → modUpdate an inc base ctl = none)

/-- R86 to R88, R120 to R122: every load, store and address instruction of the A slot, and the updates of their modifiers. -/
def Obligations.LoadsStoresAndAddresses : Prop :=
  Sys2Proof.Claims.LoadsReadTheirAddress ∧ Sys2Proof.Claims.StoresWriteTheirAddress ∧ Sys2Proof.Claims.AddressResults ∧
  Sys2Proof.Claims.ModifierUpdatesStayInTheirBuffer

/-- R123, R124: multiply-accumulate; results have latency 3 and are forwarded (`Ctx.mac`). -/
def Sys2Proof.Claims.MacResults : Prop :=
  MacAs .cmac (fun a => a % 2 == 0) 2 (fun al ah bl bh => [al * bl - ah * bh, al * bh + ah * bl]) ∧
  MacAs .cmacj (fun a => a % 2 == 0) 2 (fun al ah bl bh => [al * bl + ah * bh, ah * bl - al * bh]) ∧
  MacAs .dmac (fun a => a % 2 == 0) 2 (fun al ah bl bh => [al * bl, ah * bh]) ∧
  MacAs .xmac (fun a => a % 2 == 0) 2 (fun al ah bl bh => [al * bh, ah * bl]) ∧
  MacAs .qmac (fun a => a % 4 == 0) 4 (fun al ah bl bh => [al * bl, ah * bh, al * bh, ah * bl]) ∧
  MacAs .mac (fun _ => true) 1 (fun al _ bl _ => [al * bl])

/-- R128: `fir` reads its tap record, updates its base, and raises ACCESS (5) before MISALIGN (4) at slot M. -/
def Sys2Proof.Claims.FirReadsItsTap : Prop :=
  ∀ i f, Acts (.fir i f) i 2 (fun _ => True) (fun _ => decide (f.acd.toNat % 2 = 0 ∧ f.mode.toNat ≤ 2 ∧ f.z = 0))
    (fun _ => [cA f.an.toNat, cM f.mreg.toNat, cBase f.mreg.toNat, cCtl f.mreg.toNat])
    (fun _ => [cAcc f.acd.toNat, cAcc (f.acd.toNat + 1), cA f.an.toNat]) false 0
    (fun k u =>
      let x := k.a f.an.toNat
      match modUpdate x (k.rd (cM f.mreg.toNat)) (k.rd (cBase f.mreg.toNat)) (k.rd (cCtl f.mreg.toNat)) with
      | none => { u with fir := true }.fail 1 2
      | some an =>
        if ¬ x + 11 ≤ 0x3FFFF then { u with fir := true }.failAt 5 2 0 x
        else if ¬ 8 ∣ x then { u with fir := true }.failAt 4 2 0 x
        else { u with fir := true, res := u.res ++ [k.res (cA f.an.toNat) an 1],
                      ops := u.ops ++ [.fir x f.acd.toNat f.mode.toNat f.frac f.sat],
                      acc := u.acc ++ [(x, 8, false), (x + 8, 4, true)] })

/-- R123, R124, R128: multiply-accumulate and filter taps. -/
def Obligations.MacAndFirResults : Prop :=
  Sys2Proof.Claims.MacResults ∧ Sys2Proof.Claims.FirReadsItsTap

/-- R126, R127: extraction with rounding, clamping and the overflow predicate, and the accumulator operations. -/
def Obligations.ExtractionAndAccumulatorResults : Prop :=
  ExtractsAs .extw 32 1 ∧ ExtractsAs .exth 16 1 ∧ ExtractsAs .extc 16 2 ∧
  (∀ i f, Results (.clracc i f) i 2 (fun _ => maZero f true false false false false) (fun _ => []) (fun _ => [cAcc f.acd.toNat])
    (fun k => [k.mac f.acd.toNat 0])) ∧
  (∀ i f, Results (.clraccP i f) i 2 (fun _ => maZero f true false false false false && decide (f.acd.toNat % 2 = 0)) (fun _ => [])
    (fun _ => [cAcc f.acd.toNat, cAcc (f.acd.toNat + 1)]) (fun k => [k.mac f.acd.toNat 0, k.mac (f.acd.toNat + 1) 0])) ∧
  (∀ i f, Results (.movsa i f) i 2 (fun _ => maZero f true false true true false && decide (f.sh.toNat ≤ 8))
    (fun _ => [cS f.sa.toNat]) (fun _ => [cAcc f.acd.toNat])
    (fun k => [k.mac f.acd.toNat (BitVec.ofInt 40 ((word (k.s f.sa.toNat)).toInt * 2 ^ f.sh.toNat)).toNat])) ∧
  (∀ i f, Results (.addacc i f) i 2 (fun _ => maZero f true true false false true) (fun _ => [cAcc f.acs.toNat]) (fun _ => [cAcc f.acd.toNat])
    (fun k => let v := k.accF f.acd.toNat + k.accF f.acs.toNat
      [k.mac f.acd.toNat (BitVec.ofInt 40 (if f.sat then clampS 40 v else v)).toNat])) ∧
  (∀ i f, Results (.subacc i f) i 2 (fun _ => maZero f true true false false true) (fun _ => [cAcc f.acs.toNat]) (fun _ => [cAcc f.acd.toNat])
    (fun k => let v := k.accF f.acd.toNat - k.accF f.acs.toNat
      [k.mac f.acd.toNat (BitVec.ofInt 40 (if f.sat then clampS 40 v else v)).toNat])) ∧
  (∀ i f, Results (.shacc i f) i 2 (fun _ => maZero f true false false true true) (fun _ => []) (fun _ => [cAcc f.acd.toNat])
    (fun k =>
      let a := k.accF f.acd.toNat
      let v := if 0 ≤ f.sh.toInt then (let l := a * 2 ^ f.sh.toInt.toNat; if f.sat then clampS 40 l else l) else a / 2 ^ (-f.sh.toInt).toNat
      [k.mac f.acd.toNat (BitVec.ofInt 40 v).toNat])) ∧
  (∀ i f, Results (.movga i f) i 2 (fun _ => maZero f false true true false false) (fun _ => [cAcc f.acs.toNat]) (fun _ => [cS f.sa.toNat])
    (fun k => [k.res (cS f.sa.toNat) (w32 (k.acc f.acs.toNat / 2 ^ 32)).toNat 2])) ∧
  (∀ i f, Results (.movla i f) i 2 (fun _ => maZero f false true true false false) (fun _ => [cAcc f.acs.toNat]) (fun _ => [cS f.sa.toNat])
    (fun k => [k.res (cS f.sa.toNat) (w32 (k.acc f.acs.toNat)).toNat 2]))

/-- R130, R131: short-vector operations, element by element over groups of four registers. -/
def Obligations.ShortVectorResults : Prop :=
  ShortVec .svadd 2 (fun a b => cplx (rePart a + rePart b) (imPart a + imPart b)) ∧
  ShortVec .svadds 2 (fun a b => cplx (clampS 16 (rePart a + rePart b)) (clampS 16 (imPart a + imPart b))) ∧
  ShortVec .svsub 2 (fun a b => cplx (rePart a - rePart b) (imPart a - imPart b)) ∧
  ShortVec .svsubs 2 (fun a b => cplx (clampS 16 (rePart a - rePart b)) (clampS 16 (imPart a - imPart b))) ∧
  ShortVec .svconj 0 (fun a _ => cplx (rePart a) (clampS 16 (-imPart a))) ∧
  ShortVec .svrotj 0 (fun a _ => cplx (clampS 16 (-imPart a)) (rePart a)) ∧
  ShortVec .svrotnj 0 (fun a _ => cplx (imPart a) (clampS 16 (-rePart a))) ∧
  ShortVec .svshr 1 (fun a n => cplx (rounded 2 (rePart a) n) (rounded 2 (imPart a) n)) ∧
  ShortVec .svcmul 2 (fun a b => q15 (prodC a b)) ∧ ShortVec .svcmulj 2 (fun a b => q15 (prodJ a b)) ∧
  ShortVec .svswap 0 (fun a _ => cplx (imPart a) (rePart a))

namespace Sys2Proof.Claims
open Sys2Proof.Machine Sys2Proof.Safety

/-- Bytes of an element and bits of a part by TY: ci16, i16, i32, i8 (R138). -/
def elBytes (ty : BitVec 2) : Nat := if ty = 0 then 4 else if ty = 1 then 2 else if ty = 2 then 4 else 1
def partBits (ty : BitVec 2) : Nat := if ty = 2 then 32 else if ty = 3 then 8 else 16

/-- Beats of an arithmetic instruction: one for i8, one for each 16 elements otherwise (R138). -/
def beats (ty : BitVec 2) (k : Ctx) : Nat := if ty = 3 then 1 else (k.vl + 15) / 16

/-- A function of each part of two elements. -/
def eachPart (ty : BitVec 2) (h : Int → Int → Int) (a b : Nat) : Nat :=
  if ty = 0 then cplx (h (rePart a) (rePart b)) (h (imPart a) (imPart b))
  else (BitVec.ofInt (partBits ty) (h (BitVec.ofNat (partBits ty) a).toInt (BitVec.ofNat (partBits ty) b).toInt)).toNat

/-- The registers and the fit of an operand of `n` elements' bytes at register `i` (R139). -/
def vregs (k : Ctx) (i bytes : Nat) : List Nat := groupCodes ((k.vl * bytes + 63) / 64) i
def vfits (k : Ctx) (i bytes : Nat) : Bool :=
  decide ((k.vl * bytes + 63) / 64 ≤ 1 ∨ ((k.vl * bytes + 63) / 64 ≤ 4 ∧ i % 4 = 0))

/-- The guard register that MG names; 0 names none (R141). -/
def vguard (mg : BitVec 3) : List Nat := if mg = 0 then [] else [cVm mg.toNat]

/-- An element instruction (R138 to R141): each active element of the destination takes `g`; every other bit stays. -/
def Elements (ins : Instr) (i : Iss) (legal : Bool) (srcs : List (Nat × Nat)) (vd bytes : Nat) (mg : BitVec 3)
    (lat : Ctx → Nat) (also : List Nat) (g : Ctx → Nat → Nat) : Prop :=
  Results ins i 3 (fun k => legal && srcs.all (fun s => vfits k s.1 s.2) && vfits k vd bytes)
    (fun k => srcs.flatMap (fun s => vregs k s.1 s.2) ++ vguard mg ++ also) (fun k => vregs k vd bytes)
    (fun k => k.vres vd bytes (lat k) ((k.actives mg.toNat).map (fun e => (e, g k e))))

/-- Two vector sources of the types `tys`. -/
def VV (mk : Iss → FVR → Instr) (tys : List (BitVec 2)) (g : BitVec 2 → Nat → Nat → Nat) : Prop :=
  ∀ i f, Elements (mk i f) i (tys.contains f.ty) [(f.va.toNat, elBytes f.ty), (f.vb.toNat, elBytes f.ty)] f.vd.toNat (elBytes f.ty)
    f.mg (fun k => 1 + beats f.ty k) []
    (fun k e => g f.ty (k.el f.va.toNat (elBytes f.ty) e) (k.el f.vb.toNat (elBytes f.ty) e))

/-- One vector source, VB 0. -/
def V1 (mk : Iss → FVR → Instr) (tys : List (BitVec 2)) (g : Nat → Nat) : Prop :=
  ∀ i f, Elements (mk i f) i (tys.contains f.ty && decide (f.vb = 0)) [(f.va.toNat, elBytes f.ty)] f.vd.toNat (elBytes f.ty)
    f.mg (fun k => 1 + beats f.ty k) [] (fun k e => g (k.el f.va.toNat (elBytes f.ty) e))

/-- A shift of each part by the immediate, which is below the width of a part. -/
def VSh (mk : Iss → FVI → Instr) (g : Nat → Nat → Int → Int) : Prop :=
  ∀ i f, Elements (mk i f) i (decide (f.imm.toNat < partBits f.ty)) [(f.va.toNat, elBytes f.ty)] f.vd.toNat (elBytes f.ty)
    f.mg (fun k => 1 + beats f.ty k) []
    (fun k e => eachPart f.ty (fun x _ => g (partBits f.ty) f.imm.toNat x) (k.el f.va.toNat (elBytes f.ty) e) 0)

/-- A compare of signed elements: bit e of `vmd` for each active element, 0 elsewhere. -/
def VCmp (mk : Iss → FVR → Instr) (h : Int → Int → Bool) : Prop :=
  ∀ i f, Acts (mk i f) i 3 (fun _ => True)
    (fun k => decide (f.ty ≠ 0) && decide (f.vd.toNat < 8) && vfits k f.va.toNat (elBytes f.ty) && vfits k f.vb.toNat (elBytes f.ty))
    (fun k => vregs k f.va.toNat (elBytes f.ty) ++ vregs k f.vb.toNat (elBytes f.ty) ++ vguard f.mg) (fun _ => [cVm f.vd.toNat])
    false 0
    (fun k u => u.put [k.res (cVm f.vd.toNat)
      ((k.actives f.mg.toNat).foldl (fun m e =>
        if h (BitVec.ofNat (partBits f.ty) (k.el f.va.toNat (elBytes f.ty) e)).toInt
             (BitVec.ofNat (partBits f.ty) (k.el f.vb.toNat (elBytes f.ty) e)).toInt then m ||| 2 ^ e else m) 0) (1 + beats f.ty k)])

/-- Complex products and the like: `nsrc` sources of ci16, elements of `bytes` in the destination, latency 4 (R147). -/
def VC (mk : Iss → FVC → Instr) (ok : FVC → Bool) (two acc : Bool) (bytes : Nat) (g : Nat → Nat → Nat → Nat) : Prop :=
  ∀ i f, Elements (mk i f) i (ok f && !f.z && (two || decide (f.vb = 0)))
    ((f.va.toNat, 4) :: ((if two then [(f.vb.toNat, 4)] else []) ++ (if acc then [(f.vd.toNat, 8)] else []))) f.vd.toNat bytes
    f.mg (fun k => 3 + (k.vl + 15) / 16) []
    (fun k e => g (k.el f.va.toNat 4 e) (k.el f.vb.toNat 4 e) (k.el f.vd.toNat 8 e))

/-- A ci32 sum of a product, each part clamped to 32 bits. -/
def ci32Add (p : Int × Int) (o : Nat) : Nat :=
  (w32 (clampS 32 ((word o).toInt + p.1))).toNat + 2 ^ 32 * (w32 (clampS 32 ((word (o / 2 ^ 32)).toInt + p.2))).toNat

/-- A dot product: exact sums over the active elements, added to the pair modulo 2^40 (R148). -/
def VDot (mk : Iss → FVD → Instr) (p : Nat → Nat → Int × Int) : Prop :=
  ∀ i f, Results (mk i f) i 3
    (fun k => decide (f.acd.toNat % 2 = 0) && decide (f.z = 0) && vfits k f.va.toNat 4 && vfits k f.vb.toNat 4)
    (fun k => vregs k f.va.toNat 4 ++ vregs k f.vb.toNat 4 ++ vguard f.mg ++ [cAcc f.acd.toNat, cAcc (f.acd.toNat + 1)])
    (fun _ => [cAcc f.acd.toNat, cAcc (f.acd.toNat + 1)])
    (fun k =>
      let ps := (k.actives f.mg.toNat).map (fun e => p (k.el f.va.toNat 4 e) (k.el f.vb.toNat 4 e))
      let old (j : Nat) : Int := if f.zero then 0 else k.acc (f.acd.toNat + j)
      [k.res (cAcc f.acd.toNat) (BitVec.ofInt 40 (old 0 + (ps.map (·.1)).sum)).toNat (5 + (k.vl + 15) / 16),
       k.res (cAcc (f.acd.toNat + 1)) (BitVec.ofInt 40 (old 1 + (ps.map (·.2)).sum)).toNat (5 + (k.vl + 15) / 16)])

/-- The addresses of the active elements, in order. -/
def spots (k : Ctx) (f : FVM) (addrs : List Nat) : List (Nat × Nat) := (k.actives f.mg.toNat).map (fun e => (e, addrs.getD e 0))

/-- An element outside LDM or not aligned to its size (R152). -/
def faulty (f : FVM) (e : Nat × Nat) : Bool := decide (¬ (e.2 + 2 ^ f.sz.toNat ≤ 0x40000 ∧ 2 ^ f.sz.toNat ∣ e.2))

/-- The read that a vector load adds: its elements, the group, and what it writes to `vff` and the base. -/
def loadsInto (k : Ctx) (f : FVM) (lat : Nat) (els : List (Nat × Nat)) (ff : Option Nat) (base : Option Nat) (u : Bundle) : Bundle :=
  { u with ops := u.ops ++ [.vload (2 ^ f.sz.toNat) els ((vregs k f.vt.toNat (2 ^ f.sz.toNat)).map (phys k.rrb)) f.vt.toNat lat ff
             (base.map (fun a => (phys k.rrb (cA f.an.toNat), a)))],
           acc := u.acc ++ els.map (fun e => (e.2, 2 ^ f.sz.toNat, false)) }

/-- A vector load of element addresses `vecAddrs` (R151). The first faulty active element raises VMEM (7) at slot V with its
number and address; a first-fault load whose first active element is sound loads the elements before it instead, and puts its
number in `vff` (R155). -/
def VLoads (mk : Iss → FVM → Instr) (form : VForm) (ff : Bool) (cls : Nat) : Prop :=
  ∀ i f, Acts (mk i f) i 3 (fun _ => True) (fun k => vmLegal k f form) (fun k => vmReads k f form)
    (fun k => vregs k f.vt.toNat (2 ^ f.sz.toNat) ++ (if f.u then [cA f.an.toNat] else []) ++ (if ff then [codeVff] else []))
    false 2
    (fun k u =>
      let lat := cls + vmBeats k f form - 1
      match vecAddrs k f form with
      | none => u.fail 1 3
      | some (addrs, next) =>
        match (spots k f addrs).find? (faulty f) with
        | none => loadsInto k f lat (spots k f addrs) (if ff then some 0 else none) (if f.u then some next else none) u
        | some b =>
          if ff = true ∧ (spots k f addrs).head? ≠ some b then
            loadsInto k f lat ((spots k f addrs).filter (fun e => decide (e.1 < b.1))) (some b.1)
              (if f.u then some (if form = .unit then (k.a f.an.toNat + b.1 * 2 ^ f.sz.toNat) % 2 ^ 32 else next) else none) u
          else u.failAt 7 3 b.1 b.2)

/-- A vector store: every active element's bytes, in order, or VMEM for the first faulty one and no store (R151 to R154). -/
def VStores (mk : Iss → FVM → Instr) (form : VForm) : Prop :=
  ∀ i f, Acts (mk i f) i 3 (fun _ => True) (fun k => vmLegal k f form)
    (fun k => vmReads k f form ++ vregs k f.vt.toNat (2 ^ f.sz.toNat)) (fun _ => if f.u then [cA f.an.toNat] else []) false 2
    (fun k u =>
      match vecAddrs k f form with
      | none => u.fail 1 3
      | some (addrs, next) =>
        match (spots k f addrs).find? (faulty f) with
        | some b => u.failAt 7 3 b.1 b.2
        | none =>
          { u with res := u.res ++ (if f.u then [k.res (cA f.an.toNat) next 1] else []),
                   stores := u.stores ++ (spots k f addrs).map (fun e =>
                     ⟨e.2, toBytes (2 ^ f.sz.toNat) (k.el f.vt.toNat (2 ^ f.sz.toNat) e.1), true⟩),
                   acc := u.acc ++ (spots k f addrs).map (fun e => (e.2, 2 ^ f.sz.toNat, true)) })

/-- Bits below bit 15 of a part that equal bit 15 (R150). -/
def signBits (x : Int) : Nat := ((BitVec.ofInt 16 x ^^^ (BitVec.ofInt 16 x).sshiftRight 1).clz - 1).toNat

/-- The parts of a ci16 or i16 element. -/
def partsOf (ty : BitVec 2) (a : Nat) : List Int := if ty = 0 then [rePart a, imPart a] else [rePart a]

/-- A mask instruction that writes `vmd`; `uses`: the mask fields and the pair of `s` registers that it reads. -/
def VMask (mk : Iss → FVK → Instr) (ma mb rs : Bool) (g : Ctx → FVK → BitVec 64 → BitVec 64 → BitVec 64) : Prop :=
  ∀ i f, Results (mk i f) i 3
    (fun _ => decide (f.z = false ∧ (ma = true ∨ f.ma = 0) ∧ (mb = true ∨ f.mb = 0) ∧ (if rs = true then f.rs.toNat % 2 = 0 else f.rs = 0)))
    (fun _ => (if ma then [cVm f.ma.toNat] else []) ++ (if mb then [cVm f.mb.toNat] else []) ++
      (if rs then [cS f.rs.toNat, cS (f.rs.toNat + 1)] else [])) (fun _ => [cVm f.md.toNat])
    (fun k => [k.res (cVm f.md.toNat) (g k f (BitVec.ofNat 64 (k.vm f.ma.toNat)) (BitVec.ofNat 64 (k.vm f.mb.toNat))).toNat 2])

/-- A mask instruction that writes one `s` register. -/
def VScal (mk : Iss → FVK → Instr) (g : Ctx → FVK → Nat) : Prop :=
  ∀ i f, Results (mk i f) i 3 (fun _ => decide (f.z = false ∧ f.md = 0 ∧ f.mb = 0)) (fun _ => [cVm f.ma.toNat])
    (fun _ => [cS f.rs.toNat]) (fun k => [k.res (cS f.rs.toNat) (g k f) 2])

end Sys2Proof.Claims

open Sys2Proof Sys2Proof.Machine Sys2Proof.Safety Sys2Proof.Claims

/-! ## Vector instructions -/

/-- R141, R144, R146: element arithmetic and logic; each active element takes the result, every other element and bit stays. -/
def Sys2Proof.Claims.VectorArithmeticResults : Prop :=
  VV .vadd [0, 1, 2, 3] (fun ty => eachPart ty (fun x y => x + y)) ∧
  VV .vadds [0, 1, 2, 3] (fun ty => eachPart ty (fun x y => clampS (partBits ty) (x + y))) ∧
  VV .vsub [0, 1, 2, 3] (fun ty => eachPart ty (fun x y => x - y)) ∧
  VV .vsubs [0, 1, 2, 3] (fun ty => eachPart ty (fun x y => clampS (partBits ty) (x - y))) ∧
  VV .vand [0, 1, 2, 3] (fun _ a b => a &&& b) ∧ VV .vor [0, 1, 2, 3] (fun _ a b => a ||| b) ∧
  VV .vxor [0, 1, 2, 3] (fun _ a b => a ^^^ b) ∧
  VV .vmin [1, 2, 3] (fun ty => eachPart ty (fun x y => min x y)) ∧ VV .vmax [1, 2, 3] (fun ty => eachPart ty (fun x y => max x y)) ∧
  V1 .vmov [0, 1, 2, 3] (fun a => a) ∧ V1 .vconj [0] (fun a => cplx (rePart a) (clampS 16 (-imPart a))) ∧
  VSh .vshli (fun _ n x => x * 2 ^ n) ∧ VSh .vshri (fun w n x => (BitVec.ofInt w x).toNat / 2 ^ n) ∧ VSh .vsari (fun _ n x => x / 2 ^ n) ∧
  (∀ i f, Results (.vsel i f) i 3
    (fun k => decide (f.mg ≠ 0) && vfits k f.va.toNat (elBytes f.ty) && vfits k f.vb.toNat (elBytes f.ty) && vfits k f.vd.toNat (elBytes f.ty))
    (fun k => vregs k f.va.toNat (elBytes f.ty) ++ vregs k f.vb.toNat (elBytes f.ty) ++ vguard f.mg) (fun k => vregs k f.vd.toNat (elBytes f.ty))
    (fun k => k.vres f.vd.toNat (elBytes f.ty) (1 + beats f.ty k) ((List.range k.vl).map (fun e =>
      (e, if (k.vm f.mg.toNat).testBit e then k.el f.va.toNat (elBytes f.ty) e else k.el f.vb.toNat (elBytes f.ty) e)))))

/-- R144, R146: vector compares write a mask with the active elements that satisfy the relation, and 0 elsewhere. -/
def Sys2Proof.Claims.VectorCompareResults : Prop :=
  VCmp .vcmpEq (fun x y => decide (x = y)) ∧ VCmp .vcmpNe (fun x y => decide (x ≠ y)) ∧ VCmp .vcmpLt (fun x y => decide (x < y)) ∧
  VCmp .vcmpLe (fun x y => decide (x ≤ y)) ∧ VCmp .vcmpGt (fun x y => decide (y < x)) ∧ VCmp .vcmpGe (fun x y => decide (y ≤ x))

/-- R141, R144, R146: element arithmetic, logic and compares. -/
def Obligations.VectorArithmeticAndCompares : Prop :=
  Sys2Proof.Claims.VectorArithmeticResults ∧ Sys2Proof.Claims.VectorCompareResults

/-- R147 to R150: complex products, rotations, packing and block floating point. -/
def Obligations.VectorComplexResults : Prop :=
  VC .vcmul (fun _ => true) true false 4 (fun a b _ => q15 (prodC a b)) ∧ VC .vcmulj (fun _ => true) true false 4 (fun a b _ => q15 (prodJ a b)) ∧
  VC .vcmac (fun _ => true) true true 8 (fun a b o => ci32Add (prodC a b) o) ∧ VC .vcmacj (fun _ => true) true true 8 (fun a b o => ci32Add (prodJ a b) o) ∧
  VC .vcmag2 (fun f => !f.j) false false 4 (fun a _ _ => (w32 (min (2 ^ 31 - 1) (rePart a * rePart a + imPart a * imPart a))).toNat) ∧
  VC .vcrotP (fun _ => true) false false 4 (fun a _ _ => cplx (clampS 16 (-imPart a)) (rePart a)) ∧
  VC .vcrotN (fun _ => true) false false 4 (fun a _ _ => cplx (imPart a) (clampS 16 (-rePart a))) ∧
  VDot .vcdot prodC ∧ VDot .vcdotj prodJ ∧
  (∀ i f, Elements (.vpack i f) i (decide (f.ty = 0)) [(f.va.toNat, 8)] f.vd.toNat 4 f.mg (fun k => 1 + (k.vl + 15) / 16) []
    (fun k e => let o := k.el f.va.toNat 8 e
      cplx (clampS 16 (rounded 2 (word o).toInt f.imm.toNat)) (clampS 16 (rounded 2 (word (o / 2 ^ 32)).toInt f.imm.toNat)))) ∧
  (∀ i f, Elements (.vunpk i f) i (decide (f.ty = 0 ∧ f.imm.toNat ≤ 15)) [(f.va.toNat, 4)] f.vd.toNat 8 f.mg (fun k => 1 + (k.vl + 15) / 16) []
    (fun k e => let o := k.el f.va.toNat 4 e
      (w32 (rePart o * 2 ^ f.imm.toNat)).toNat + 2 ^ 32 * (w32 (imPart o * 2 ^ f.imm.toNat)).toNat)) ∧
  (∀ i f, Elements (.vbfs i f) i (decide (f.ty = 0 ∨ f.ty = 1)) [(f.va.toNat, elBytes f.ty)] f.vd.toNat (elBytes f.ty) f.mg
    (fun k => 1 + beats f.ty k) [cS f.vb.toNat]
    (fun k e =>
      let n := (word (k.s f.vb.toNat)).toInt
      eachPart f.ty (fun x _ => if 0 ≤ n then clampS 16 (x * 2 ^ min n.toNat 16) else rounded 2 x (min (-n).toNat 17))
        (k.el f.va.toNat (elBytes f.ty) e) 0)) ∧
  (∀ i f, Acts (.vbfn i f) i 3 (fun _ => True)
    (fun k => decide (f.ty = 0 ∨ f.ty = 1) && vfits k f.va.toNat (elBytes f.ty) && vfits k f.vd.toNat (elBytes f.ty))
    (fun k => vregs k f.va.toNat (elBytes f.ty) ++ vguard f.mg) (fun k => vregs k f.vd.toNat (elBytes f.ty) ++ [cS f.vb.toNat]) false 0
    (fun k u =>
      let act := k.actives f.mg.toNat
      let n := (act.flatMap (fun e => (partsOf f.ty (k.el f.va.toNat (elBytes f.ty) e)).map signBits)).foldl min (if act = [] then 0 else 15)
      u.put (k.vres f.vd.toNat (elBytes f.ty) (3 + beats f.ty k)
          (act.map (fun e => (e, eachPart f.ty (fun x _ => x * 2 ^ n) (k.el f.va.toNat (elBytes f.ty) e) 0))) ++
        [k.res (cS f.vb.toNat) n (3 + beats f.ty k)])))

/-- R151 to R156: vector memory accesses join their bundle; a faulty element raises VMEM (7) with its number and address before
any element is accessed, and a first-fault load past its first active element loads what precedes it. -/
def Obligations.VectorMemoryEffects : Prop :=
  (∀ k f, (vecAddrs k f .unit).map (·.1) = some ((List.range k.vl).map (fun e => (k.a f.an.toNat + e * 2 ^ f.sz.toNat) % 2 ^ 32))) ∧
  (∀ k f, (vecAddrs k f .index).map (·.1) = some ((List.range k.vl).map (fun e => (k.a f.an.toNat + k.el f.rx.toNat 4 e) % 2 ^ 32))) ∧
  VLoads .vld .unit false 5 ∧ VLoads .vlds .stride false 8 ∧ VLoads .vgather .index false 8 ∧ VLoads .vldff .unit true 6 ∧
  VLoads .vgatherff .index true 8 ∧ VStores .vst .unit ∧ VStores .vsts .stride ∧ VStores .vscatter .index

/-- R144, R145: element moves, vector length and first-fault index. -/
def Sys2Proof.Claims.VectorMoveResults : Prop :=
  (∀ i f, Results (.vext i f) i 3 (fun k => decide (f.z = 0) && decide (f.idx.toNat < k.vl) && vfits k f.vx.toNat (elBytes f.ty))
    (fun k => vregs k f.vx.toNat (elBytes f.ty)) (fun _ => [cS f.rs.toNat])
    (fun k => [k.res (cS f.rs.toNat) ((BitVec.ofNat (8 * elBytes f.ty) (k.el f.vx.toNat (elBytes f.ty) f.idx.toNat)).signExtend 32).toNat 2])) ∧
  (∀ i f, Results (.vins i f) i 3 (fun k => decide (f.z = 0) && decide (f.idx.toNat < k.vl) && vfits k f.vx.toNat (elBytes f.ty))
    (fun _ => [cS f.rs.toNat]) (fun k => vregs k f.vx.toNat (elBytes f.ty))
    (fun k => k.vres f.vx.toNat (elBytes f.ty) 2 [(f.idx.toNat, k.s f.rs.toNat)])) ∧
  (∀ i f, Results (.vbcast i f) i 3 (fun k => decide (f.z = 0 ∧ f.idx = 0) && vfits k f.vx.toNat (elBytes f.ty))
    (fun _ => [cS f.rs.toNat]) (fun k => vregs k f.vx.toNat (elBytes f.ty))
    (fun k => k.vres f.vx.toNat (elBytes f.ty) (1 + beats f.ty k) ((List.range k.vl).map (fun e => (e, k.s f.rs.toNat))))) ∧
  (∀ i f, Results (.vsetvl i f) i 3 (fun _ => decide (f.z = 0 ∧ (if f.i = true then f.rs = 0 else f.imm = 0)))
    (fun _ => if f.i then [] else [cS f.rs.toNat]) (fun _ => [codeVl])
    (fun k => let n := if f.i then f.imm.toNat else k.s f.rs.toNat
      [k.res codeVl (if n = 0 then 1 else if n ≤ 64 then n else 64) 2])) ∧
  (∀ i f, Results (.vgetvl i f) i 3 (fun _ => decide (f.z = 0 ∧ f.i = false ∧ f.imm = 0)) (fun _ => [codeVl]) (fun _ => [cS f.rs.toNat])
    (fun k => [k.res (cS f.rs.toNat) k.x.vl.toNat 2])) ∧
  (∀ i f, Results (.vgetff i f) i 3 (fun _ => decide (f.z = 0 ∧ f.i = false ∧ f.imm = 0)) (fun _ => [codeVff]) (fun _ => [cS f.rs.toNat])
    (fun k => [k.res (cS f.rs.toNat) k.x.vff.toNat 2])) ∧
  (∀ i f, Results (.vsetff i f) i 3 (fun _ => decide (f.z = 0 ∧ f.i = false ∧ f.imm = 0)) (fun _ => [cS f.rs.toNat]) (fun _ => [codeVff])
    (fun k => [k.res codeVff (k.s f.rs.toNat % 64) 2]))

/-- R145: mask operations act on all 64 bits; counts and searches look below vl. -/
def Sys2Proof.Claims.MaskResults : Prop :=
  VMask .vmand true true false (fun _ _ a b => a &&& b) ∧ VMask .vmor true true false (fun _ _ a b => a ||| b) ∧
  VMask .vmxor true true false (fun _ _ a b => a ^^^ b) ∧ VMask .vmandn true true false (fun _ _ a b => a &&& ~~~b) ∧
  VMask .vmnot true false false (fun _ _ a _ => ~~~a) ∧
  VMask .vmset false false false (fun k _ _ _ => BitVec.ofNat 64 (2 ^ k.vl - 1)) ∧ VMask .vmclr false false false (fun _ _ _ _ => 0) ∧
  VMask .vmfrs false false true (fun k f _ _ => word (k.s (f.rs.toNat + 1)) ++ word (k.s f.rs.toNat)) ∧
  VScal .vmpop (fun k f => ((List.range k.vl).filter (fun e => (k.vm f.ma.toNat).testBit e)).length) ∧
  VScal .vmfirst (fun k f => ((List.range k.vl).find? (fun e => (k.vm f.ma.toNat).testBit e)).getD 64) ∧
  (∀ i f, Results (.vmtos i f) i 3 (fun _ => decide (f.z = false ∧ f.md = 0 ∧ f.mb = 0 ∧ f.rs.toNat % 2 = 0)) (fun _ => [cVm f.ma.toNat])
    (fun _ => [cS f.rs.toNat, cS (f.rs.toNat + 1)])
    (fun k => [k.res (cS f.rs.toNat) (k.vm f.ma.toNat % 2 ^ 32) 2, k.res (cS (f.rs.toNat + 1)) (k.vm f.ma.toNat / 2 ^ 32 % 2 ^ 32) 2]))

/-- R144, R145: element moves, vector length, first-fault index and masks. -/
def Obligations.VectorMovesAndMasks : Prop :=
  Sys2Proof.Claims.VectorMoveResults ∧ Sys2Proof.Claims.MaskResults

namespace Sys2Proof.Claims
open Sys2Proof.Machine Sys2Proof.Safety

/-- A bundle that only adds results: no access, no loop, no exception, no return or end of the item. -/
structure PlainBundle (u : Bundle) : Prop where
  faults : u.faults = []
  ops : u.ops = []
  stores : u.stores = []
  rmt : u.rmt = []
  ccr : u.ccr = []
  bcp : u.bcp = []
  mtc : u.mtc = []
  bankWr : u.bankWr = []
  loop : u.loop = none
  fir : u.fir = false
  reti : u.reti = false
  done : u.done = none
  brk : u.brk = false

/-- A core with no active loop in its bank, no store to a control register under way, no `done` that waits, no single step. -/
structure PlainCore (d : Dev) (c : Nat) (x : Core) : Prop where
  lp0 : (bankOf x (levelOf d c)).lp0.active = false
  lp1 : (bankOf x (levelOf d c)).lp1.active = false
  ccr : x.ccr = []
  done : x.doneDue = none
  step : x.stepArm = false

/-- The core after such a bundle: counted, its results in flight or landed, and the transfer of R75 under way or taken. -/
def afterPlain (d : Dev) (c : Nat) (x : Core) (u : Bundle) : Core :=
  let bank := levelOf d c
  let n := (bankOf x bank).count + 1
  { landUpTo { setBank x bank { bankOf x bank with count := n } with flight := x.flight ++ u.res } bank n with
    bun := none, lpDue := none, fresh := false, bpSkip := false, acc := u.acc,
    pc := if x.dly = 1 ∧ x.dlyTaken = true then x.dlyTarget else u.next,
    dly := if 0 < x.dly then x.dly - 1 else if u.ct then 2 else 0,
    dlyTaken := if 0 < x.dly then x.dlyTaken else u.ct && u.taken,
    dlyTarget := if 0 < x.dly then x.dlyTarget else if u.ct then u.target else 0 }

/-- The device stands as `d` does but for core `c` and words of its control registers. -/
def OnlyCore (d t : Dev) (c : Nat) : Prop :=
  t.mem = d.mem ∧ t.syn = d.syn ∧ (∀ e, e ≠ c → coreOf t e = coreOf d e) ∧
  (∀ a, (a < ccr c 0 ∨ ccr c 0x1000 ≤ a) → rw t a = rw d a)

/-- The entry of core `c` to level `l` at vector `vec` with ECAUSE `cause` (R95). -/
def Entered (d t : Dev) (c l vec cause : Nat) : Prop :=
  (coreOf t c).pc = (rw d (ccr c 0x008) + vec) % 2 ^ 32 ∧ (coreOf t c).dly = 0 ∧
  (coreOf t c).banks = (coreOf d c).banks ∧ (coreOf t c).flight = (coreOf d c).flight ∧
  rw t (ccr c (lvlOff l 0x020)) = (coreOf d c).pc % 2 ^ 32 ∧
  bits (rw t (ccr c (lvlOff l 0x024))) 3 0 = bits (rw d (ccr c 0x004)) 3 0 ∧
  bits (rw t (ccr c (lvlOff l 0x024))) 5 4 = (coreOf d c).dly % 4 ∧
  rw t (ccr c (lvlOff l 0x02C)) = cause % 2 ^ 32 ∧
  levelOf t c = l ∧ rbit t (ccr c 0x004) 2 = false ∧ rbit t (ccr c 0x004) 3 = (rbit d (ccr c 0x004) 3 && decide (l = 1)) ∧
  rw t (ccr c 0x010) = rw d (ccr c 0x010)

end Sys2Proof.Claims

open Sys2Proof Sys2Proof.Machine Sys2Proof.Safety Sys2Proof.Claims

/-! ## Bundles, results and handlers -/

/-- R68, R97, R98: a register-only instruction that ends its bundle and names a slot or a destination that the bundle has already
makes the bundle fault with ILLEGAL_BUNDLE at that slot; no instruction of the bundle has any effect. -/
def Sys2Proof.Claims.SlotOrDestinationUsedTwiceIsIllegal : Prop :=
  ∀ (d : Dev) (i : Iss) (slot : Nat) (x : Core) (bun : Bundle) (legal : Bool) (reads dests : List Nat) (rs : List Inflight),
    i.eob = true → bun.faults = [] → bun.fir = false →
    (∀ r ∈ reads ++ dests ++ [cP i.pg.toNat], awaiting x (levelOf d i.core) (phys (ctxOf i d x bun).rrb r) = false) →
    (slot ∈ bun.slots ∨ ∃ r ∈ dests, r ∈ bun.dests) →
    joinBundle d i slot x bun (fun _ => Op.alu legal reads dests rs) =
      setCore d i.core { x with bun := none, fault := some ⟨2, slot, 0, 0, levelOf d i.core, 0, 0, false⟩ }

/-- R84: an instruction that uses a register awaiting a remote load, its guard included, changes nothing until the data land. -/
def Sys2Proof.Claims.AwaitedRegisterHoldsTheBundle : Prop :=
  ∀ (d : Dev) (i : Iss) (slot : Nat) (op : Ctx → Op) (bun : Bundle) (r : Nat),
    (coreOf d i.core).bun = some bun →
    r ∈ (op (ctxOf i d (coreOf d i.core) bun)).reads ++ (op (ctxOf i d (coreOf d i.core) bun)).dests ++ [cP i.pg.toNat] →
    awaiting (coreOf d i.core) (levelOf d i.core) (phys (ctxOf i d (coreOf d i.core) bun).rrb r) = true →
    issue i slot op d = d

/-- R66 to R71, R119: a core that holds no item, waits for an exception, or waits at a `reti`, a `done` or the end of a loop body
issues no instruction: every one of them changes nothing. -/
def Obligations.HeldCoreIssuesNothing : Prop :=
  ∀ (ins : Instr) (i : Iss) (d : Dev), issOf ins = some i → mayIssue d i.core (coreOf d i.core) = false → Does ins d d

/-- R69, R73: a result lands for the bundle that its latency gives, not before; of two results for one register the one that lands
later stays, and of two that land together the one issued later. -/
def Sys2Proof.Claims.ResultsLandInOrder : Prop :=
  (∀ (x : Core) (bank n : Nat) (r : Inflight), x.flight = [r] → r.bank = bank → r.code < 0x20 → r.val < 2 ^ 32 →
    (r.land ≤ n → bankRead (bankOf (landUpTo x bank n) bank) r.code = r.val ∧ (landUpTo x bank n).flight = []) ∧
    (n < r.land → landUpTo x bank n = x)) ∧
  (∀ (x : Core) (bank n : Nat) (r q : Inflight), x.flight = [r, q] → r.bank = bank → q.bank = bank → r.code = q.code →
    r.code < 0x20 → r.val < 2 ^ 32 → q.val < 2 ^ 32 → r.land ≤ n → q.land ≤ n →
    bankRead (bankOf (landUpTo x bank n) bank) r.code = if r.land ≤ q.land then q.val else r.val)

/-- R69, R70, R73, R75: a bundle of results commits: it is counted, its results land by the count of its own bank, and the pc goes
to the next bundle, or to the target after the second delay bundle of a taken transfer; nothing else changes but the
instruction counter. -/
def Obligations.PlainBundleCommits : Prop :=
  ∀ (d : Dev) (c : Nat) (x : Core) (u : Bundle), PlainBundle u → PlainCore d c x →
    coreOf (commit d c x u) c = afterPlain d c x u ∧ OnlyCore d (commit d c x u) c ∧
    rd64 (commit d c x u) (ccr c 0x068) = (rd64 d (ccr c 0x068) + 1) % 2 ^ 64 ∧
    (∀ a, a ≠ ccr c 0x068 → a ≠ ccr c 0x06C → rw (commit d c x u) a = rw d a)

/-- R125: an M-MAC instruction reads the result of the last M-MAC instruction still in flight for its accumulator; every other
reader reads the accumulator. -/
def Sys2Proof.Claims.AccumulatorInputIsForwarded : Prop :=
  (∀ (k : Ctx) (i : Nat) (older : List Inflight) (r : Inflight) (newer : List Inflight),
    k.x.flight = older ++ [r] ++ newer → r.mac = true → r.bank = k.bank → r.code = cAcc i →
    (∀ q ∈ newer, ¬(q.mac = true ∧ q.bank = k.bank ∧ q.code = cAcc i)) → k.accF i = (BitVec.ofNat 40 r.val).toInt) ∧
  (∀ (k : Ctx) (i : Nat), (∀ q ∈ k.x.flight, ¬(q.mac = true ∧ q.bank = k.bank ∧ q.code = cAcc i)) → k.accF i = k.acc i)

/-- R68, R69, R73, R84, R125: what makes a bundle fault or wait, when its results land, and which results are forwarded. -/
def Obligations.BundlesStallFaultAndLand : Prop :=
  Sys2Proof.Claims.SlotOrDestinationUsedTwiceIsIllegal ∧ Sys2Proof.Claims.AwaitedRegisterHoldsTheBundle ∧ Sys2Proof.Claims.ResultsLandInOrder ∧
  Sys2Proof.Claims.AccumulatorInputIsForwarded

/-- R133: the evaluation at the end of a loop body, for one loop of the bank: another pass goes to START with the count one less, a
drain pass of a rotating loop counts DRN down, and a loop with no pass left becomes inactive with count 0. A rotation steps
`rrb` and writes the new logical p4. -/
def Obligations.LoopBackEvaluatesTheLoop : Prop :=
  ∀ (d : Dev) (c : Nat) (q : LpDue), live d = true → (coreOf d c).lpDue = some q → q.l0 = true → q.l1 = false →
    let bank := levelOf d c
    let b := bankOf (coreOf d c) bank
    let lc := if 1 < q.lc0 then q.lc0 - 1 else 0
    let again := decide (1 < q.lc0) || (b.lp0.rot && decide (1 < b.lp0.drn))
    Does (.loopBack c) d (setCore d c
      { setBank (coreOf d c) bank
          (if again then
             let b1 := bankWrite { b with lp0 := { b.lp0 with drn := if 1 < q.lc0 then b.lp0.drn else b.lp0.drn - 1 } } 0x48 lc
             if b.lp0.rot then
               bankWrite (bankWrite b1 codeRrb ((q.rrb + 1) % 16)) (phys ((q.rrb + 1) % 16) (cP 4)) (if 0 < lc then 1 else 0)
             else b1
           else bankWrite { b with lp0 := { b.lp0 with active := false } } 0x48 0) with
        lpDue := none, pc := if again then b.lp0.start else (coreOf d c).pc })

/-- R89 to R91, R95: at a boundary the core enters the level of the interrupt that R90 chooses: the pc, the previous level and enables
and the cause are saved for that level, IE1 (and IE2 for level 2) become 0, and the pending bit stays. DEADLINE comes first below
level 2, whatever is enabled, and nothing interrupts level 2. -/
def Sys2Proof.Claims.InterruptEntrySavesAndVectors : Prop :=
  (∀ (d : Dev) (c l s : Nat), live d = true → mayIssue d c (coreOf d c) = true → atBoundary d c (coreOf d c) = true →
    chooseIrq d c = some (l, s) →
    DoesSome (.interruptEntry c) d (fun t => Entered d t c l (0x40 * s) (s * 2 ^ 8) ∧ OnlyCore d t c ∧ (l = 1 ∨ l = 2))) ∧
  (∀ (d : Dev) (c : Nat), levelOf d c < 2 → rbit d (ccr c 0x010) 0 = true → chooseIrq d c = some (2, 0)) ∧
  (∀ (d : Dev) (c : Nat), levelOf d c = 2 → chooseIrq d c = none)

/-- R97 to R99, R101: the precise exception that waits is taken at level 2 at VBASE + 0x800 with the address of its bundle, its code and
slot, and the branch still to take effect; at level 2 it is a double fault, and the core halts with every bank kept. -/
def Sys2Proof.Claims.PreciseExceptionEntersLevelTwo : Prop :=
  (∀ (d : Dev) (c code slot : Nat) (f : Flt), live d = true → corePresent d.grade c = true → (coreOf d c).running = true →
    (coreOf d c).fault = some f → levelOf d c ≠ 2 →
    DoesSome (.preciseException c code slot) d (fun t =>
      Entered d t c 2 0x800 (f.code + f.slot % 4 * 2 ^ 13 + f.elem % 64 * 2 ^ 16 + (if f.st then 2 ^ 22 else 0)) ∧
      (coreOf t c).fault = none ∧ OnlyCore d t c ∧
      ((f.code = 4 ∨ f.code = 5 ∨ f.code = 6 ∨ f.code = 7) → rw t (ccr c 0x040) = f.eaddr % 2 ^ 32))) ∧
  (∀ (d : Dev) (c code slot : Nat) (f : Flt), live d = true → corePresent d.grade c = true → (coreOf d c).running = true →
    (coreOf d c).fault = some f → levelOf d c = 2 → rbit d Reg.CPN_CTRL 2 = false →
    DoesSome (.preciseException c code slot) d (fun t =>
      (coreOf t c).running = false ∧ (coreOf t c).banks = (coreOf d c).banks ∧ rbit t (ccr c 0x004) 4 = true))

/-- R100: the earliest deferred exception of the running context is taken at a boundary, with DEFERRED = 1, the destination, and the
address that its code gives. -/
def Sys2Proof.Claims.DeferredExceptionEntersLevelTwo : Prop :=
  ∀ (d : Dev) (c : Nat) (f : Flt), live d = true → atBoundary d c (coreOf d c) = true → levelOf d c ≠ 2 →
    (coreOf d c).deferred.find? (fun f => decide (f.ctx = levelOf d c)) = some f →
    DoesSome (.deferredException c) d (fun t =>
      Entered d t c 2 0x800 (f.code + f.slot % 4 * 2 ^ 13 + 2 ^ 15 + f.elem % 64 * 2 ^ 16 + (if f.st then 2 ^ 22 else 0)
        + f.dreg % 256 * 2 ^ 24) ∧
      OnlyCore d t c ∧
      (f.code = 0x11 → rw t (ccr c 0x040) = f.eaddr % 2 ^ 32) ∧ (f.code = 0x10 → rd64 t (ccr c 0x048) = f.edaddr % 2 ^ 48))

/-- R96: a `reti` whose handler has nothing outstanding returns to EPC at the saved level with the saved enables, and re-arms a branch
that was still to take effect. -/
def Sys2Proof.Claims.ReturnRestoresTheContext : Prop :=
  ∀ (d : Dev) (c : Nat), live d = true → (coreOf d c).running = true → (coreOf d c).dly = 0 → (coreOf d c).bun = none →
    (coreOf d c).fault = none → (levelOf d c = 1 ∨ levelOf d c = 2) → (coreOf d c).retiDue = [levelOf d c] →
    (coreOf d c).rmt = [] → (coreOf d c).deferred = [] → (coreOf d c).ccr = [] → (coreOf d c).doneDue = none →
    bits (rw d (ccr c (lvlOff (levelOf d c) 0x024))) 1 0 ≠ 3 →
    DoesSome (.retiResume c) d (fun t =>
      let est := rw d (ccr c (lvlOff (levelOf d c) 0x024))
      (coreOf t c).pc = rw d (ccr c (lvlOff (levelOf d c) 0x020)) ∧ levelOf t c = bits est 1 0 ∧
      rbit t (ccr c 0x004) 2 = est.testBit 2 ∧ rbit t (ccr c 0x004) 3 = est.testBit 3 ∧
      (coreOf t c).dly = bits est 5 4 ∧ (0 < bits est 5 4 → (coreOf t c).dlyTaken = est.testBit 6 ∧
        (coreOf t c).dlyTarget = rw d (ccr c (lvlOff (levelOf d c) 0x028))) ∧
      (coreOf t c).retiDue = [] ∧ (coreOf t c).fresh = true ∧ OnlyCore d t c)

/-- R89, R90, R102: a write of CCR_IRQ_RAISE makes sources 8 to 23 pending and changes nothing else. -/
def Sys2Proof.Claims.RaisedCoreInterruptsBecomePending : Prop :=
  ∀ (d : Dev) (c : Nat) (v : Word), live d = true → corePresent d.grade c = true →
    DoesSome (.ccrIrqRaise c v) d (fun t =>
      t = ww d (ccr c 0x010) (rw d (ccr c 0x010) ||| (v.toNat &&& 0xFFFF00)) ∧
      ∀ s, rbit t (ccr c 0x010) s = (rbit d (ccr c 0x010) s || (decide (8 ≤ s ∧ s < 24) && v.toNat.testBit s)))

/-- R89 to R102: what entering a handler saves, where it goes, and what the return restores. -/
def Obligations.InterruptsExceptionsAndReturns : Prop :=
  Sys2Proof.Claims.InterruptEntrySavesAndVectors ∧ Sys2Proof.Claims.RaisedCoreInterruptsBecomePending ∧ Sys2Proof.Claims.PreciseExceptionEntersLevelTwo ∧
  Sys2Proof.Claims.DeferredExceptionEntersLevelTwo ∧ Sys2Proof.Claims.ReturnRestoresTheContext

namespace Sys2Proof.Claims
open Sys2Proof.Machine Sys2Proof.Safety

/-- A counter of 64 bits stands `n` higher. -/
def CountedBy (d t : Dev) (a n : Nat) : Prop := rd64 t a = (rd64 d a + n) % 2 ^ 64

/-- Slots reserved and not published. -/
def pendingSlots (ss : List QSlot) : Nat :=
  (ss.filter (fun s => match s with | .rsv _ _ => true | _ => false)).length

/-- An item of slot `id` is in state `st` and is the same item. -/
def ItemIn (d t : Dev) (id : Nat) (st : SlotSt) : Prop := (slotOf t id).st = st ∧ (slotOf t id).gen = (slotOf d id).gen

/-- The item of slot `id` is over: its slot is FREE, of the next generation, and keeps the last status (R176). -/
def ItemOver (d t : Dev) (id status : Nat) : Prop :=
  (slotOf t id).st = .free ∧ (slotOf t id).gen = ((slotOf d id).gen + 1) % 16 ∧ (slotOf t id).lastStat = status

end Sys2Proof.Claims

open Sys2Proof Sys2Proof.Machine Sys2Proof.Safety Sys2Proof.Claims

/-! ## Hardware queues -/

/-- R210, R211, R222: a create with every parameter valid makes the queue ACTIVE and empty in its present generation; a refused one
shows its cause and the queue, and leaves the queue DISABLED. A destroy discards what stands in the queue and drains it; when no
notification is owed it becomes DISABLED in the next generation. -/
def Sys2Proof.Claims.QueueCreateDestroyAndDisable : Prop :=
  (∀ (d : Dev) (q : Nat), live d = true → (qOf d q).st = 0 → createCause d q = 0 →
    Does (.queueCreate q) d (sbit (setQ d q ⟨1, (qOf d q).gen, 0, [], 0⟩) (Reg.QMG_QCFG q) 0)) ∧
  (∀ (d : Dev) (q : Nat), live d = true → (qOf d q).st = 0 → createCause d q ≠ 0 → q < 16384 →
    DoesSome (.queueCreate q) d (fun t => qOf t q = qOf d q ∧ rbit t Reg.QMG_STATUS 0 = true ∧
      fget t Reg.QMG_STATUS 15 8 = createCause d q ∧ fget t Reg.QMG_STATUS 29 16 = q ∧ rbit t (Reg.QMG_QCFG q) 0 = false)) ∧
  (∀ (d : Dev) (q : Nat), live d = true → (qOf d q).st = 1 → q < 16384 →
    DoesSome (.queueDestroy q) d (fun t =>
      qOf t q = ⟨2, (qOf d q).gen, (qOf d q).head, [], (qOf d q).owed⟩ ∧ rbit t (Reg.QMG_QCFG q) 0 = false ∧
      CountedBy d t Reg.QMG_CNT_DISCARD ((qOf d q).slots.filter (fun s => decide (s = .pub))).length ∧
      CountedBy d t Reg.QMG_CNT_VOID ((qOf d q).slots.filter (fun s => decide (s ≠ .pub))).length)) ∧
  (∀ (d : Dev) (q : Nat), live d = true → (qOf d q).st = 2 → (qOf d q).owed = 0 →
    Does (.queueDisabled q) d (setQ d q ⟨0, ((qOf d q).gen + 1) % 64, 0, [], 0⟩))

/-- R213, R222: a reservation of an ACTIVE queue in its generation, below 64 unpublished slots and below the software limit, is granted
the slot at TAIL; otherwise the first cause in the order of R213 is returned, and nothing but a counter changes. -/
def Sys2Proof.Claims.ReservationGrantsTheTail : Prop :=
  (∀ (d : Dev) (who : Who) (q : Nat), live d = true → (qOf d q).st = 1 → qType d q ≠ 3 →
    pendingSlots (qOf d q).slots < 64 → (qOf d q).slots.length < qLimit d q →
    Does (.qdbReserve who q (qOf d q).gen) d
      { cnt (setQ d q { qOf d q with slots := (qOf d q).slots ++ [.rsv who d.air.now] }) Reg.QMG_CNT_RESERVE 1 with
        answer := ((qOf d q).head + (qOf d q).slots.length) % qDepth d q + 2 ^ 16 + (qOf d q).gen * 2 ^ 20 }) ∧
  (∀ (d : Dev) (who : Who) (q g : Nat), live d = true → g ≠ (qOf d q).gen →
    Does (.qdbReserve who q g) d
      { cnt (cnt d (Reg.QDB_CNT_STALE q) 1) Reg.QMG_CNT_STALE 1 with answer := 2 * 2 ^ 17 + (qOf d q).gen * 2 ^ 20 }) ∧
  (∀ (d : Dev) (who : Who) (q : Nat), live d = true → (qOf d q).st ≠ 1 →
    Does (.qdbReserve who q (qOf d q).gen) d { d with answer := 3 * 2 ^ 17 + (qOf d q).gen * 2 ^ 20 }) ∧
  (∀ (d : Dev) (who : Who) (q : Nat), live d = true → (qOf d q).st = 1 → qType d q = 3 →
    Does (.qdbReserve who q (qOf d q).gen) d { d with answer := 4 * 2 ^ 17 + (qOf d q).gen * 2 ^ 20 }) ∧
  (∀ (d : Dev) (who : Who) (q : Nat), live d = true → (qOf d q).st = 1 → qType d q ≠ 3 → 64 ≤ pendingSlots (qOf d q).slots →
    Does (.qdbReserve who q (qOf d q).gen) d { d with answer := 5 * 2 ^ 17 + (qOf d q).gen * 2 ^ 20 }) ∧
  (∀ (d : Dev) (who : Who) (q : Nat), live d = true → (qOf d q).st = 1 → qType d q ≠ 3 → pendingSlots (qOf d q).slots < 64 →
    qLimit d q ≤ (qOf d q).slots.length →
    Does (.qdbReserve who q (qOf d q).gen) d
      { cnt (cnt d (Reg.QDB_CNT_FULL q) 1) Reg.QMG_CNT_FULL 1 with answer := 2 ^ 17 + (qOf d q).gen * 2 ^ 20 })

/-- R215, R216, R219, R222: the initiator that reserved a slot publishes or voids it; entries count as visible up to the first slot still
reserved, and void slots at HEAD go away. A publish by another initiator is a bad operation, one of another generation is stale. A
consumer frees visible entries from HEAD; a reservation that outlives the time-out becomes void. -/
def Sys2Proof.Claims.PublishAndConsumeMoveTheQueue : Prop :=
  (∀ (d : Dev) (who : Who) (q idx at_ : Nat) (vd : Bool), live d = true → (qOf d q).st = 1 → idx < qDepth d q →
    (qOf d q).slots[(idx + qDepth d q - (qOf d q).head) % qDepth d q]? = some (.rsv who at_) →
    DoesSome (.qdbPublish who q idx (qOf d q).gen vd) d (fun t =>
      let ss := (qOf d q).slots.set ((idx + qDepth d q - (qOf d q).head) % qDepth d q) (if vd then .void else .pub)
      (qOf t q).slots = ss.dropWhile (fun s => decide (s = .void)) ∧
      (qOf t q).head = ((qOf d q).head + (ss.takeWhile (fun s => decide (s = .void))).length) % qDepth d q ∧
      (qOf t q).owed = (qOf d q).owed + (visible ss - visible (qOf d q).slots) ∧
      CountedBy d t Reg.QMG_CNT_VOID (ss.takeWhile (fun s => decide (s = .void))).length)) ∧
  (∀ (d : Dev) (who w : Who) (q idx at_ : Nat) (vd : Bool), live d = true → (qOf d q).st = 1 → w ≠ who →
    (qOf d q).slots[(idx + qDepth d q - (qOf d q).head) % qDepth d q]? = some (.rsv w at_) →
    Does (.qdbPublish who q idx (qOf d q).gen vd) d (sbit (cnt d Reg.QMG_CNT_BADOP 1) Reg.QMG_STATUS 1)) ∧
  (∀ (d : Dev) (who : Who) (q idx g : Nat) (vd : Bool), live d = true → g ≠ (qOf d q).gen →
    Does (.qdbPublish who q idx g vd) d (cnt (cnt d (Reg.QDB_CNT_STALE q) 1) Reg.QMG_CNT_STALE 1)) ∧
  (∀ (d : Dev) (q n : Nat), live d = true → (qOf d q).st = 1 → (qType d q = 1 ∨ qType d q = 3 ∨ qType d q = 5) →
    n + 1 ≤ avail (qOf d q).slots →
    DoesSome (.qdbConsumed q n (qOf d q).gen) d (fun t =>
      (qOf t q).slots = ((qOf d q).slots.drop (n + 1)).dropWhile (fun s => decide (s = .void)) ∧
      (qOf t q).owed = (qOf d q).owed ∧ (qOf t q).gen = (qOf d q).gen ∧ t.mem = d.mem)) ∧
  (∀ (d : Dev), live d = true → fget d Reg.QMG_CTRL 15 0 ≠ 0 →
    Does .reservationTimeout d
      (voidIf d (fun _ at_ => decide (at_ * 1000 + fget d Reg.QMG_CTRL 15 0 * 1966080 ≤ d.air.now * 1000)))) ∧
  (∀ (d : Dev), live d = true → fget d Reg.QMG_CTRL 15 0 = 0 → Does .reservationTimeout d d)

/-- R210 to R222: the operations of software on a queue. -/
def Obligations.QueuesMoveTheirEntries : Prop :=
  Sys2Proof.Claims.QueueCreateDestroyAndDisable ∧ Sys2Proof.Claims.ReservationGrantsTheTail ∧ Sys2Proof.Claims.PublishAndConsumeMoveTheQueue

/-- R214, R220: the oldest record for a queue is entered at TAIL, padded with zeros, and becomes visible; a full queue holds it back. The
notification owed for entries made visible goes to the event, the core or the host vector that the queue names. -/
def Obligations.HardwareProducesAndNotifies : Prop :=
  (∀ (d : Dev) (q h : Nat) (bs : List Byte) (rest : List Note), live d = true → d.owed = .record h bs :: rest → h % 2 ^ 14 = q →
    h / 2 ^ 14 = (qOf d q).gen → (qOf d q).st = 1 → (qType d q = 1 ∨ qType d q = 3) → bs.length ≤ qEsz d q →
    (qOf d q).slots.length < qDepth d q → (∀ s ∈ (qOf d q).slots, s ≠ .void) →
    inMem d.grade (qBase d q + qTail d q * qEsz d q) (bs ++ List.replicate (qEsz d q - bs.length) 0).length = true →
    writeShut d.grade (qBase d q + qTail d q * qEsz d q) = false →
    DoesSome (.hwProduce q) d (fun t =>
      (qOf t q).slots = (qOf d q).slots ++ [.pub] ∧ (qOf t q).head = (qOf d q).head % qDepth d q ∧
      t.mem = (memPut d (qBase d q + qTail d q * qEsz d q) (bs ++ List.replicate (qEsz d q - bs.length) 0)).mem)) ∧
  (∀ (d : Dev) (q h : Nat) (bs : List Byte) (rest : List Note), live d = true → d.owed = .record h bs :: rest → h % 2 ^ 14 = q →
    h / 2 ^ 14 = (qOf d q).gen → (qOf d q).st = 1 → (qType d q = 1 ∨ qType d q = 3) → bs.length ≤ qEsz d q →
    qDepth d q ≤ (qOf d q).slots.length → Does (.hwProduce q) d (cnt d Reg.QMG_CNT_BPRESS 1)) ∧
  (∀ (d : Dev) (q : Nat), live d = true → (qOf d q).owed ≠ 0 →
    let n := (qOf d q).owed
    let e := setQ d q { qOf d q with owed := 0 }
    let w := rw d (Reg.QMG_QCFG q)
    (bits w 15 14 = 0 → Does (.queueNotify q) d e) ∧
    (bits w 15 14 = 1 → Does (.queueNotify q) d (tsyEvent e (bits w 31 16 % 4096) n)) ∧
    (bits w 15 14 = 2 → Does (.queueNotify q) d (raiseIrq e (bits w 31 16 % 256) (8 + bits (bits w 31 16) 10 8))) ∧
    (bits w 15 14 = 3 → Does (.queueNotify q) d (raiseVec e (bits w 31 16 % 64))))

/-! ## Tansy -/

/-- R184, R185: a signal to a waiting item counts down what it needs, and the item whose last signal comes becomes READY; one to a FREE
slot is kept for the item to come; one of another generation is stale; a surplus is counted. A signal of a count of 0 does nothing. -/
def Sys2Proof.Claims.SignalsReachItems : Prop :=
  (∀ (d : Dev) (v : Word), live d = true → bits v.toNat 31 24 = 0 → Does (.tsySignal v) d d) ∧
  (∀ (d : Dev) (v : Word), live d = true → bits v.toNat 31 24 ≠ 0 →
    (131072 ≤ refId (bits v.toNat 23 0) ∨ (slotOf d (refId (bits v.toNat 23 0))).gen ≠ refGen (bits v.toNat 23 0)) →
    Does (.tsySignal v) d (cnt d Reg.TSY_CNT_STALE 1)) ∧
  (∀ (d : Dev) (v : Word) (id : Nat), live d = true → bits v.toNat 31 24 ≠ 0 → id = refId (bits v.toNat 23 0) → id < 131072 →
    (slotOf d id).gen = refGen (bits v.toNat 23 0) → (slotOf d id).st = .free →
    Does (.tsySignal v) d (setSlot d id { slotOf d id with dep := min 65535 ((slotOf d id).dep + bits v.toNat 31 24) })) ∧
  (∀ (d : Dev) (v : Word) (id : Nat), live d = true → bits v.toNat 31 24 ≠ 0 → id = refId (bits v.toNat 23 0) → id < 131072 →
    (slotOf d id).gen = refGen (bits v.toNat 23 0) → (slotOf d id).st = .blocked → (slotOf d id).released = true →
    bits v.toNat 31 24 < (slotOf d id).dep →
    DoesSome (.tsySignal v) d (fun t => ItemIn d t id .blocked ∧ (slotOf t id).dep = (slotOf d id).dep - bits v.toNat 31 24)) ∧
  (∀ (d : Dev) (v : Word) (id : Nat), live d = true → bits v.toNat 31 24 ≠ 0 → id = refId (bits v.toNat 23 0) → id < 131072 →
    (slotOf d id).gen = refGen (bits v.toNat 23 0) → (slotOf d id).st = .blocked → (slotOf d id).released = true →
    (slotOf d id).dep ≤ bits v.toNat 31 24 → (slotOf d id).d.wait = false → (slotOf d id).failedIn = false →
    DoesSome (.tsySignal v) d (fun t => ItemIn d t id .ready ∧ (slotOf t id).dep = 0 ∧
      CountedBy d t Reg.TSY_CNT_SURPLUS (bits v.toNat 31 24 - (slotOf d id).dep))) ∧
  (∀ (d : Dev) (i c : Nat) (f : Bool) (rest : List Note), live d = true → d.owed = .signal i c f :: rest →
    Does .signal d (tsySignal { d with owed := rest } i c f))

/-- R186: raising an event adds to its count modulo 2^16, and an item that waits for a count that is reached becomes READY; a wait that
times out first shows TIMEOUT and goes on. -/
def Sys2Proof.Claims.EventsAndTimeoutsEndWaits : Prop :=
  (∀ (d : Dev) (v : Word), live d = true → (∀ x ∈ d.tsy.slots, ¬(x.2.st = .waiting ∧ x.2.d.event = bits v.toNat 11 0)) →
    Does (.tsyEventRaise v) d (fset d (Reg.TSY_EVENT_CNT (bits v.toNat 11 0)) 15 0
      ((fget d (Reg.TSY_EVENT_CNT (bits v.toNat 11 0)) 15 0 + bits v.toNat 31 16) % 2 ^ 16))) ∧
  (∀ (d : Dev) (v : Word) (id : Nat) (s : Slot), live d = true → d.tsy.slots = [(id, s)] → s.st = .waiting →
    s.d.event = bits v.toNat 11 0 → s.released = true → s.dep = 0 → s.failedIn = false →
    ((fget d (Reg.TSY_EVENT_CNT (bits v.toNat 11 0)) 15 0 + bits v.toNat 31 16) % 2 ^ 16 + 2 ^ 16 - s.d.target) % 2 ^ 16 < 2 ^ 15 →
    DoesSome (.tsyEventRaise v) d (fun t => ItemIn d t id .ready)) ∧
  (∀ (d : Dev) (e c : Nat) (rest : List Note), live d = true → d.owed = .event e c :: rest →
    Does .eventRaise d (tsyEvent { d with owed := rest } e c)) ∧
  (∀ (d : Dev) (id at_ : Nat), live d = true → (slotOf d id).tmoAt = some at_ → at_ ≤ d.air.now → (slotOf d id).st = .waiting →
    (slotOf d id).d.wait = true → (slotOf d id).timeout = false → (slotOf d id).waitDone = false → (slotOf d id).released = true →
    (slotOf d id).dep = 0 → (slotOf d id).failedIn = false → eventReached d (slotOf d id).d = false →
    DoesSome (.waitTimeout id) d (fun t => ItemIn d t id .ready ∧ (slotOf t id).timeout = true ∧ CountedBy d t Reg.TSY_CNT_TIMEOUT 1))

/-- R184 to R186: signals, events and wait time-outs. -/
def Obligations.SignalsAndEventsReachItems : Prop :=
  Sys2Proof.Claims.SignalsReachItems ∧ Sys2Proof.Claims.EventsAndTimeoutsEndWaits

/-- R178 to R183: the next descriptor of the WORK queues is accepted into its FREE slot, or refused with the first cause of R179; an item
that waits for nothing is READY at once. The first item whose release tick has come is released. -/
def Sys2Proof.Claims.DescriptorsAreAcceptedAndReleased : Prop :=
  (∀ (d e : Dev) (q : Nat) (bs : List Byte), live d = true → tsyRuns d = true → nextWork d = some q → hwTake d q = (e, .entry bs) →
    refuseCause { e with tsy := { e.tsy with rot := q + 1 } } (parseDesc bs) = 0 →
    (parseDesc bs).rel = false → (parseDesc bs).dep = 0 → (parseDesc bs).wait = false → (slotOf e (parseDesc bs).id).preFail = false →
    DoesSome .descriptorAccept d (fun t => ItemIn e t (parseDesc bs).id .ready ∧ (slotOf t (parseDesc bs).id).d = parseDesc bs ∧
      (slotOf t (parseDesc bs).id).runs = 0 ∧ CountedBy e t Reg.TSY_CNT_SUBMIT 1)) ∧
  (∀ (d e : Dev) (q c : Nat) (bs : List Byte), live d = true → tsyRuns d = true → nextWork d = some q → hwTake d q = (e, .entry bs) →
    refuseCause { e with tsy := { e.tsy with rot := q + 1 } } (parseDesc bs) = c → c ≠ 0 →
    DoesSome .descriptorAccept d (fun t => fget t Reg.TSY_STATUS 15 8 = c ∧ CountedBy e t Reg.TSY_CNT_REFUSED 1 ∧
      t.tsy.slots = e.tsy.slots)) ∧
  (∀ (d : Dev) (id : Nat), live d = true → firstDelayed d = some (id, slotOf d id) → (slotOf d id).st = .delayed →
    (slotOf d id).relTick * 64 ≤ d.air.now → (slotOf d id).dep = 0 → (slotOf d id).d.wait = false → (slotOf d id).failedIn = false →
    DoesSome .release d (fun t => ItemIn d t id .ready ∧ (slotOf t id).released = true))

/-- R187 to R190, R196: dispatch starts the READY item that R188 chooses on its core, at its entry with its arguments in s0 to s5 at level 0;
a deadline that passes raises DEADLINE on the item's core. -/
def Sys2Proof.Claims.DispatchStartsTheItem : Prop :=
  (∀ (d : Dev) (id c : Nat) (s : Slot), live d = true → tsyRuns d = true → nextItem d = some (id, s, c) →
    DoesSome .dispatch d (fun t => ItemIn d t id .running ∧ (slotOf t id).core = c ∧ (slotOf t id).runs = (slotOf d id).runs + 1 ∧
      (tcoreOf t c).st = 1 ∧ (tcoreOf t c).item = itemRef id (slotOf d id).gen ∧
      (coreOf t c).running = true ∧ (coreOf t c).pc = (slotOf d id).d.entry ∧ (coreOf t c).vl = 16 ∧ levelOf t c = 0 ∧
      bankRead (bankOf (coreOf t c) 0) 0 = (slotOf d id).d.arg % 2 ^ 32 ∧
      bankRead (bankOf (coreOf t c) 0) 1 = (slotOf d id).d.arg / 2 ^ 32 % 2 ^ 32 ∧
      bankRead (bankOf (coreOf t c) 0) 2 = (slotOf d id).d.argi % 2 ^ 32 ∧
      bankRead (bankOf (coreOf t c) 0) 4 = itemRef id (slotOf d id).gen % 2 ^ 32)) ∧
  (∀ (d : Dev) (id : Nat), live d = true → (slotOf d id).st = .running → (slotOf d id).dlRaised = none → (slotOf d id).rc = false →
    (slotOf d id).d.dl = true → (slotOf d id).dlTick * 64 ≤ d.air.now →
    Does (.deadline id) d (cnt (sbit (setSlot d id { slotOf d id with dlRaised := some d.air.now }) (ccr (slotOf d id).core 0x010) 0)
      Reg.TSY_CNT_DLMISS 1))

/-- R178 to R190, R196: from a descriptor to a running item. -/
def Obligations.ItemsAreAcceptedAndDispatched : Prop :=
  Sys2Proof.Claims.DescriptorsAreAcceptedAndReleased ∧ Sys2Proof.Claims.DispatchStartsTheItem

/-- R191 to R193: the report of `done` frees the core, ends an item without LIN with its status, signals its successors and sends its
record; statuses 0xF8 and above are Tansy's own and read 0x80 from a program. -/
def Obligations.DoneReportEndsTheItem : Prop :=
  ∀ (d : Dev) (c st id : Nat) (rest : List Report), live d = true → d.tsy.reports = .done c st :: rest → (tcoreOf d c).st = 1 →
    refId (tcoreOf d c).item = id → refGen (tcoreOf d c).item = (slotOf d id).gen → (slotOf d id).st = .running →
    (slotOf d id).core = c → (slotOf d id).rc = false → (slotOf d id).d.lin = false → st ≠ 0x81 →
    DoesSome .doneReport d (fun t => ItemOver d t id (if 0xF8 ≤ st then 0x80 else st) ∧ (tcoreOf t c).st = 0 ∧
      CountedBy d t Reg.TSY_CNT_COMPLETE 1 ∧
      (∀ r ∈ succs (slotOf d id).d, .signal r 1 (decide (0x80 ≤ (if 0xF8 ≤ st then 0x80 else st))) ∈ t.owed))

/-- R194, R195: a cancel ends an item that has not started with 0xF9 and sends a message to one that runs; a message sets the core's
message register and source 5; either is stale for another generation. -/
def Sys2Proof.Claims.CancelAndMessageReachTheItem : Prop :=
  (∀ (d : Dev) (v : Word) (id : Nat), live d = true → id = refId (bits v.toNat 23 0) → id < 131072 →
    (slotOf d id).gen = refGen (bits v.toNat 23 0) →
    ((slotOf d id).st = .delayed ∨ (slotOf d id).st = .blocked ∨ (slotOf d id).st = .waiting ∨
      ((slotOf d id).st = .ready ∧ (slotOf d id).rc = false)) →
    DoesSome (.tsyCancel v) d (fun t => ItemOver d t id 0xF9 ∧ CountedBy d t Reg.TSY_CNT_COMPLETE 1)) ∧
  (∀ (d : Dev) (v : Word) (id : Nat), live d = true → id = refId (bits v.toNat 23 0) → id < 131072 →
    (slotOf d id).gen = refGen (bits v.toNat 23 0) → (slotOf d id).st = .running →
    Does (.tsyCancel v) d (sbit (ww d (Reg.TSY_CORE_MSG (slotOf d id).core) 0xFFFFFFFF) (ccr (slotOf d id).core 0x010) 5)) ∧
  (∀ (d : Dev) (v : Word), live d = true →
    (slotOf d (refId (bits v.toNat 23 0))).gen ≠ refGen (bits v.toNat 23 0) → Does (.tsyCancel v) d (cnt d Reg.TSY_CNT_STALE 1)) ∧
  (∀ (d : Dev) (v : BitVec 64) (id : Nat), live d = true → id = refId (bits v.toNat 23 0) →
    (slotOf d id).gen = refGen (bits v.toNat 23 0) → (slotOf d id).st = .running →
    Does (.tsyMsg v) d (sbit (ww d (Reg.TSY_CORE_MSG (slotOf d id).core) (v.toNat / 2 ^ 32)) (ccr (slotOf d id).core 0x010) 5)) ∧
  (∀ (d : Dev) (v : BitVec 64), live d = true → (slotOf d (refId (bits v.toNat 23 0))).st ≠ .running →
    Does (.tsyMsg v) d (cnt d Reg.TSY_CNT_STALE 1))

/-- R197, R198: when the grace after DEADLINE has passed Tansy resets the core and ends the item; a halted core returns to dispatch
through a core reset, on request or when its hold ends. -/
def Sys2Proof.Claims.KilledAndHaltedCoresAreReset : Prop :=
  (∀ (d : Dev) (id at_ : Nat), live d = true → (slotOf d id).dlRaised = some at_ → (slotOf d id).st = .running →
    at_ + fget d Reg.TSY_WDOG_GRACE 23 0 * 64 ≤ d.air.now → rbit d (Reg.CPN_DBG_CTL (slotOf d id).core) 0 = false →
    DoesSome (.watchdogKill id) d (fun t => coreOf t (slotOf d id).core = Core.reset ∧ (tcoreOf t (slotOf d id).core).st = 0 ∧
      rbit t Reg.TSY_STATUS 4 = true)) ∧
  (∀ (d : Dev) (c : Nat), live d = true → (tcoreOf d c).st = 2 →
    DoesSome (.resume c) d (fun t => coreOf t c = Core.reset ∧ (tcoreOf t c).st = 0 ∧ t.tsy.slots = d.tsy.slots)) ∧
  (∀ (d : Dev) (c : Nat), live d = true → (tcoreOf d c).st = 2 → (tcoreOf d c).holdEnd ≤ d.air.now →
    DoesSome (.haltHoldExpiry c) d (fun t => coreOf t c = Core.reset ∧ (tcoreOf t c).st = 0)) ∧
  (∀ (d : Dev) (c : Nat), live d = true → (tcoreOf d c).st = 2 → d.air.now < (tcoreOf d c).holdEnd → Does (.haltHoldExpiry c) d d)

/-- R194, R195, R197, R198: cancels, messages, kills and halted cores. -/
def Obligations.ItemsAreCancelledAndCoresReset : Prop :=
  Sys2Proof.Claims.CancelAndMessageReachTheItem ∧ Sys2Proof.Claims.KilledAndHaltedCoresAreReset

/-- R199 to R202: a release counts one outside consumer of a retained item; a failing line of a retained output makes its producer READY
once more when there is time, and without a producer the line is poisoned. -/
def Obligations.RetentionAndRecompute : Prop :=
  (∀ (d : Dev) (v : Word) (id : Nat), live d = true → id = refId (bits v.toNat 23 0) →
    (slotOf d id).gen = refGen (bits v.toNat 23 0) → (slotOf d id).st = .running → (slotOf d id).d.lin = true →
    (slotOf d id).consDone < (slotOf d id).d.ncons →
    DoesSome (.tsyRelease v) d (fun t => ItemIn d t id .running ∧ (slotOf t id).consDone = (slotOf d id).consDone + 1)) ∧
  (∀ (d : Dev) (v : Word), live d = true → (slotOf d (refId (bits v.toNat 23 0))).d.lin = false →
    Does (.tsyRelease v) d (cnt d Reg.TSY_CNT_STALE 1)) ∧
  (∀ (d : Dev) (line : Nat) (scrub : Bool) (rest : List Report), live d = true → d.tsy.reports = .lineage line scrub :: rest →
    d.integ.pass.running = false → retainedOwner d line = none →
    DoesSome .lineageReport d (fun t => synOf t line = POISON ∧ t.mem = d.mem ∧ CountedBy d t Reg.MEM_CNT_POISON 1)) ∧
  (∀ (d : Dev) (line id : Nat) (scrub : Bool) (rest : List Report), live d = true → d.tsy.reports = .lineage line scrub :: rest →
    d.integ.pass.running = false → retainedOwner d line = some id → (slotOf d id).rc = false → succs (slotOf d id).d = [] →
    (slotOf d id).reruns < fget d Reg.TSY_CTRL 9 8 → d.integ.recs.length < 1024 →
    DoesSome .lineageReport d (fun t => ItemIn d t id .ready ∧ (slotOf t id).rerun = true ∧ (slotOf t id).rc = true ∧
      (slotOf t id).reruns = (slotOf d id).reruns + 1 ∧ t.integ.recs = d.integ.recs ++ [⟨line, id, 0⟩] ∧
      CountedBy d t Reg.TSY_CNT_RECOMP 1))

namespace Sys2Proof.Claims
open Sys2Proof.Machine Sys2Proof.Safety

/-- The commands of R162 by their rows, with their codes. -/
def bcpRows : List ((Nat → Instr) × Nat) :=
  [(Instr.ginit, 0x01), (Instr.gseq, 0x02), (Instr.gxor, 0x03), (Instr.crcu, 0x04), (Instr.gxorm, 0x10), (Instr.crcm, 0x11),
   (Instr.bilv, 0x12), (Instr.rmsel, 0x13), (Instr.rmrev, 0x14), (Instr.pack, 0x15), (Instr.stclr, 0x20), (Instr.cpsave, 0x21),
   (Instr.cprst, 0x22)]

/-- Command `k`, of code `code`, is at the head of the queue of core `c`, has not begun, and is not discarded. -/
def AtHead (d : Dev) (c code : Nat) (k : BcpCmd) (ks : List BcpCmd) : Prop :=
  live d = true ∧ (coreOf d c).bcp.queue = k :: ks ∧ bits k.w 7 0 = code ∧ k.begun = false ∧ bcpDiscards (coreOf d c) k = false

/-- The head command has begun, with the outcome `r` that waits for its completion. -/
def begun (r : BcpRun) (c : Nat) (x : Core) (k : BcpCmd) (ks : List BcpCmd) : Dev :=
  setCore r.d c { x with bcp := { x.bcp with
    queue := { k with begun := true, res := r.res, err := r.err, eaddr := r.eaddr, rst := r.rst } :: ks } }

/-- The command ran without error on a source whose lines all read good, leaving the device `e` before it wrote. -/
def Moves (d e : Dev) (c : Nat) (k : BcpCmd) (nsrc ndst : Nat) (inPlace : Bool) : Prop :=
  bcpFieldsOk k = true ∧ moveErr k.arg0 nsrc k.arg1 ndst inPlace = none ∧ scanLdm d c k.arg0 nsrc = (e, none)

/-- No line of a range waits for the host. -/
def Free (d : Dev) (a n : Nat) : Prop := ∀ la ∈ linesOf a n, cohHeld d la = false ∧ ∀ r ∈ d.integ.refs, r.dst ≠ la

end Sys2Proof.Claims

open Sys2Proof Sys2Proof.Machine Sys2Proof.Safety Sys2Proof.Claims

/-! ## Bit coprocessor -/

/-- R161, R162, R168, R169: the command at the head of the queue runs with the outcome of its checks and its work; the results of
GINIT, GSEQ, GXOR, CRCU, CRCM and STCLR are those of R162. -/
def Sys2Proof.Claims.BcpCommandsRun : Prop :=
  (∀ e ∈ bcpRows, ∀ (d : Dev) (c : Nat) (k : BcpCmd) (ks : List BcpCmd), AtHead d c e.2 k ks →
    Does (e.1 c) d (begun (bcpRun d c (coreOf d c) k) c (coreOf d c) k ks)) ∧
  (∀ (d : Dev) (c : Nat) (x : Core) (k : BcpCmd), bcpKnown (bits k.w 7 0) = true → bcpFieldsOk k = false →
    bcpRun d c x k = .bad d 0x02 0x00F00000) ∧
  (∀ (d : Dev) (c : Nat) (x : Core) (k : BcpCmd), bits k.w 7 0 = 0x01 → bcpFieldsOk k = true →
    bcpRun d c x k = .ok d [(bCD k.w, packGold (goldSkip (1600 + k.arg1) (1, k.arg0)) k.arg1)]) ∧
  (∀ (d : Dev) (c : Nat) (x : Core) (k : BcpCmd), bits k.w 7 0 = 0x02 → bcpFieldsOk k = true →
    bcpRun d c x k = .ok d [(bCD k.w, ofBits (goldTake (cReg x (bCS k.w)) 128).1), (bCS k.w, (goldTake (cReg x (bCS k.w)) 128).2)]) ∧
  (∀ (d : Dev) (c : Nat) (x : Core) (k : BcpCmd), bits k.w 7 0 = 0x03 → bcpFieldsOk k = true →
    ∃ v, bcpRun d c x k = .ok d [(bCD k.w, v), (bCS k.w, (goldTake (cReg x (bCS k.w)) (bN k.w)).2)] ∧
      ∀ i, v.testBit i = xor ((cReg x (bCA k.w)).testBit i)
        (decide (i < bN k.w) && (goldTake (cReg x (bCS k.w)) (bN k.w)).1.getD i false)) ∧
  (∀ (d : Dev) (c : Nat) (x : Core) (k : BcpCmd), bits k.w 7 0 = 0x04 → bcpFieldsOk k = true →
    bcpRun d c x k = .ok d [(bCD k.w, crcState (bSEL k.w) (cReg x (bCD k.w))
      ((List.range (bN k.w)).map (fun i => (cReg x (bCA k.w)).testBit i)))]) ∧
  (∀ (d e : Dev) (c : Nat) (x : Core) (k : BcpCmd), bits k.w 7 0 = 0x11 → bcpFieldsOk k = true →
    k.arg0 + ceilDiv k.arg2 8 ≤ 0x40000 → scanLdm d c k.arg0 (ceilDiv k.arg2 8) = (e, none) →
    bcpRun d c x k = .ok e [(bCD k.w, crcState (bSEL k.w) (cReg x (bCD k.w)) ((List.range k.arg2).map (ldmBit e c k.arg0)))]) ∧
  (∀ (d : Dev) (c : Nat) (x : Core) (k : BcpCmd), bits k.w 7 0 = 0x20 → bcpFieldsOk k = true → bcpRun d c x k = .ok d [])

/-- R165, R166, R167: what GXORM, BILV, RMSEL, RMREV and PACK leave at the destination, element by element, when their checks pass,
their source reads good, and the host holds no destination line. -/
def Obligations.BcpStreamsHoldTheirResults : Prop :=
  (∀ (d e : Dev) (c : Nat) (x : Core) (k : BcpCmd) (p : Nat), bits k.w 7 0 = 0x10 → bSEL k.w = 0 →
    Moves d e c k (ceilDiv k.arg2 8) (ceilDiv k.arg2 8) true → Free e (ldmBase c + k.arg1) (ceilDiv k.arg2 8) → p < k.arg2 →
    (bcpRun d c x k).err = 0 ∧ ldmBit (bcpRun d c x k).d c k.arg1 p =
      xor (ldmBit e c k.arg0 p) ((goldTake (cReg x (bCS k.w)) k.arg2).1.getD p false)) ∧
  (∀ (d e : Dev) (c : Nat) (x : Core) (k : BcpCmd) (p : Nat), bits k.w 7 0 = 0x10 → bSEL k.w = 1 → Moves d e c k k.arg2 k.arg2 true →
    Free e (ldmBase c + k.arg1) k.arg2 → p < k.arg2 →
    (bcpRun d c x k).err = 0 ∧ ldmByte (bcpRun d c x k).d c k.arg1 p =
      soft (if (goldTake (cReg x (bCS k.w)) k.arg2).1.getD p false then - sx 8 (ldmByte e c k.arg0 p) else sx 8 (ldmByte e c k.arg0 p))) ∧
  (∀ (d e : Dev) (c : Nat) (x : Core) (k : BcpCmd) (i j : Nat), bits k.w 7 0 = 0x12 → bSEL k.w = 0 →
    Moves d e c k (ceilDiv k.arg2 8) (ceilDiv k.arg2 8) false → Free e (ldmBase c + k.arg1) (ceilDiv k.arg2 8) →
    i < k.arg3 → j < k.arg2 / k.arg3 →
    (bcpRun d c x k).err = 0 ∧
    ldmBit (bcpRun d c x k).d c k.arg1 (i + j * k.arg3) = ldmBit e c k.arg0 (i * (k.arg2 / k.arg3) + j)) ∧
  (∀ (d e : Dev) (c : Nat) (x : Core) (k : BcpCmd) (i j : Nat), bits k.w 7 0 = 0x12 → bSEL k.w = 3 →
    Moves d e c k k.arg2 k.arg2 false → Free e (ldmBase c + k.arg1) k.arg2 → i < k.arg3 → j < k.arg2 / k.arg3 →
    (bcpRun d c x k).err = 0 ∧
    ldmByte (bcpRun d c x k).d c k.arg1 (i * (k.arg2 / k.arg3) + j) = ldmByte e c k.arg0 (i + j * k.arg3)) ∧
  (∀ (d e f : Dev) (c : Nat) (x : Core) (k : BcpCmd) (ncb k0 en fs fl p : Nat), bits k.w 7 0 = 0x13 → bcpFieldsOk k = true →
    k.arg2 + 16 ≤ 0x40000 → k.arg2 % 16 = 0 → scanLdm d c k.arg2 16 = (e, none) →
    rmRecord (getBytes e.mem (ldmBase c + k.arg2) 16) = ((ncb, k0, en, fs, fl), true) →
    moveErr k.arg0 (ceilDiv ncb 8) k.arg1 (ceilDiv en 8) false = none → scanLdm e c k.arg0 (ceilDiv ncb 8) = (f, none) →
    Free f (ldmBase c + k.arg1) (ceilDiv en 8) → p < en →
    (bcpRun d c x k).err = 0 ∧ ldmBit (bcpRun d c x k).d c k.arg1 p =
      ldmBit f c k.arg0 ((rmPositions ncb k0 fs fl).getD (p % (ncb - fl)) 0)) ∧
  (∀ (d e f : Dev) (c : Nat) (x : Core) (k : BcpCmd) (ncb k0 en fs fl p : Nat), bits k.w 7 0 = 0x14 → bcpFieldsOk k = true →
    k.arg2 + 16 ≤ 0x40000 → k.arg2 % 16 = 0 → scanLdm d c k.arg2 16 = (e, none) →
    rmRecord (getBytes e.mem (ldmBase c + k.arg2) 16) = ((ncb, k0, en, fs, fl), true) →
    moveErr k.arg0 en k.arg1 ncb false = none → scanLdm e c k.arg0 en = (f, none) → Free f (ldmBase c + k.arg1) ncb → p < ncb →
    (bcpRun d c x k).err = 0 ∧ ldmByte (bcpRun d c x k).d c k.arg1 p =
      if fs ≤ p ∧ p < fs + fl then 127
      else soft (((List.range en).filter (fun i => decide ((rmPositions ncb k0 fs fl).getD (i % (ncb - fl)) 0 = p))).map
        (fun i => sx 8 (ldmByte f c k.arg0 i))).sum) ∧
  (∀ (d e : Dev) (c : Nat) (x : Core) (k : BcpCmd) (p : Nat), bits k.w 7 0 = 0x15 → bSEL k.w = 0 → Moves d e c k k.arg2 k.arg2 true →
    Free e (ldmBase c + k.arg1) k.arg2 → p < k.arg2 →
    (bcpRun d c x k).err = 0 ∧ ldmByte (bcpRun d c x k).d c k.arg1 p = revBits 8 (ldmByte e c k.arg0 p)) ∧
  (∀ (d e : Dev) (c : Nat) (x : Core) (k : BcpCmd) (p : Nat), bits k.w 7 0 = 0x15 → bSEL k.w = 1 →
    Moves d e c k (ceilDiv k.arg2 8) k.arg2 false → Free e (ldmBase c + k.arg1) k.arg2 → p < k.arg2 →
    (bcpRun d c x k).err = 0 ∧ sx 8 (ldmByte (bcpRun d c x k).d c k.arg1 p) = if ldmBit e c k.arg0 p then -127 else 127) ∧
  (∀ (d e : Dev) (c : Nat) (x : Core) (k : BcpCmd) (p : Nat), bits k.w 7 0 = 0x15 → bSEL k.w = 2 →
    Moves d e c k k.arg2 (ceilDiv k.arg2 8) false → Free e (ldmBase c + k.arg1) (ceilDiv k.arg2 8) → p < k.arg2 →
    (bcpRun d c x k).err = 0 ∧ ldmBit (bcpRun d c x k).d c k.arg1 p = decide (sx 8 (ldmByte e c k.arg0 p) < 0))

/-- R162, R168, R169, R173: a command that ends without error writes its results and counts in DONE; STCLR and CPSAVE clear ERR;
an error sets ERR and ERRCMD when ERR was 0 and raises BCP_FAULT for the context that issued the command; CPRST sets ARG and ERR. -/
def Sys2Proof.Claims.BcpCompletionShowsItsOutcome : Prop :=
  (∀ (d : Dev) (c : Nat) (k : BcpCmd) (ks : List BcpCmd), live d = true → (coreOf d c).bcp.queue = k :: ks → k.begun = true →
    (coreOf d c).doneDue = none →
    Does (.bcpCommandComplete c) d (setCore d c (bcpDrop
      (if k.err = 0 then bcpFinish (coreOf d c) k else bcpFail (coreOf d c) k k.err k.eaddr) k))) ∧
  (∀ (d : Dev) (c : Nat) (k : BcpCmd) (ks : List BcpCmd), live d = true → (coreOf d c).bcp.queue = k :: ks → k.begun = false →
    bcpDiscards (coreOf d c) k = false → bcpKnown (bits k.w 7 0) = false → (coreOf d c).doneDue = none →
    Does (.bcpCommandComplete c) d (setCore d c (bcpDrop (bcpFail (coreOf d c) k 0x01 0x00F00000) k))) ∧
  (∀ (x : Core) (k : BcpCmd), (bcpFinish x k).bcp.done = x.bcp.done + 1 ∧ (bcpFinish x k).deferred = x.deferred ∧
    (bcpFinish x k).banks = x.banks ∧ (bcpFinish x k).v = x.v) ∧
  (∀ (x : Core) (k : BcpCmd), (bits k.w 7 0 = 0x20 ∨ bits k.w 7 0 = 0x21) → k.rst = none →
    (bcpFinish x k).bcp.err = 0 ∧ (bcpFinish x k).bcp.errcmd = 0) ∧
  (∀ (x : Core) (k : BcpCmd) (v i : Nat), k.res = [(i, v)] → cReg (bcpFinish x k) i = v % 2 ^ 128) ∧
  (∀ (x : Core) (k : BcpCmd) (err ea : Nat), (bcpFail x k err ea).bcp.done = x.bcp.done ∧ (bcpFail x k err ea).c = x.c ∧
    (bcpFail x k err ea).deferred = x.deferred ++ [⟨0x12, 0, 0, ea, k.ctx, bcpDreg k.w, 0, false⟩] ∧
    (x.bcp.err = 0 → (bcpFail x k err ea).bcp.err = BitVec.ofNat 8 err ∧ (bcpFail x k err ea).bcp.errcmd = BitVec.ofNat 8 k.w) ∧
    (x.bcp.err ≠ 0 → (bcpFail x k err ea).bcp.err = x.bcp.err ∧ (bcpFail x k err ea).bcp.errcmd = x.bcp.errcmd)) ∧
  (∀ (x : Core) (k : BcpCmd) (a0 a1 a2 a3 e ec : Nat), k.rst = some [a0, a1, a2, a3, e, ec] →
    (bcpFinish x k).bcp.arg0 = word a0 ∧ (bcpFinish x k).bcp.arg1 = word a1 ∧ (bcpFinish x k).bcp.arg2 = word a2 ∧
    (bcpFinish x k).bcp.arg3 = BitVec.ofNat 16 a3 ∧ (bcpFinish x k).bcp.err = BitVec.ofNat 8 e ∧
    (bcpFinish x k).bcp.errcmd = BitVec.ofNat 8 ec)

/-- R161, R162, R168, R169, R173: a command of the bit coprocessor from the head of its queue to its completion. -/
def Obligations.BcpCommandsRunAndComplete : Prop :=
  Sys2Proof.Claims.BcpCommandsRun ∧ Sys2Proof.Claims.BcpCompletionShowsItsOutcome

/-- R163: the state that GINIT reaches satisfies the two recurrences of the length-31 Gold sequence, from x1 = 1 and x2 = c_init, and
each output bit is c(k), the XOR of x1(n) and x2(n) with n = k + 1600; taking the bits in two parts gives the same bits and state. -/
def Obligations.GoldSequenceFollowsItsRecurrences : Prop :=
  (∀ (s : Nat × Nat) (n i : Nat), i < 31 → s.1 < 2 ^ 31 → s.2 < 2 ^ 31 →
    (goldSkip n s).1.testBit i = (goldSkip (n + i) s).1.testBit 0 ∧ (goldSkip n s).2.testBit i = (goldSkip (n + i) s).2.testBit 0) ∧
  (∀ (s : Nat × Nat) (n : Nat), s.1 < 2 ^ 31 → s.2 < 2 ^ 31 →
    (goldSkip (n + 31) s).1.testBit 0 = xor ((goldSkip (n + 3) s).1.testBit 0) ((goldSkip n s).1.testBit 0) ∧
    (goldSkip (n + 31) s).2.testBit 0 = xor (xor ((goldSkip (n + 3) s).2.testBit 0) ((goldSkip (n + 2) s).2.testBit 0))
      (xor ((goldSkip (n + 1) s).2.testBit 0) ((goldSkip n s).2.testBit 0))) ∧
  (∀ (c0 k n j : Nat), c0 < 2 ^ 31 → j < n →
    (goldTake (packGold (goldSkip (1600 + k) (1, c0)) k) n).1[j]? =
      some (xor ((goldSkip (1600 + k + j) (1, c0)).1.testBit 0) ((goldSkip (1600 + k + j) (1, c0)).2.testBit 0))) ∧
  (∀ (c0 k n : Nat), c0 < 2 ^ 31 →
    (goldTake (packGold (goldSkip (1600 + k) (1, c0)) k) n).2 = packGold (goldSkip (1600 + k + n) (1, c0)) (k + n))

/-- R164: a block is checked by starting from zero and feeding it with its received parity attached; it passes if and only if the
final state is 0, that is, if and only if the parity is the final state of the block without it, in stream order. -/
def Obligations.CrcPassesExactlyTheRightParity : Prop :=
  (∀ (sel : Nat) (block parity : List Bool), sel ≤ 5 → parity.length = crcLen sel →
    (crcState sel 0 (block ++ parity) = 0 ↔
      parity = (List.range (crcLen sel)).map (fun j => (crcState sel 0 block).testBit j))) ∧
  (∀ (sel cd : Nat) (as bs : List Bool), sel ≤ 5 →
    crcState sel (crcState sel cd as) bs = crcState sel cd (as ++ bs)) ∧
  (∀ (sel cd : Nat) (as : List Bool), sel ≤ 5 → crcState sel cd as < 2 ^ crcLen sel)

/-! ## Cluster DMA -/

/-- R105, R106, R107, R108: GO queues a copy of the descriptor words, or is refused when 16 transfers are queued; ABORT marks every
transfer; a transfer that breaks R106 moves nothing; one that moves, to memory or to a register, leaves its outcome; the end shows and counts it and raises what it
asks for. -/
def Obligations.DmaMovesAndReportsTransfers : Prop :=
  (∀ (d : Dev) (c : Nat) (v : BitVec 64), live d = true → corePresent d.grade c = true → (dmaOf d c).q.length < 16 →
    Does (.dmaGo c v) d (setDma d c { dmaOf d c with q := (dmaOf d c).q ++ [dmaXfer d c v.toNat] })) ∧
  (∀ (d : Dev) (c : Nat) (v : BitVec 64), live d = true → corePresent d.grade c = true → 16 ≤ (dmaOf d c).q.length →
    Does (.dmaGo c v) d (cnt (sbit d (ccr c 0x128) 6) (Reg.CLU_CNT_DMA_REF (c / 8)) 1)) ∧
  (∀ (d : Dev) (c : Nat), live d = true →
    Does (.dmaAbort c) d (setDma d c { dmaOf d c with q := (dmaOf d c).q.map (fun t => { t with abort := true }) })) ∧
  (∀ (d : Dev) (c : Nat) (t : Xfer) (ts : List Xfer), live d = true → dmaOf d c = { Dma.reset with q := t :: ts } → t.abort = false →
    dmaBad d.grade t = true →
    Does (.dmaTransferStart c) d (setDma d c { Dma.reset with q := t :: ts, run := true, ended := true, status := 4 })) ∧
  (∀ (d e f : Dev) (c : Nat) (t : Xfer) (ts : List Xfer), live d = true → dmaOf d c = { Dma.reset with q := t :: ts } →
    t.abort = false → dmaBad d.grade t = false → t.fill = false → t.nrows = 1 → t.src % 64 = 0 → t.dst % 64 = 0 → t.rlen = 64 →
    t.src < 2 ^ 48 → t.dst < 2 ^ 48 → asleep d t.src = none → asleep d t.dst = none → dmaShut d t.src 64 false = false →
    isReg t.src = false → dmaShut e t.dst 64 true = false → isReg t.dst = false →
    decideLine d t.src false = (e, .ok) → cohHeld e t.dst = false →
    memWrite e t.dst (getBytes e.mem t.src 64) [] [synOf e t.src] = some f →
    Does (.dmaTransferStart c) d (setDma (cnt f (Reg.CLU_CNT_DMA_BYTES (c / 8)) 64) c
      { Dma.reset with q := t :: ts, run := true, ended := true, pos := 1, last := some (t.src, false) })) ∧
  (∀ (d e : Dev) (c : Nat) (t : Xfer) (ts : List Xfer), live d = true → dmaOf d c = { Dma.reset with q := t :: ts } →
    t.abort = false → dmaBad d.grade t = false → t.fill = true → t.nrows = 1 → t.rlen = 4 → t.dst % 4 = 0 → t.dst < 2 ^ 48 →
    isReg t.dst = true → asleep d t.dst = none → dmaShut d t.dst 4 true = false →
    serveWrite d (.dma (c / 8)) t.dst (toBytes 4 t.sstr) [] [] = (e, some 0) → (dmaOf e c).q = t :: ts →
    Does (.dmaTransferStart c) d (setDma (cnt e (Reg.CLU_CNT_DMA_BYTES (c / 8)) 4) c
      { Dma.reset with q := t :: ts, run := true, ended := true, pos := 1 })) ∧
  (∀ (d : Dev) (c : Nat) (t : Xfer) (ts : List Xfer), live d = true → (dmaOf d c).q = t :: ts → (dmaOf d c).run = true →
    (dmaOf d c).ended = true → c < 256 → t.tag < 2 ^ 16 → (dmaOf d c).status < 6 →
    DoesSome (.dmaTransferEnd c) d (fun f =>
      dmaOf f c = { Dma.reset with q := ts } ∧
      rd64 f (ccr c 0x130) = t.tag + (dmaOf d c).status * 2 ^ 16 + (dmaOf d c).npois % 2 ^ 32 * 2 ^ 32 ∧
      CountedBy d f (Reg.CLU_CNT_DMA_XFER (c / 8)) 1 ∧ CountedBy d f (Reg.CLU_CNT_DMA_POISON (c / 8)) (dmaOf d c).npois ∧
      (t.irq = true → (dmaOf d c).status = 0 → rbit f (ccr c 0x010) 3 = true) ∧
      ((dmaOf d c).status = 1 ∨ (dmaOf d c).status = 2 ∨ (dmaOf d c).status = 3 ∨ (dmaOf d c).status = 4 →
        rbit f (ccr c 0x010) 4 = true) ∧
      f.owed = d.owed ++ (if t.ntEn then [if t.ntEv then .event (t.notify % 4096) 1 else .signal (t.notify % 2 ^ 24) 1 false] else []) ∧
      f.mem = d.mem))

open Sys2Proof Sys2Proof.Machine Sys2Proof.Safety Sys2Proof.Claims

/-! ## Air time, commit and snapshot -/

/-- R44 to R48: the discipline PLL locks, holds over and returns; phase still to be corrected is added to; a PPS_IN edge records its air
time and its distance from the nearest whole second; a step is refused, held while anything is armed, or applied; timing outputs and
PPS_OUT take the level of their formula. -/
def Obligations.AirTimeFollowsItsSource : Prop :=
  (∀ d : Dev, live d = true → pllState d = 1 → Does .pllLock d (fset d Reg.AIR_STATUS 1 0 2)) ∧
  (∀ d : Dev, live d = true → (airSrc d = 1 ∨ airSrc d = 2) → pllState d = 2 →
    DoesSome .sourceLost d (fun t => pllState t = 3 ∧ rbit t Reg.AIR_STATUS 2 = true ∧ rbit t Reg.AIR_STATUS 4 = true ∧
      rbit t Reg.MON_ALERT 1 = true ∧ srcPresent t = false)) ∧
  (∀ d : Dev, live d = true → (airSrc d = 1 ∨ airSrc d = 2) →
    DoesSome .sourceReturn d (fun t => pllState t = 1 ∧ rbit t Reg.AIR_STATUS 4 = false ∧ srcPresent t = true)) ∧
  (∀ d : Dev, live d = true → DoesSome .refclkLoss d (fun t => t.pwr = { d.pwr with refLost := true } ∧ rbit t Reg.MON_ALERT 5 = true)) ∧
  (∀ d : Dev, live d = true → Does .refclkReturn d { d with pwr := { d.pwr with refLost := false } }) ∧
  (∀ (d : Dev) (v : Word), live d = true →
    Does (.airPhaseAdj v) d { d with air := { d.air with phase := d.air.phase + v.toInt } }) ∧
  (∀ (d : Dev) (odd : Bool) (t : Nat), live d = true → rbit d Reg.AIR_CTRL 8 = true → t = d.air.now + (if odd then 1 else 0) → t < 2 ^ 64 →
    2 * (t % 1966080000) ≠ 1966080000 →
    DoesSome (.ppsInEdge odd) d (fun u =>
      let e : Int := if 2 * (t % 1966080000) < 1966080000 then (t % 1966080000 : Nat) else ((t % 1966080000 : Nat) : Int) - 1966080000
      rd64 u Reg.AIR_PPS_TS = t ∧ sx 32 (rw u Reg.AIR_PPS_ERR) = e ∧
      u.air = { d.air with phase := if rbit d Reg.AIR_CTRL 9 then d.air.phase - e else d.air.phase })) ∧
  (∀ (d : Dev) (v : BitVec 64), live d = true → rbit d Reg.AIR_CTRL 10 = false → Does (.airStep v) d (sbit d Reg.AIR_STATUS 3)) ∧
  (∀ (d : Dev) (v : BitVec 64), live d = true → rbit d Reg.AIR_CTRL 10 = true → (comState d = 2 ∨ snState d = 2) → d.air.pendStep = none →
    Does (.airStep v) d { d with air := { d.air with pendStep := some v.toInt } }) ∧
  (∀ (d : Dev) (v : BitVec 64), live d = true → rbit d Reg.AIR_CTRL 10 = true → comState d ≠ 2 → snState d ≠ 2 → d.air.pendStep = none →
    v.toInt ≤ 0 → v.toInt % 2 = 0 → -v.toInt ≤ d.air.now → d.air.now < 2 ^ 64 →
    DoesSome (.airStep v) d (fun t => (t.air.now : Int) = d.air.now + v.toInt ∧ t.regs = d.regs ∧ t.tsy = d.tsy ∧ t.fab = d.fab)) ∧
  (∀ (d : Dev) (n : Nat), live d = true → n < 8 → (toutOf d n).holdEnd = none → (toutOf d n).notBefore = 0 →
    0 < rw d (Reg.AIR_TOUT_PERIOD n) →
    DoesSome (.timingOutEdge n) d (fun t => (toutOf t n).level =
      (rbit d (Reg.AIR_TOUT_CTRL n) 0 && decide (rw d (Reg.AIR_TOUT_OFFSET n) ≤ d.air.now) &&
        decide ((d.air.now - rw d (Reg.AIR_TOUT_OFFSET n)) % rw d (Reg.AIR_TOUT_PERIOD n) < rw d (Reg.AIR_TOUT_WIDTH n))))) ∧
  (∀ d : Dev, live d = true → (toutOf d 8).holdEnd = none → (toutOf d 8).notBefore = 0 → 2 * 1966080000 ≤ d.air.now →
    DoesSome .ppsOutEdge d (fun t => (toutOf t 8).level =
      (rbit d Reg.AIR_PPSO_CFG 0 && decide (((d.air.now : Int) - sx 24 (fget d Reg.AIR_PPSO_CFG 31 8)) % 1966080000 <
        ((fget d Reg.AIR_PPSO_CFG 7 1 * 1024 : Nat) : Int)))))

/-- R49, R54, R57: the grid changes only while nothing is pending or armed; a request takes the first boundary whose arming point lies
ahead or the one that it names, or is LATE, BADTARGET or BUSY; one that meets a pending commit merges, one that meets an armed commit
queues; DISCARD drops what is staged and cancels what is pending. -/
def Sys2Proof.Claims.CommitRequestsAreSettled : Prop :=
  (∀ (d : Dev) (v : Word), live d = true → comState d = 0 → snState d = 0 → v.toNat % 4 ≠ 3 →
    Does (.airCommitGrid v) d (fset d Reg.AIR_COMMIT_GRID 1 0 (v.toNat % 4))) ∧
  (∀ (d : Dev) (v : Word), live d = true → (comState d ≠ 0 ∨ snState d ≠ 0) →
    Does (.airCommitGrid v) d (sbit d Reg.AIR_COMMIT_STATUS 3)) ∧
  (∀ (d : Dev) (persist clr : Bool), live d = true → comState d = 0 → d.air.now < 2 ^ 63 →
    DoesSome (.commitNext persist false clr false) d (fun t => comState t = 1 ∧
      comB t = boundaryAfter (gridOf d) (d.air.now + 4096) ∧ t.air.comAt = false ∧ t.air.comPersist = persist ∧
      t.staged = d.staged ∧ t.latch = d.latch)) ∧
  (∀ (d : Dev) (persist clr : Bool), live d = true → comState d = 1 →
    Does (.commitNext persist false clr false) d { d with air := { d.air with comPersist := d.air.comPersist || persist } }) ∧
  (∀ (d : Dev) (persist clr : Bool), live d = true → comState d = 2 → d.air.comQueued = none →
    Does (.commitNext persist false clr false) d (sbit { d with air := { d.air with
      comQueued := some ⟨boundaryAfter (gridOf d) (max (comB d) (d.air.now + 4096)), false, persist⟩ } } Reg.AIR_COMMIT_STATUS 2)) ∧
  (∀ (d : Dev) (persist clr : Bool), live d = true → comState d = 0 → snState d = 0 → d.air.now < 2 ^ 63 →
    DoesSome (.commitNext persist true clr false) d (fun t => comState t = 1 ∧ snState t = 1 ∧ t.air.sn.b = comB t ∧
      rd64 t Reg.AIR_SNAP_AT = comB t ∧ t.air.sn.com = some clr)) ∧
  (∀ (d : Dev) (persist clr : Bool), live d = true → isBoundary (gridOf d) (rd64 d Reg.AIR_COMMIT_TARGET) = false →
    Does (.commitAt persist false clr false) d (fset d Reg.AIR_COMMIT_STATUS 7 4 3)) ∧
  (∀ (d : Dev) (persist clr : Bool), live d = true → isBoundary (gridOf d) (rd64 d Reg.AIR_COMMIT_TARGET) = true →
    rd64 d Reg.AIR_COMMIT_TARGET ≤ d.air.now + 4096 →
    Does (.commitAt persist false clr false) d (fset d Reg.AIR_COMMIT_STATUS 7 4 2)) ∧
  (∀ (d : Dev) (persist clr : Bool), live d = true → isBoundary (gridOf d) (rd64 d Reg.AIR_COMMIT_TARGET) = true →
    d.air.now + 4096 < rd64 d Reg.AIR_COMMIT_TARGET → comState d = 0 →
    DoesSome (.commitAt persist false clr false) d (fun t => comState t = 1 ∧ comB t = rd64 d Reg.AIR_COMMIT_TARGET ∧
      t.air.comAt = true ∧ t.air.comPersist = persist ∧ t.staged = d.staged)) ∧
  (∀ (d : Dev) (persist clr : Bool), live d = true → isBoundary (gridOf d) (rd64 d Reg.AIR_COMMIT_TARGET) = true →
    d.air.now + 4096 < rd64 d Reg.AIR_COMMIT_TARGET → comState d = 1 → comB d ≠ rd64 d Reg.AIR_COMMIT_TARGET →
    Does (.commitAt persist false clr false) d (fset d Reg.AIR_COMMIT_STATUS 7 4 4)) ∧
  (∀ d : Dev, live d = true → comState d = 0 → Does .commitDiscard d (fset { d with staged := [] } Reg.AIR_COMMIT_STATUS 7 4 6)) ∧
  (∀ d : Dev, live d = true → comState d = 1 → d.air.sn.com = none → d.air.snQueued = none →
    DoesSome .commitDiscard d (fun t => t.staged = [] ∧ comState t = 0 ∧ fget t Reg.AIR_COMMIT_STATUS 7 4 = 6 ∧ t.latch = d.latch)) ∧
  (∀ d : Dev, live d = true → comState d = 2 → d.air.comQueued = none → Does .commitDiscard d { d with staged := [] })

/-- R52 to R54, R56: at the arming point the staged words are latched and checked; the commit proceeds when every domain acknowledged,
and otherwise fails with the lowest missing domain; at B the latched words take effect; the end counts a commit that is DONE, leaves the
words of a FAILED one staged, and makes a queued request pending. -/
def Sys2Proof.Claims.CommitsApplyWhollyOrNotAtAll : Prop :=
  (∀ d : Dev, live d = true → comState d = 1 → comB d ≤ d.air.now + 4096 →
    DoesSome .commitArm d (fun t => comState t = 2 ∧ t.latch = d.staged ∧ t.staged = [] ∧
      t.air.armFail = failing d (applyWords d d.staged) (d.staged.map (·.1)) ∧ t.air.decided = none ∧
      (∀ a, a ≠ Reg.AIR_COMMIT_STATUS → rw t a = rw d a))) ∧
  (∀ d : Dev, live d = true → comState d = 2 → d.air.decided = none → comB d ≤ d.air.now + 1024 → d.air.armFail = [] →
    Does (.commitDecide []) d { d with air := { d.air with decided := some true } }) ∧
  (∀ (d : Dev) (missing : List Nat), live d = true → comState d = 2 → d.air.decided = none → comB d ≤ d.air.now + 1024 →
    missing ++ d.air.armFail ≠ [] → (∀ m ∈ missing ++ d.air.armFail, m < 64) →
    DoesSome (.commitDecide missing) d (fun t => t.air.decided = some false ∧ fget t Reg.AIR_COMMIT_STATUS 7 4 = 5 ∧
      fget t Reg.AIR_COMMIT_STATUS 13 8 ∈ missing ++ d.air.armFail ∧
      (∀ m ∈ missing ++ d.air.armFail, fget t Reg.AIR_COMMIT_STATUS 13 8 ≤ m) ∧ rbit t Reg.MON_ALERT 2 = true ∧ comState t = 2)) ∧
  (∀ (d : Dev) (n : Nat) (v : Word), live d = true → comState d = 2 → d.air.decided = some true → d.air.applied = false →
    comB d ≤ d.air.now → d.air.sn.b ≠ comB d → n < 8 → d.latch = [(Reg.AIR_TOUT_PERIOD n, v.toNat)] →
    DoesSome .commitApply d (fun t => rw t (Reg.AIR_TOUT_PERIOD n) = v.toNat ∧ t.latch = [] ∧ t.air.applied = true ∧
      (∀ a, a ≠ Reg.AIR_TOUT_PERIOD n → rw t a = rw d a))) ∧
  (∀ d : Dev, live d = true → comState d = 2 → d.air.decided = some true → d.air.applied = true → comB d + 1024 ≤ d.air.now →
    d.air.comQueued = none → d.air.comPersist = false → d.fw.waits = [] → d.air.pendStep = none →
    DoesSome .commitEnd d (fun t => comState t = 0 ∧ fget t Reg.AIR_COMMIT_STATUS 7 4 = 1 ∧
      fget t Reg.AIR_COMMIT_STATUS 31 16 = (fget d Reg.AIR_COMMIT_STATUS 31 16 + 1) % 2 ^ 16 ∧ t.staged = d.staged ∧
      (rbit d Reg.AIR_CTRL 11 = true → CountedBy d t Reg.HLK_CNT_RAISE 1))) ∧
  (∀ d : Dev, live d = true → comState d = 2 → d.air.decided = some false → comB d + 1024 ≤ d.air.now → d.staged = [] →
    d.air.comQueued = none → d.fw.waits = [] → d.air.pendStep = none →
    DoesSome .commitEnd d (fun t => comState t = 0 ∧ t.staged = d.latch ∧ t.latch = [] ∧
      fget t Reg.AIR_COMMIT_STATUS 7 4 = fget d Reg.AIR_COMMIT_STATUS 7 4 ∧
      fget t Reg.AIR_COMMIT_STATUS 31 16 = fget d Reg.AIR_COMMIT_STATUS 31 16)) ∧
  (∀ (d : Dev) (q : ComReq), live d = true → comState d = 2 → d.air.decided = some true → d.air.applied = true →
    comB d + 1024 ≤ d.air.now → d.air.comQueued = some q → d.air.comPersist = false → d.fw.waits = [] → d.air.pendStep = none →
    q.b < 2 ^ 64 → DoesSome .commitEnd d (fun t => comState t = 1 ∧ comB t = q.b ∧ t.air.comQueued = none ∧
      rbit t Reg.AIR_COMMIT_STATUS 2 = false))

/-- R49, R52 to R57: commits from the request to the end. -/
def Obligations.CommitsAreRequestedAndApplied : Prop :=
  Sys2Proof.Claims.CommitRequestsAreSettled ∧ Sys2Proof.Claims.CommitsApplyWhollyOrNotAtAll

/-- R58 to R63: a snapshot becomes pending for its boundary, is armed, copies every register at B (clearing counts that it copied when CLR
is set) with SEQ odd, and ends with SEQ even. -/
def Obligations.SnapshotsCopyAtTheBoundary : Prop :=
  (∀ (d : Dev) (clr : Bool), live d = true → snState d = 0 → d.air.now < 2 ^ 63 →
    DoesSome (.snapNext clr) d (fun t => snState t = 1 ∧ rd64 t Reg.AIR_SNAP_AT = boundaryAfter (gridOf d) (d.air.now + 4096) ∧
      t.air.sn = ⟨boundaryAfter (gridOf d) (d.air.now + 4096), false, some clr, none⟩ ∧ t.snap = d.snap)) ∧
  (∀ (d : Dev) (clr : Bool), live d = true → snState d = 0 → isBoundary (gridOf d) (rd64 d Reg.AIR_SNAP_TARGET) = true →
    d.air.now + 4096 < rd64 d Reg.AIR_SNAP_TARGET →
    DoesSome (.snapAt clr) d (fun t => snState t = 1 ∧ rd64 t Reg.AIR_SNAP_AT = rd64 d Reg.AIR_SNAP_TARGET ∧
      t.air.sn = ⟨rd64 d Reg.AIR_SNAP_TARGET, true, some clr, none⟩)) ∧
  (∀ (d : Dev) (clr : Bool), live d = true → isBoundary (gridOf d) (rd64 d Reg.AIR_SNAP_TARGET) = false →
    Does (.snapAt clr) d (fset d Reg.AIR_SNAP_STATUS 7 4 3)) ∧
  (∀ d : Dev, live d = true → snState d = 1 → d.air.sn.b ≤ d.air.now + 4096 → Does .snapshotArm d (fset d Reg.AIR_SNAP_STATUS 1 0 2)) ∧
  (∀ d : Dev, live d = true → snState d = 2 → d.air.snTaken = false → d.air.sn.b ≤ d.air.now → d.air.sn.own ≠ some true →
    d.air.sn.com ≠ some true →
    DoesSome .snapshotCapture d (fun t => t.snap = snapWords d ∧ t.air.snTaken = true ∧
      (∀ a, a ≠ Reg.AIR_SNAP_STATUS → rw t a = rw d a) ∧ t.mem = d.mem ∧
      fget t Reg.AIR_SNAP_STATUS 31 16 = (fget d Reg.AIR_SNAP_STATUS 31 16 + 1) % 2 ^ 16)) ∧
  (∀ d : Dev, live d = true → snState d = 2 → d.air.snTaken = false → d.air.sn.b ≤ d.air.now →
    (d.air.sn.own = some true ∨ d.air.sn.com = some true) →
    DoesSome .snapshotCapture d (fun t => t.snap = snapWords d ∧
      (∀ e ∈ d.regs, e.1 < 0x4000000000 → rw t e.1 &&& clrMask e.1 = 0))) ∧
  (∀ d : Dev, live d = true → snState d = 2 → d.air.snTaken = true → d.air.sn.b + 1024 ≤ d.air.now → d.air.snQueued = none →
    d.air.pendStep = none →
    DoesSome .snapshotEnd d (fun t => snState t = 0 ∧ fget t Reg.AIR_SNAP_STATUS 7 4 = 1 ∧ t.snap = d.snap ∧
      fget t Reg.AIR_SNAP_STATUS 31 16 = (fget d Reg.AIR_SNAP_STATUS 31 16 + 1) % 2 ^ 16))

namespace Sys2Proof.Claims
open Sys2Proof.Machine Sys2Proof.Safety

/-- The engine operations that read buffers and write buffers: command, kind of instance, OP, and what the descriptor asks. -/
structure EngRow where
  cmd : Nat → Instr
  kind : Nat
  op : Option Nat
  plan : List Byte → JobPlan

/-- The rows of the engines, but for IFFT, the decoders with HARQ buffers, and SCAN. -/
def IsEngRow (r : EngRow) : Prop := r ∈ ([⟨.fft, 0, some 1, fftPlan⟩, ⟨.dft, 0, some 3, fftPlan⟩, ⟨.idft, 0, some 4, fftPlan⟩, ⟨.prach, 0, some 5, fftPlan⟩,
   ⟨.chest, 1, some 0x10, mxPlan chest⟩, ⟨.tcomb, 1, some 0x11, mxPlan (fun m _ bs => tcomb m bs)⟩, ⟨.eq1, 1, some 0x12, mxPlan eq1⟩,
   ⟨.mmse, 1, some 0x13, mxPlan mmse⟩, ⟨.zf, 1, some 0x14, mxPlan mmse⟩, ⟨.bfweight, 1, some 0x15, mxPlan bfweight⟩,
   ⟨.precode, 1, some 0x16, mxPlan (fun m _ bs => precode m bs)⟩, ⟨.demap, 1, some 0x17, mxPlan (fun m _ bs => demap m bs)⟩,
   ⟨.ldpcEncode, 3, none, ldpcEncPlan⟩, ⟨.polarEncode, 4, none, polarEncPlan⟩, ⟨.polarDecode, 6, none, polarDecPlan⟩] : List EngRow)

/-- Instance `j` of the row's kind holds a job of the row's OP that has not ended. -/
def EngRow.waits (r : EngRow) (d : Dev) (j : Nat) (x : List Byte) : Prop :=
  live d = true ∧ (engOf d (engKey r.kind j)).job = some ⟨x, none⟩ ∧ (∀ o, r.op = some o → dbits x 0 7 0 = o)

/-- The job of instance `j` has ended so, with CYCLES open in its stall (R229, R246). -/
def jobEnds (d : Dev) (kind j status detail cyc erraddr result info : Nat) : Dev :=
  endJob (used d) kind j ⟨status, detail, cyclesOf d cyc, erraddr, result, info⟩

/-- The decoders with HARQ buffers. -/
structure HarqRow where
  cmd : Nat → Instr
  kind : Nat
  plan : Grade → List Byte → HarqPlan

/-- Their rows. -/
def IsHarqRow (r : HarqRow) : Prop := r ∈ ([⟨.ldpcDecode, 2, ldpcDecPlan⟩, ⟨.turboDecode, 5, turboPlan⟩] : List HarqRow)

end Sys2Proof.Claims

open Sys2Proof Sys2Proof.Machine Sys2Proof.Safety Sys2Proof.Claims

/-! ## Engines -/

/-- R233 to R236, R239, R243, R247, R280: a job whose descriptor fails a check ends BAD_JOB with the first cause; one whose read fails
ends IN_ERR with the address; one whose reads and writes all succeed leaves its outputs and ends with the outcome of its operation. -/
def Obligations.EngineJobsRun : Prop :=
  (∀ r, IsEngRow r → ∀ (d : Dev) (j : Nat) (x : List Byte), r.waits d j x → (r.plan x).1 ≠ 0 →
    Does (r.cmd j) d (jobEnds d r.kind j 0x40 (r.plan x).1 0 0 0 0)) ∧
  (∀ r, IsEngRow r → ∀ (d e : Dev) (j a : Nat) (x : List Byte), r.waits d j x → (r.plan x).1 = 0 →
    readAll d (r.plan x).2.1 = (e, .err a) → Does (r.cmd j) d (jobEnds e r.kind j 0x41 0 0 a 0 0)) ∧
  (∀ r, IsEngRow r → ∀ (d e f : Dev) (j : Nat) (x bs : List Byte), r.waits d j x → (r.plan x).1 = 0 →
    readAll d (r.plan x).2.1 = (e, .bytes bs) →
    writeOut e (engKey r.kind j) (((r.plan x).2.2 bs).outs.flatMap (fun o => outLines o.1 o.2)) = (f, none) →
    Does (r.cmd j) d (jobEnds f r.kind j ((r.plan x).2.2 bs).status 0 ((r.plan x).2.2 bs).cyc 0 ((r.plan x).2.2 bs).result
      ((r.plan x).2.2 bs).info)) ∧
  (∀ (d e f : Dev) (j : Nat) (x bs : List Byte), live d = true → (engOf d (engKey 0 j)).job = some ⟨x, none⟩ → dbits x 0 7 0 = 2 →
    (fftD x).cause x = 0 → (fftD x).wlen = 0 → (fftD x).tin = false → (fftD x).tout = false →
    readAll d (ifftPlan x j [] (fun _ => 0) (fun _ => [])).2.1 = (e, .bytes bs) →
    writeOut e (engKey 0 j) (((ifftPlan x j [] (fun _ => 0) (fun _ => [])).2.2 bs).outs.flatMap (fun o => outLines o.1 o.2)) = (f, none) →
    Does (.ifft j) d (jobEnds f 0 j ((ifftPlan x j [] (fun _ => 0) (fun _ => [])).2.2 bs).status 0 (fftD x).cycles 0
      ((ifftPlan x j [] (fun _ => 0) (fun _ => [])).2.2 bs).result 0)) ∧
  (∀ r, IsHarqRow r → ∀ (d : Dev) (j : Nat) (x : List Byte), live d = true → (engOf d (engKey r.kind j)).job = some ⟨x, none⟩ →
    (r.plan d.grade x).1 ≠ 0 → Does (r.cmd j) d (jobEnds d r.kind j 0x40 (r.plan d.grade x).1 0 0 0 0)) ∧
  (∀ r, IsHarqRow r → ∀ (d e f g : Dev) (j : Nat) (x bs hb : List Byte) (lost : Bool), live d = true →
    (engOf d (engKey r.kind j)).job = some ⟨x, none⟩ → (r.plan d.grade x).1 = 0 →
    let h := (r.plan d.grade x).2.1
    let c := combine ((r.plan d.grade x).2.2.1 bs) (hb.map softIn) h.rd
    let o := (r.plan d.grade x).2.2.2 c.1
    readIn d h.inA h.nIn = (e, .bytes bs) → readHq e h.skip (if h.rd then hqLines h.hin h.ncb else []) = (f, .got hb lost) →
    writeOut f (engKey r.kind j) (outLines h.outA (packBits o.1) ++ (if h.wr then outLines h.hout (putSoft c.1) else [])) = (g, none) →
    Does (r.cmd j) d (jobEnds g r.kind j o.2.1 0 o.2.2.2 0 (o.2.2.1 + (if lost then 256 else 0)) c.2))

/-- R244, R245, R280: an output part of a transform that does not saturate lies within 3 least significant bits of its exact value,
rounded; a combined soft value is the sum of what the input and the buffer hold, clamped to [-127, 127]; and a scan, a descriptor and a
completion record hold what their rules give. -/
def Sys2Proof.Claims.EngineNumbersKeepTheirBounds : Prop :=
  (∀ (desc inp : List Byte) (i : Nat) (v : Int) (sh : Nat), (fftPart desc inp i v sh).2 = false →
    (fftPart desc inp i v sh).1 - convQ v (2 ^ (40 + sh)) ≤ 3 ∧ convQ v (2 ^ (40 + sh)) - (fftPart desc inp i v sh).1 ≤ 3) ∧
  (∀ (desc inp : List Byte) (i : Nat) (v : Int) (sh : Nat),
    -32768 ≤ (fftPart desc inp i v sh).1 ∧ (fftPart desc inp i v sh).1 ≤ 32767) ∧
  (∀ (n : Int) (m : Nat), 0 < m → 2 * (m * convQ n m - n) ≤ m ∧ 2 * (n - m * convQ n m) ≤ m) ∧
  (∀ (inp hq : List Int) (i : Nat), i < inp.length →
    (combine inp hq true).1[i]? = some (max (-127) (min 127 (inp.getD i 0 + hq.getD i 0)))) ∧
  (∀ (d : Dev) (kind j : Nat) (x : List Byte) (r : JobRes), r.status < 256 → kind < 8 →
    (jobRecord d kind j x r).length = 32 ∧ (jobRecord d kind j x r)[0]? = some (BitVec.ofNat 8 (engRecKind kind)) ∧
    (jobRecord d kind j x r)[1]? = some (BitVec.ofNat 8 r.status))

/-- R232, R233, R234, R267: the end of a job frees its instance, which shows IDLE, counts the job and sends the notification it asks for;
with a completion queue the record goes there first; a job whose OP is not listed ends with BAD_OP; a scan in mode S reports its matches. -/
def Sys2Proof.Claims.JobsCompleteAndScansReport : Prop :=
  (∀ (d : Dev) (kind j : Nat) (x : List Byte) (r : JobRes), live d = true → kind < 7 → j < 32 →
    (engOf d (engKey kind j)).job = some ⟨x, some r⟩ → dbits x 0 8 8 = 0 → r.status < 3 →
    DoesSome (.jobComplete kind j) d (fun t => (engOf t (engKey kind j)).job = none ∧
      fget t (engBlock kind + 0x200 + 4 * engIdx kind j) 1 0 = 0 ∧ CountedBy d t (engBlock kind + 0x1000 + 0x20 * engIdx kind j) 1 ∧
      t.owed = d.owed ++ (if dbits x 0 9 9 = 1 then
        [if dbits x 0 10 10 = 1 then .event (dbits x 12 23 0 % 4096) 1 else .signal (dbits x 12 23 0 % 2 ^ 24) 1 false] else []) ∧
      t.mem = d.mem)) ∧
  (∀ (d e : Dev) (kind j : Nat) (x : List Byte) (r : JobRes), live d = true → (engOf d (engKey kind j)).job = some ⟨x, some r⟩ →
    dbits x 0 8 8 = 1 → produce d (dbits x 8 19 0) (jobRecord d kind j x r) = (e, .done) →
    DoesSome (.jobComplete kind j) d (fun t => (engOf t (engKey kind j)).job = none ∧ t.mem = e.mem ∧ t.qs = e.qs)) ∧
  (∀ (d : Dev) (kind j : Nat) (x : List Byte), live d = true → kind < 2 → j < 32 →
    (engOf d (engKey kind j)).job = some ⟨x, none⟩ → opListed kind (dbits x 0 7 0) = false → dbits x 0 8 8 = 0 →
    DoesSome (.jobComplete kind j) d (fun t => (engOf t (engKey kind j)).job = none ∧ fget t (engBlock kind) 23 16 = 1 ∧
      rbit t (engBlock kind) 0 = true ∧ t.mem = d.mem)) ∧
  (∀ (d e : Dev) (b : Nat) (x bs : List Byte), live d = true → (engOf d (engKey 7 b)).job = some ⟨x, none⟩ → dbits x 0 7 0 = 0x20 →
    scanCause (scanEntry d b x) x = 0 → (scanEntry d b x).modeS = true → readAll d (scanIns x) = (e, .bytes bs) →
    let ms := (scanEntry d b x).wmatches (scanSeqs (scanEntry d b x) x bs)
    ms ≠ [] →
    Does (.scan b) d (endJob (used (cnt e Reg.FEN_CNT_DET ms.length)) 7 b ⟨0, min 255 ms.length, cyclesOf e 0,
      ((bestMatch ms).map peakS).getD 0, ((ms.head?).map WMatch.n).getD 0, 0⟩))

/-- R232 to R236, R244, R245, R267, R280: numbers of the engines, and the ends of jobs. -/
def Obligations.EngineNumbersAndCompletions : Prop :=
  Sys2Proof.Claims.EngineNumbersKeepTheirBounds ∧ Sys2Proof.Claims.JobsCompleteAndScansReport

/-! ## Front end -/

/-- R257 to R260: the end of a symbol sets the next code from its level unless a freeze was in force in it; FROZEN shows whether one is in
force; an unfreeze ends every one. -/
def Sys2Proof.Claims.GainLoopsAndTheirFreezes : Prop :=
  (∀ (d : Dev) (st : Nat), live d = true → st < 1536 → (glOf d st).symEnd ≤ d.air.now → (glOf d st).n ≠ 0 → glAuto d st = true →
    rbit d Reg.FEN_CTRL 0 = true → frozenIn (glOf d st) = false →
    DoesSome (.gainUpdate st) d (fun t => (glOf t st).n = 0 ∧ (glOf t st).next =
      nextCode d st (glOf d st).code (glOf d st).clips (levelL (glOf d st).sum (glOf d st).n) ∧
      sx 8 (fget t (Reg.FEN_GL_STATE st) 15 8) = levelL (glOf d st).sum (glOf d st).n ∧
      fget t (Reg.FEN_GL_STATE st) 31 16 = min 65535 (glOf d st).clips)) ∧
  (∀ (d : Dev) (st : Nat), live d = true → st < 1536 → (glOf d st).symEnd ≤ d.air.now → (glOf d st).n ≠ 0 →
    (frozenIn (glOf d st) = true ∨ glAuto d st = false) →
    DoesSome (.gainUpdate st) d (fun t => (glOf t st).n = 0 ∧ (glOf t st).next = (glOf d st).next)) ∧
  (∀ (d : Dev) (st g clips : Nat) (l : Int), g ≤ 120 → nextCode d st g clips l ≤ 120 ∧ (0 < clips → nextCode d st g clips l ≤ g)) ∧
  (∀ (d : Dev) (st : Nat), live d = true → st < 1536 →
    DoesSome (.freezeEnd st) d (fun t => t.fen = d.fen ∧ rbit t (Reg.FEN_GL_STATE st) 7 =
      (glAuto d st && (glOf d st).frz.any (fun f => decide (f.t0 ≤ d.air.now ∧ d.air.now < f.t1))))) ∧
  (∀ (d : Dev) (v : Word), live d = true → v.toNat % 2 ^ 11 < 1536 →
    DoesSome (.fenGlUnfreeze v) d (fun t => rbit t (Reg.FEN_GL_STATE (v.toNat % 2 ^ 11)) 7 = false ∧
      ∀ f ∈ (glOf t (v.toNat % 2 ^ 11)).frz, f.t1 ≤ d.air.now))

/-- R262 to R266: a trigger of the energy stage is qualified and freezes the streams of its group; the qualifier accepts or rejects it; a
word match is a detection; the result of an evaluated window, or of one whose grace has passed, shows what it found; samples can be
dropped; an acknowledgement frees the result set it names. -/
def Sys2Proof.Claims.WatchEntriesDetectAndReport : Prop :=
  (∀ (d : Dev) (b w p : Nat), live d = true → bfRuns d b w = true → (bfOf d b w).modeS = false →
    (winOf (watchOf d b w) (watchOf d b w).next).qual = none →
    (bfOf d b w).trigger (seqsOf (bfOf d b w) (winOf (watchOf d b w) (watchOf d b w).next))
      (winOf (watchOf d b w) (watchOf d b w).next).pos = some p →
    DoesSome (.energyTrigger b w) d (fun t => (winOf (watchOf t b w) (watchOf d b w).next).qual = some p ∧
      ((bfOf d b w).frz = true → ∀ i < (bfOf d b w).nstr, ∃ f ∈ (glOf t ((bfOf d b w).first + i)).frz,
        f.t1 = f.t0 + (bfOf d b w).frzLen * 64 ∧ f.entry = some (watchKey b w)))) ∧
  (∀ (d f : Dev) (b w p : Nat) (refs : List (Int × Int)), live d = true → bfRuns d b w = true →
    let e := bfOf d b w
    let y := winOf (watchOf d b w) (watchOf d b w).next
    let st := p + 1 - e.ewin
    y.qual = some p → st + e.reflen + e.lagmax ≤ common (seqsOf e y) → refMem d b e = (f, refs) →
    let m := e.qualify (seqsOf e y) refs st f.freeCtr
    DoesSome (.qualifierDone b w) d (fun t =>
      let z := winOf (watchOf t b w) (watchOf d b w).next
      z.qual = none ∧ z.pos = st + e.reflen + e.lagmax ∧
      (e.qthr ≤ m.1 → z.ndet = y.ndet + 1 ∧ CountedBy f t Reg.FEN_CNT_DET 1) ∧
      (m.1 < e.qthr → z.ndet = y.ndet ∧ CountedBy f t Reg.FEN_CNT_REJ 1))) ∧
  (∀ (d : Dev) (b w : Nat) (m : WMatch), live d = true → bfRuns d b w = true → (bfOf d b w).modeS = true →
    nextMatch (bfOf d b w) (winOf (watchOf d b w) (watchOf d b w).next) = some m →
    DoesSome (.wordMatch b w) d (fun t =>
      let z := winOf (watchOf t b w) (watchOf d b w).next
      z.ndet = (winOf (watchOf d b w) (watchOf d b w).next).ndet + 1 ∧ z.seen.contains m.key = true ∧
      CountedBy d t Reg.FEN_CNT_DET 1)) ∧
  (∀ (d : Dev) (b w : Nat), live d = true → bfRuns d b w = true →
    let e := bfOf d b w
    let x := watchOf d b w
    let y := winOf x x.next
    let shown (part : Bool) (t : Dev) : Prop :=
      rw t (Reg.FEN_BF_RES0 b w) = 1 + (if 0 < y.ndet then 2 else 0) + (if rbit d (Reg.FEN_BF_RES0 b w) 0 then 4 else 0) +
        (if part then 8 else 0) + (if y.skip then 16 else 0) + min 255 y.ndet * 256 +
        (fget d (Reg.FEN_BF_RES0 b w) 31 16 + 1) % 65536 * 65536 ∧
      (watchOf t b w).next = x.next + 1 ∧ t.owed = d.owed ++ (if e.ntEn then [.event e.event 1] else []) ∧
      (0 < y.ndet → rd64 t (Reg.FEN_BF_RES_TIME b w) = y.first % 2 ^ 64 ∧ rd64 t (Reg.FEN_BF_RES_PEAK b w) = y.peak % 2 ^ 64)
    e.hasWin x.next = true →
    (winEnd e x x.next ≤ d.air.now → allPast d e (winEnd e x x.next) = true → evaluated e y = true →
      DoesSome (.windowResult b w) d (shown false)) ∧
    (winEnd e x x.next + fget d Reg.FEN_BF_GRACE 23 0 * 64 ≤ d.air.now → DoesSome (.bfGraceExpiry b w) d (shown true))) ∧
  (∀ (d : Dev) (b n : Nat), live d = true → b < 4 → bfRuns d b 15 = true → (bfOf d b 15).hasWin (watchOf d b 15).next = true →
    (bfOf d b 15).winStart (watchOf d b 15) (watchOf d b 15).next * 64 ≤ d.air.now →
    DoesSome (.bfSampleDrop b n) d (fun t => rbit t Reg.FEN_STATUS 0 = true ∧
      (winOf (watchOf t b 15) (watchOf d b 15).next).skip = true)) ∧
  (∀ (d : Dev) (b w : Nat) (v : Word), live d = true → b < 4 → w < 16 → v.toNat % 65536 = fget d (Reg.FEN_BF_RES0 b w) 31 16 →
    Does (.fenBfAck b w v) d (cbit d (Reg.FEN_BF_RES0 b w) 0)) ∧
  (∀ (d : Dev) (b w : Nat) (v : Word), live d = true → b < 4 → w < 16 → v.toNat % 65536 ≠ fget d (Reg.FEN_BF_RES0 b w) 31 16 →
    Does (.fenBfAck b w v) d (cnt d Reg.FEN_CNT_ACKBAD 1))

/-- R257 to R266: gain loops, freezes and watch entries. -/
def Obligations.GainLoopsAndWatchEntries : Prop :=
  Sys2Proof.Claims.GainLoopsAndTheirFreezes ∧ Sys2Proof.Claims.WatchEntriesDetectAndReport

open Sys2Proof Sys2Proof.Machine Sys2Proof.Safety Sys2Proof.Claims

/-! ## Transmit shaping -/

/-- R298, R302, R306: PAEN_LEVEL and the ball of an output follow the first rule that decides it: nothing before autorun, with TXS off, or
while its drop latch is set; then FORCE; a write of TXS_PAEN_CLR clears exactly the latches that it names. -/
def Sys2Proof.Claims.PaEnablesFollowTheirRules : Prop :=
  (∀ (d : Dev) (n : Nat), live d = true → n < 32 →
    DoesSome (.paEnEdge n) d (fun t => rbit t Reg.TXS_PAEN_LEVEL n = paActive d n d.air.now ∧
      mget false t.txs.pin n = paPin d n (paActive d n d.air.now) ∧
      (∀ m < 32, m ≠ n → rbit t Reg.TXS_PAEN_LEVEL m = rbit d Reg.TXS_PAEN_LEVEL m))) ∧
  (∀ (d : Dev) (n : Nat) (t : Int), (rbit d Reg.SRL_BOOT 15 = false ∨ rbit d Reg.TXS_CTRL 0 = false ∨ paLatch d n = true) →
    paActive d n t = false) ∧
  (∀ (d : Dev) (n : Nat) (t : Int), fget d (Reg.TXS_PAEN_CFG n) 7 6 = 1 → paActive d n t = false) ∧
  (∀ (d : Dev) (n : Nat) (t : Int), rbit d Reg.SRL_BOOT 15 = true → domServes d 38 = true → rbit d Reg.TXS_CTRL 0 = true →
    d.pkg.tripped = false → paLatch d n = false → mget 0 d.txs.wait n = 0 → fget d (Reg.TXS_PAEN_CFG n) 7 6 = 2 →
    paActive d n t = true) ∧
  (∀ (d : Dev) (v : Word), live d = true →
    DoesSome (.txsPaenClr v) d (fun t => ∀ n < 32, rbit t Reg.TXS_PAEN_DROP n = (rbit d Reg.TXS_PAEN_DROP n && !v.toNat.testBit n)))

/-! ## Yarrow -/

/-- R308, R309: a trigger arms its sequence, with its sampling instant DELAY steps of 4 ns later; a trigger of an armed sequence is an
overrun; with Yarrow off it does nothing. At the sampling instant a free Yarrow starts the run, and a busy one keeps the trigger or
counts an overrun. -/
def Sys2Proof.Claims.SequencesAreTriggeredAndSampled : Prop :=
  (∀ (d : Dev) (q : Nat), live d = true → q < 8 → rbit d Reg.YRW_CTRL 0 = true → (yseq d q).armed = none →
    Does (.yrwSwTrig (word (2 ^ q))) d (setYseq d q { yseq d q with
      armed := some (d.air.now, d.air.now * 100000 + rw d (Reg.YRW_BANK (yrwBank d) (32 * q + 1)) % 2 ^ 16 * 786432) })) ∧
  (∀ (d : Dev) (q : Nat), live d = true → q < 8 → rbit d Reg.YRW_CTRL 0 = true → (yseq d q).armed ≠ none →
    DoesSome (.yrwSwTrig (word (2 ^ q))) d (fun t => (yseq t q).armed = (yseq d q).armed ∧ (yseq t q).ovr = true ∧
      CountedBy d t Reg.YRW_CNT_OVR 1)) ∧
  (∀ (d : Dev) (v : Word), live d = true → rbit d Reg.YRW_CTRL 0 = false → Does (.yrwSwTrig v) d d) ∧
  (∀ (d : Dev) (q e : Nat) (es : List Nat), live d = true → q < 8 → rbit d Reg.YRW_CTRL 0 = true → (yseq d q).armed = none →
    (yseq d q).edges = e :: es →
    DoesSome (.seqTrigger q) d (fun t => (yseq t q).edges = es ∧
      (yseq t q).armed = some (e, e * 100000 + rw d (Reg.YRW_BANK (yrwBank d) (32 * q + 1)) % 2 ^ 16 * 786432))) ∧
  (∀ (d : Dev) (q : Nat), live d = true → q < 8 → rbit d Reg.YRW_CTRL 0 = true → (yseq d q).armed = none → (yseq d q).edges = [] →
    fget d (Reg.YRW_BANK (yrwBank d) (32 * q)) 2 1 = 1 → rw d (Reg.YRW_BANK (yrwBank d) (32 * q + 3)) ≠ 0 →
    let a := ((yseq d q).base + (yseq d q).k * rw d (Reg.YRW_BANK (yrwBank d) (32 * q + 3))) * 64
    a ≤ d.air.now →
    DoesSome (.seqTrigger q) d (fun t => (yseq t q).k = (yseq d q).k + 1 ∧ ∃ i, (yseq t q).armed = some (a, i))) ∧
  (∀ (d : Dev) (q t0 i : Nat), live d = true → q < 8 → (yseq d q).armed = some (t0, i) → i ≤ d.air.now * 100000 → d.yrw.work = none →
    rbit d (Reg.YRW_BANK (yrwBank d) (32 * q)) 0 = true →
    DoesSome (.samplingInstant q) d (fun t => (yseq t q).armed = none ∧ rbit t Reg.YRW_STATUS 3 = true ∧
      t.yrw.work = some (.seq q i (i + ySteps (yrwWords d (yrwBank d) q) * 39321600) false false (yrwWords d (yrwBank d) q)))) ∧
  (∀ (d : Dev) (q t0 i : Nat) (w : YWork), live d = true → q < 8 → (yseq d q).armed = some (t0, i) → i ≤ d.air.now * 100000 →
    d.yrw.work = some w → i < w.ends → rbit d (Reg.YRW_BANK (yrwBank d) (32 * q)) 8 = true → (yseq d q).pend = none →
    Does (.samplingInstant q) d (setYseq d q { yseq d q with armed := none, pend := some t0 })) ∧
  (∀ (d : Dev) (q t0 i : Nat) (w : YWork), live d = true → q < 8 → (yseq d q).armed = some (t0, i) → i ≤ d.air.now * 100000 →
    d.yrw.work = some w → i < w.ends → (yseq d q).pend ≠ none →
    DoesSome (.samplingInstant q) d (fun t => (yseq t q).armed = none ∧ (yseq t q).ovr = true ∧ t.yrw.work = d.yrw.work ∧
      CountedBy d t Reg.YRW_CNT_OVR 1))

/-- R312, R314: a run that has ended writes its result set with SEQ one higher, the time of its first sample and the calibrated results;
a result inside its window clears the channel's count, and the last of CONSEC + 1 outside it sets WIN_STAT and the drop latches it names;
an acknowledgement frees the set it names. -/
def Sys2Proof.Claims.ResultsAreCalibratedComparedAndShown : Prop :=
  (∀ (d : Dev) (raws : List Word) (q first ends : Nat) (late shift : Bool) (w : List Nat), live d = true →
    d.yrw.work = some (.seq q first ends late shift w) → ends ≤ d.air.now * 100000 → d.yrw.inj = none → d.yrw.cal = none → q < 8 →
    DoesSome (.sequenceResult raws) d (fun t => rbit t (Reg.YRW_RES0 q) 0 = true ∧
      fget t (Reg.YRW_RES0 q) 31 16 = (fget d (Reg.YRW_RES0 q) 31 16 + 1) % 65536 ∧
      rd64 t (Reg.YRW_RES_TIME q) = first / 100000 % 2 ^ 64 ∧ CountedBy d t Reg.YRW_CNT_CONV (ySlots w).length)) ∧
  (∀ (d : Dev) (c r : Nat), yCal d c r ≤ 4095 ∧
    (let v : Int := (16 * r - (rw d (Reg.YRW_CAL_CH c) % 2 ^ 12 : Nat)) * (rw d (Reg.YRW_CAL_CH c) / 2 ^ 16 : Nat)
     rw d (Reg.YRW_CAL_CH c) < 2 ^ 32 → 0 ≤ v → v ≤ 4095 * 2 ^ 18 →
       2 * (2 ^ 18 * (yCal d c r : Int) - v) ≤ 2 ^ 18 ∧ 2 * (v - 2 ^ 18 * (yCal d c r : Int)) ≤ 2 ^ 18)) ∧
  (∀ (d : Dev) (c y : Nat), c < 32 → fget d (Reg.YRW_WIN_LIM c) 11 0 ≤ y → y ≤ fget d (Reg.YRW_WIN_LIM c) 27 16 →
    (yWindow d c y).2 = false ∧ mget 0 (yWindow d c y).1.yrw.cons c = 0) ∧
  (∀ (d : Dev) (c y n : Nat), c < 32 → (y < fget d (Reg.YRW_WIN_LIM c) 11 0 ∨ fget d (Reg.YRW_WIN_LIM c) 27 16 < y) →
    rbit d (Reg.YRW_WIN_LIM c) 31 = true → mget 0 d.yrw.cons c = fget d (Reg.YRW_WIN_LIM c) 29 28 → n < 32 →
    rbit d (Reg.YRW_WIN_DROP c) n = true →
    (yWindow d c y).2 = true ∧ rbit (yWindow d c y).1 Reg.YRW_WIN_STAT c = true ∧ paLatch (yWindow d c y).1 n = true) ∧
  (∀ (d : Dev) (r : Nat) (v : Word), live d = true → r < 9 → v.toNat % 65536 = fget d (Reg.YRW_RES0 r) 31 16 →
    Does (.yrwResAck r v) d (cbit d (Reg.YRW_RES0 r) 0)) ∧
  (∀ (d : Dev) (r : Nat) (v : Word), live d = true → r < 9 → v.toNat % 65536 ≠ fget d (Reg.YRW_RES0 r) 31 16 →
    Does (.yrwResAck r v) d (cnt d Reg.YRW_CNT_ACKBAD 1))

/-- R310, R311, R313: one injected request is held, a second is refused; it can be cancelled before it converts, converts at its instant
when Yarrow is free, and its result goes to set 8. A calibration phase waits until Yarrow is free, takes 64 conversions, and the second
phase sets OFS16 and GAIN from both sums. -/
def Sys2Proof.Claims.InjectedRequestsAndCalibration : Prop :=
  (∀ d : Dev, live d = true → d.yrw.inj ≠ none → Does .injGo d (cnt (sbit d Reg.YRW_STATUS 0) Reg.YRW_CNT_INJREF 1)) ∧
  (∀ d : Dev, live d = true → d.yrw.inj = none → fget d Reg.YRW_INJ_CFG 17 16 = 0 → rbit d Reg.YRW_INJ_CFG 3 = true →
    Does .injGo d { d with yrw := { d.yrw with inj := some ⟨fget d Reg.YRW_INJ_CFG 15 0, 0, fget d Reg.YRW_INJ_CFG 22 18,
      fget d (Reg.YRW_INJ_CFG + 4) 15 0, some d.air.now, none⟩ } }) ∧
  (∀ (d : Dev) (x : YInj), live d = true → d.yrw.inj = some x → x.start = none →
    Does .injCancel d { d with yrw := { d.yrw with inj := none } }) ∧
  (∀ (d : Dev) (x : YInj) (a : Nat), live d = true → d.yrw.inj = some x → x.start = none → x.trigAt = some a → d.yrw.work = none →
    a * 100000 + x.delay * 786432 ≤ d.air.now * 100000 →
    DoesSome .injSampling d (fun t => t.yrw.work = some (.inj (a * 100000 + x.delay * 786432) (a * 100000 + x.delay * 786432 + 39321600)) ∧
      rbit t Reg.YRW_STATUS 3 = true)) ∧
  (∀ (d : Dev) (raws : List Word) (x : YInj) (st e : Nat), live d = true → d.yrw.inj = some x → x.start = some st →
    st + 39321600 ≤ d.air.now * 100000 → d.yrw.work = some (.inj st e) → d.yrw.cal = none →
    DoesSome (.injResult raws) d (fun t => t.yrw.inj = none ∧ rbit t (Reg.YRW_RES0 8) 0 = true ∧
      rd64 t (Reg.YRW_RES_TIME 8) = st / 100000 % 2 ^ 64 ∧ CountedBy d t Reg.YRW_CNT_CONV x.slots.length)) ∧
  (∀ (d : Dev) (ch : Nat), live d = true → ch < 32 → d.yrw.cal = none → d.yrw.work = none →
    DoesSome (.calPhase0 ch) d (fun t => t.yrw.cal = some (ch, 0, 0) ∧ fget t Reg.YRW_CAL_STATUS 1 0 = 1 ∧
      fget t Reg.YRW_CAL_STATUS 9 5 = ch ∧ fget t Reg.YRW_CAL_STATUS 4 2 = 0)) ∧
  (∀ (d : Dev) (ch target : Nat), live d = true → ch < 32 → target < 4096 → d.yrw.cal = none → d.yrw.work = none →
    DoesSome (.calPhase1 ch target) d (fun t => t.yrw.cal = some (ch, 1, target) ∧ fget t Reg.YRW_CAL_STATUS 1 0 = 1 ∧
      fget t Reg.YRW_CAL_STATUS 9 5 = ch)) ∧
  (∀ (d : Dev) (ch : Nat), live d = true → d.yrw.cal ≠ none →
    DoesSome (.calPhase0 ch) d (fun t => t.yrw = d.yrw ∧ fget t Reg.YRW_CAL_STATUS 4 2 = 3)) ∧
  (∀ (d : Dev) (ch ph tgt : Nat), live d = true → d.yrw.cal = some (ch, ph, tgt) → d.yrw.inj = none → d.yrw.work = none →
    DoesSome .calPhaseStart d (fun t => t.yrw.work = some (.cal ch ph tgt (d.air.now * 100000 + 64 * 39321600)) ∧ t.yrw.cal = none ∧
      fget t Reg.YRW_CAL_STATUS 1 0 = 2)) ∧
  (∀ (d : Dev) (raws : List Word) (ch tgt ends : Nat), live d = true → d.yrw.work = some (.cal ch 0 tgt ends) →
    ends ≤ d.air.now * 100000 → d.yrw.cal = none →
    DoesSome (.calPhaseEnd raws) d (fun t =>
      mget 0 t.yrw.m0 ch = (List.range 64).foldl (fun s i => s + (raws.getD i 0).toNat % 4096) 0 + 1 ∧
      fget t Reg.YRW_CAL_STATUS 1 0 = 3 ∧ fget t Reg.YRW_CAL_STATUS 4 2 = 0 ∧ CountedBy d t Reg.YRW_CNT_CONV 64)) ∧
  (∀ (d : Dev) (raws : List Word) (ch tgt ends ofs g : Nat), live d = true → d.yrw.work = some (.cal ch 1 tgt ends) →
    ends ≤ d.air.now * 100000 → d.yrw.cal = none → ch < 32 → mget 0 d.yrw.m0 ch ≠ 0 →
    calValues (mget 0 d.yrw.m0 ch - 1) ((List.range 64).foldl (fun s i => s + (raws.getD i 0).toNat % 4096) 0) tgt = some (ofs, g) →
    DoesSome (.calPhaseEnd raws) d (fun t => rw t (Reg.YRW_CAL_CH ch) = ofs + g * 2 ^ 16 ∧ mget 0 t.srl.cal ch = ofs + g * 2 ^ 16 ∧
      mget 0 t.yrw.m0 ch = 0 ∧ fget t Reg.YRW_CAL_STATUS 4 2 = 0))

/-- R298, R302, R306, R308 to R314: PA enables, and the sequences, results, injected requests and calibration of Yarrow. -/
def Obligations.TransmitAndMeasurementEvents : Prop :=
  Sys2Proof.Claims.PaEnablesFollowTheirRules ∧ Sys2Proof.Claims.SequencesAreTriggeredAndSampled ∧ Sys2Proof.Claims.ResultsAreCalibratedComparedAndShown ∧
  Sys2Proof.Claims.InjectedRequestsAndCalibration

namespace Sys2Proof.Claims
open Sys2Proof.Machine Sys2Proof.Safety

/-- A frame of 64 bytes or more, not above MAX_LEN, with a good FCS and no PCS error, reaches a MAC that runs without FEC and whose FIFO has
room; it is no MAC control frame. `bs` is the frame without its FCS. -/
structure Accepted (d : Dev) (m : Nat) (bs : List Byte) : Prop where
  live : live d = true
  runs : macRuns d m = true
  noFec : bits (macCfg d m) 4 3 = 0
  long : 60 ≤ bs.length
  short : bs.length + 4 ≤ macMaxLen d m
  room : fifoUsed d (m / 4) + (bs.length + 4) ≤ 2 ^ 20
  data : (parseFrame bs false).etype ≠ 0x8808

/-- `ts` is the present air time with the correction `corr`, as near as R343 says. -/
def StampOf (d : Dev) (m corr ts : Nat) : Prop :=
  ∃ off : Int, off.natAbs ≤ (if macMode d (m / 4) = 5 ∧ bits (macCfg d m) 2 1 = 0 then 7 else 3) ∧
    ts = pat 64 ((d.air.now : Int) + off + sx 16 corr)

/-- The device once the MAC has counted the bytes of a frame of `n` bytes. -/
def heard (d : Dev) (m n : Nat) : Dev := macCnt d m (Reg.MAC_RX_BYTES 0 0) n

end Sys2Proof.Claims

open Sys2Proof Sys2Proof.Machine Sys2Proof.Safety Sys2Proof.Claims

/-! ## Ethernet MACs -/

/-- R323, R324, R327, R331, R333: a received frame that finds no room, is too short or has a bad FCS is dropped and counted in one
counter; an accepted frame that matches an entry without a window check waits in the FIFO with the bytes of DELIVER and the queue and
ring of its entry; one that matches none goes to the default queue, or is dropped and counted; an EARLY or LATE frame whose window drops
is counted in both counters. -/
def Sys2Proof.Claims.ReceivedFramesAreClassified : Prop :=
  (∀ bs : List Byte, fcsGood (bs ++ fcsOf bs) = true) ∧
  (∀ (d : Dev) (m : Nat) (fr : List Byte) (pcs : Bool) (corr uncorr per : Nat), live d = true → macRuns d m = true →
    bits (macCfg d m) 4 3 = 0 → 2 ^ 20 < fifoUsed d (m / 4) + min fr.length (macMaxLen d m) →
    Does (.frameReceive m fr pcs corr uncorr per) d
      (sbit (macCnt (heard d m fr.length) m (Reg.MAC_RX_FIFO 0 0) 1) (Reg.MACG_STATUS (m / 4)) 1)) ∧
  (∀ (d : Dev) (m : Nat) (fr : List Byte) (pcs : Bool) (corr uncorr per : Nat), live d = true → macRuns d m = true →
    bits (macCfg d m) 4 3 = 0 → fifoUsed d (m / 4) + min fr.length (macMaxLen d m) ≤ 2 ^ 20 → fr.length < 64 →
    Does (.frameReceive m fr pcs corr uncorr per) d (macCnt (heard d m fr.length) m (Reg.MAC_RX_RUNT 0 0) 1)) ∧
  (∀ (d : Dev) (m : Nat) (fr : List Byte) (pcs : Bool) (corr uncorr per : Nat), live d = true → macRuns d m = true →
    bits (macCfg d m) 4 3 = 0 → fifoUsed d (m / 4) + fr.length ≤ 2 ^ 20 → 64 ≤ fr.length → fr.length ≤ macMaxLen d m →
    (pcs = true ∨ fcsGood fr = false) →
    Does (.frameReceive m fr pcs corr uncorr per) d (macCnt (heard d m fr.length) m (Reg.MAC_RX_FCS 0 0) 1)) ∧
  (∀ (d : Dev) (m : Nat) (bs : List Byte) (corr uncorr per e : Nat), Accepted d m bs →
    classify d (m / 4) (ftSel d (m / 4)) (flowKey (m % 4) (parseFrame bs false)) = some e →
    bit (flowWord d (m / 4) (ftSel d (m / 4)) e 5) 15 = false → bits (flowWord d (m / 4) (ftSel d (m / 4)) e 4) 27 26 ≠ 2 →
    DoesSome (.frameReceive m (bs ++ fcsOf bs) false corr uncorr per) d (fun t => ∃ f : RxFrame,
      let w := flowWord d (m / 4) (ftSel d (m / 4)) e
      (macOf t m).rx = (macOf d m).rx ++ [f] ∧ f.data = deliverBytes (bits (w 4) 27 26) (bits (w 7) 7 0) bs (parseFrame bs false) ∧
      f.flow = e ∧ f.queue = bits (w 4) 19 0 ∧ f.ring = bits (w 4) 25 20 ∧ f.frmlen = bs.length + 4 ∧
      StampOf d m (fget d (Reg.MAC_PTP_DLY (m / 4) (m % 4)) 15 0) f.ts ∧
      f.notify = (if bit (w 6) 24 then some (bit (w 6) 25, bits (w 6) 23 0) else none) ∧ t.regs = (heard d m (bs.length + 4)).regs)) ∧
  (∀ (d : Dev) (m : Nat) (bs : List Byte) (corr uncorr per : Nat), Accepted d m bs →
    classify d (m / 4) (ftSel d (m / 4)) (flowKey (m % 4) (parseFrame bs false)) = none → bit (macCfg d m) 19 = true →
    DoesSome (.frameReceive m (bs ++ fcsOf bs) false corr uncorr per) d (fun t => ∃ f : RxFrame,
      (macOf t m).rx = (macOf d m).rx ++ [f] ∧ f.data = bs ∧ f.flow = 0xFFF ∧ f.wofs = 0 ∧ f.notify = none ∧
      f.queue = fget d (Reg.MAC_DEFQ (m / 4) (m % 4)) 19 0 ∧ f.ring = fget d (Reg.MAC_DEFQ (m / 4) (m % 4)) 25 20 ∧
      StampOf d m (fget d (Reg.MAC_PTP_DLY (m / 4) (m % 4)) 15 0) f.ts)) ∧
  (∀ (d : Dev) (m : Nat) (bs : List Byte) (corr uncorr per : Nat), Accepted d m bs →
    classify d (m / 4) (ftSel d (m / 4)) (flowKey (m % 4) (parseFrame bs false)) = none → bit (macCfg d m) 19 = false →
    Does (.frameReceive m (bs ++ fcsOf bs) false corr uncorr per) d
      (macCnt (used (heard d m (bs.length + 4))) m (Reg.MAC_RX_MISS 0 0) 1)) ∧
  (∀ (d : Dev) (m : Nat) (bs : List Byte) (p : Parsed) (trunc : Bool) (frmlen ts per e t0 tEnd : Nat), m < 48 →
    let w5 := flowWord d (m / 4) (ftSel d (m / 4)) e 5
    let win := bits w5 14 11
    let a : Int := sx 64 ts
    let tim := rw d (Reg.MAC_WIN_TIM (m / 4) win)
    bit w5 15 = true → frameTime d (m / 4) (ftSel d (m / 4)) e bs p a.toNat = (true, t0, tEnd) →
    rbit d (Reg.MAC_WIN_CFG (m / 4) win) 2 = true →
    (a < (t0 : Int) + sx 16 (bits tim 15 0) * 64 →
      rxMatched d m bs p trunc frmlen ts per e = macCnt (cnt d (Reg.MAC_WIN_EARLY (m / 4) win) 1) m (Reg.MAC_RX_WINDROP 0 0) 1) ∧
    ((t0 : Int) + sx 16 (bits tim 15 0) * 64 ≤ a → (t0 : Int) + sx 16 (bits tim 31 16) * 64 ≤ a →
      rxMatched d m bs p trunc frmlen ts per e = macCnt (cnt d (Reg.MAC_WIN_LATE (m / 4) win) 1) m (Reg.MAC_RX_WINDROP 0 0) 1))

/-- R332, R335 to R337: the first frame in the FIFO is dropped when its queue refuses it or when its hold expires, waits while ring or queue
has no room, and otherwise fills its buffer and leaves with one descriptor; a ring takes its producer index, and is emptied when it is
enabled. -/
def Sys2Proof.Claims.FramesAreDeliveredToTheirRings : Prop :=
  (∀ (d : Dev) (m : Nat) (f : RxFrame) (fs : List RxFrame), live d = true → macPort d m = true → (macOf d m).rx = f :: fs →
    rxQueueOk d m f.queue = false → Does (.frameDelivery m) d (macCnt (popRx d m) m (Reg.MAC_RX_BADQ 0 0) 1)) ∧
  (∀ (d : Dev) (m : Nat) (f : RxFrame) (fs : List RxFrame), live d = true → macPort d m = true → (macOf d m).rx = f :: fs →
    rxQueueOk d m f.queue = true → rxReady d m f = false → Does (.frameDelivery m) d d) ∧
  (∀ (d e : Dev) (m a n : Nat) (f : RxFrame) (fs : List RxFrame), live d = true → macPort d m = true → (macOf d m).rx = f :: fs →
    rxQueueOk d m f.queue = true → rxReady d m f = true → f.flags.testBit 7 = false → f.notify = none →
    fillBufs d m f.ring (max 1 (ceilDiv f.data.length (brBufsz d (m / 4) f.ring))) f.data = some (e, [(a, n)], false) →
    Does (.frameDelivery m) d (macCnt (popRx (produce e f.queue (rxDesc f a n 3)).1 m) m (Reg.MAC_RX_FRAMES 0 0) 1)) ∧
  (∀ (d e : Dev) (m r a n : Nat) (bs : List Byte), brTake d m r (brAvail d (m / 4) r) = (e, .at a) → bs ≠ [] → writeShut e.grade a = false →
    bs.length ≤ brBufsz e (m / 4) r → fillBufs d m r (n + 1) bs = some (memPut e a bs, [(a, bs.length)], false)) ∧
  (∀ (d : Dev) (m : Nat) (f : RxFrame) (fs : List RxFrame), live d = true → macPort d m = true → (macOf d m).rx = f :: fs →
    rxQueueOk d m f.queue = true → rxReady d m f = false → f.hold * 64 * 196608 ≤ (d.air.now - (macOf d m).since) * 100000 →
    Does (.rxHoldExpiry m) d (macCnt (popRx d m) m (Reg.MAC_RX_NOBUF 0 0) 1)) ∧
  (∀ (d : Dev) (m : Nat), (macOf (popRx d m) m).rx = (macOf d m).rx.drop 1 ∧ (macOf (popRx d m) m).since = d.air.now) ∧
  (∀ (d : Dev) (g r : Nat) (v : Word), live d = true → g < 12 → r < 64 → grpPresent d.grade g = true →
    (v.toNat % 2 ^ 17 + 2 ^ 17 - rw d (Reg.MAC_BR_CONS g r)) % 2 ^ 17 ≤ brDepth d g r →
    Does (.macBrProd g r v) d (ww d (Reg.MAC_BR_PROD g r) (v.toNat % 2 ^ 17))) ∧
  (∀ (d : Dev) (g r : Nat) (v : Word), live d = true → g < 12 → r < 64 → grpPresent d.grade g = true →
    brDepth d g r < (v.toNat % 2 ^ 17 + 2 ^ 17 - rw d (Reg.MAC_BR_CONS g r)) % 2 ^ 17 →
    Does (.macBrProd g r v) d (sbit d (Reg.MACG_STATUS g) 2)) ∧
  (∀ (d : Dev) (g r : Nat) (v : Word), live d = true → g < 12 → r < 64 → grpPresent d.grade g = true → v.toNat.testBit 0 = true →
    (rbit d (Reg.MAC_BR_CFG g r) 0 = false ∨ v.toNat % 2 ^ 14 / 2 = rw d (Reg.MAC_BR_CFG g r) / 2) →
    DoesSome (.brEnable g r v) d (fun t => rw t (Reg.MAC_BR_CFG g r) = v.toNat % 2 ^ 14 ∧ brAvail t g r = 0 ∧
      rw t (Reg.MAC_BR_PROD g r) = 0 ∧ rw t (Reg.MAC_BR_CONS g r) = 0 ∧ t.mem = d.mem))

/-- R340 to R342, R345, R346, R321: a free line starts the due head with its bytes padded to 60; a head that fails is not sent and shows its
cause; a frame leaves with its FCS and is counted, and leaves its timestamp where it asked for one; POP removes the oldest; a link comes up
and goes down. -/
def Sys2Proof.Claims.FramesAreLaunchedAndSent : Prop :=
  (∀ (d e : Dev) (m : Nat) (h : TxHead) (bs : List Byte), live d = true → macRuns d m = true → (macOf d m).on = none →
    dueHead d m = some h → txCause d m h = 0 → readIn d (dbits h.desc 0 47 0) (dbits h.desc 0 63 48) = (e, .bytes bs) →
    bit (dbits h.desc 12 31 0) 2 = false → bit (dbits h.desc 12 31 0) 3 = false →
    DoesSome (.frameLaunch m) d (fun t => (macOf t m).on = some (bs ++ List.replicate (60 - bs.length) 0, h.desc) ∧
      (macOf t m).heads = (macOf d m).heads.filter (fun x => decide (x.q ≠ h.q)) ∧ t.mem = e.mem ∧
      (bs.length < 60 → CountedBy e t (Reg.MAC_TX_PAD (m / 4) (m % 4)) 1) ∧ (60 ≤ bs.length → t.regs = e.regs))) ∧
  (∀ (d : Dev) (m : Nat) (h : TxHead), live d = true → macRuns d m = true → (macOf d m).on = none → dueHead d m = some h →
    txCause d m h ≠ 0 → h.q < 16384 → dbits h.desc 12 13 13 = 0 →
    DoesSome (.frameLaunch m) d (fun t => (macOf t m).on = none ∧
      (macOf t m).heads = (macOf d m).heads.filter (fun x => decide (x.q ≠ h.q)) ∧
      rw t (Reg.MAC_TXERR (m / 4) (m % 4)) = txCause d m h + h.q * 2 ^ 8 ∧
      rw t (Reg.MAC_TXERR (m / 4) (m % 4) + 4) = dbits h.desc 28 15 0 ∧ rbit t (Reg.MACG_STATUS (m / 4)) 4 = true ∧
      CountedBy d t (Reg.MAC_TX_DESCERR (m / 4) (m % 4)) 1 ∧
      CountedBy d t (Reg.MAC_TX_LATE (m / 4) (m % 4)) (if txCause d m h = 4 then 1 else 0))) ∧
  (∀ (d : Dev) (m : Nat), live d = true → macRuns d m = true → (macOf d m).on = none → dueHead d m = none → Does (.frameLaunch m) d d) ∧
  (∀ (d : Dev) (m : Nat) (bs x : List Byte), live d = true → m < 48 → (macOf d m).on = some (bs, x) → bit (dbits x 12 31 0) 1 = false →
    bit (dbits x 12 31 0) 2 = false → dbits x 12 13 13 = 0 →
    DoesSome (.frameSent m) d (fun t => (macOf t m).wire = bs ++ fcsOf bs ∧ (macOf t m).on = none ∧
      (macOf t m).heads = (macOf d m).heads ∧ (macOf t m).txts = (macOf d m).txts ∧ t.mem = d.mem ∧
      CountedBy d t (Reg.MAC_TX_FRAMES (m / 4) (m % 4)) 1 ∧ CountedBy d t (Reg.MAC_TX_BYTES (m / 4) (m % 4)) (bs.length + 4))) ∧
  (∀ (d : Dev) (m : Nat) (bs x : List Byte), live d = true → m < 48 → (macOf d m).on = some (bs, x) → bit (dbits x 12 31 0) 1 = true →
    dbits x 12 13 13 = 0 → (macOf d m).txts.length < 16 →
    DoesSome (.frameSent m) d (fun t => ∃ ts, (macOf t m).txts = (macOf d m).txts ++ [(ts, dbits x 28 15 0)] ∧
      StampOf d m (fget d (Reg.MAC_PTP_DLY (m / 4) (m % 4)) 31 16) ts)) ∧
  (∀ (d : Dev) (m : Nat) (bs x : List Byte), live d = true → m < 48 → (macOf d m).on = some (bs, x) → bit (dbits x 12 31 0) 1 = true →
    dbits x 12 13 13 = 0 → 16 ≤ (macOf d m).txts.length →
    DoesSome (.frameSent m) d (fun t => (macOf t m).txts = (macOf d m).txts ∧ (macOf t m).on = none ∧
      CountedBy d t (Reg.MAC_TX_TSOVF (m / 4) (m % 4)) 1)) ∧
  (∀ (d : Dev) (t : Nat) (bs : List Byte) (o : Nat), ptpOffset bs = some o → t < 2 ^ 64 →
    beNum (slice (oneStep d t bs) (o + 34) 6) = (ptpOf d t).1 % 2 ^ 48 ∧ beNum (slice (oneStep d t bs) (o + 40) 4) = (ptpOf d t).2.1 ∧
    beNum (slice (oneStep d t bs) (o + 8) 8) = (beNum (slice bs (o + 8) 8) + (ptpOf d t).2.2) % 2 ^ 64) ∧
  (∀ (d : Dev) (m ts tag ts2 tag2 : Nat) (l : List (Nat × Nat)), live d = true → m < 48 →
    (macOf d m).txts = (ts, tag) :: (ts2, tag2) :: l → ts2 < 2 ^ 64 → tag2 < 2 ^ 16 → l.length < 16 →
    DoesSome (.macTxtsPop m) d (fun t => (macOf t m).txts = (ts2, tag2) :: l ∧ rd64 t (Reg.MAC_TXTS (m / 4) (m % 4)) = ts2 ∧
      fget t (Reg.MAC_TXTS_INFO (m / 4) (m % 4)) 15 0 = tag2)) ∧
  (∀ (d : Dev) (m : Nat), live d = true → (macOf d m).txts = [] → Does (.macTxtsPop m) d d) ∧
  (∀ (d : Dev) (m : Nat), live d = true → macPort d m = true → bit (macCfg d m) 0 = true →
    rbit d (Reg.MAC_LINK (m / 4) (m % 4)) 0 = false → d.pwr.listen = false →
    DoesSome (.macLinkUp m) d (fun t => rbit t (Reg.MAC_LINK (m / 4) (m % 4)) 0 = true ∧
      rbit t (Reg.MAC_LINK (m / 4) (m % 4)) 1 = false ∧
      rbit t (Reg.MAC_LINK (m / 4) (m % 4)) 2 = decide (bits (macCfg d m) 4 3 ≠ 0) ∧ t.mac = d.mac)) ∧
  (∀ (d : Dev) (m : Nat) (los : Bool), live d = true → m < 48 → rbit d (Reg.MAC_LINK (m / 4) (m % 4)) 0 = true →
    DoesSome (.macLinkDown m los) d (fun t => rbit t (Reg.MAC_LINK (m / 4) (m % 4)) 0 = false ∧
      rbit t (Reg.MAC_LINK (m / 4) (m % 4)) 1 = los ∧ rbit t (Reg.MAC_LINK (m / 4) (m % 4)) 3 = true ∧
      CountedBy d t (Reg.MAC_LINK_DOWN (m / 4) (m % 4)) 1 ∧ t.mac = d.mac))

/-- R323 to R346: frames through a MAC, both ways. -/
def Obligations.FramesAreReceivedAndSent : Prop :=
  Sys2Proof.Claims.ReceivedFramesAreClassified ∧ Sys2Proof.Claims.FramesAreDeliveredToTheirRings ∧ Sys2Proof.Claims.FramesAreLaunchedAndSent

namespace Sys2Proof.Claims
open Sys2Proof.Machine Sys2Proof.Safety

/-- The commands that bring a request packet to its stop, with their operations (R356). -/
def IsReq (e : (Pkt → Instr) × Nat) : Prop := e ∈ ([(Instr.read, 0x01), (Instr.write, 0x02), (Instr.doorbell, 0x20)] : List _)

/-- Packet `p` of operation `op` is well-formed, with the HCRC of its header, on a die that runs. -/
def Sound (d : Dev) (p : Pkt) (op : Nat) : Prop := live d = true ∧ pktOk p op = true ∧ p.hcrc = hcrcOf p

/-- The unit that `a` addresses serves: its domain is ON, or the registers of an absent unit answer for it. -/
def Served (d : Dev) (a : Nat) : Prop := absentReg d.grade a = true ∨ ∀ p, domainOf a = some p → domState d p = 0

end Sys2Proof.Claims

open Sys2Proof Sys2Proof.Machine Sys2Proof.Safety Sys2Proof.Claims

/-! ## Fabric -/

/-- R357, R360, R370, R371, R372: a request that reaches its stop is performed and answered; one with a bad header check is discarded
without an answer; an expired one is discarded; one for a domain that is off is held and wakes it; packets of one source, destination and
network arrive in order. -/
def Sys2Proof.Claims.RequestsReachTheirStops : Prop :=
  (∀ e, IsReq e → ∀ (d : Dev) (p : Pkt), Sound d p e.2 → p ∉ d.fab.flight → expired d p = false → Served d p.addr →
    Does (e.1 p) d (perform d p)) ∧
  (∀ e, IsReq e → ∀ (d : Dev) (p : Pkt), Sound d p e.2 → p ∈ d.fab.flight → firstOf d p = true → expired d p = false → Served d p.addr →
    Does (e.1 p) d (perform (landed d p) p)) ∧
  (∀ e, IsReq e → ∀ (d : Dev) (p : Pkt), Sound d p e.2 → p ∈ d.fab.flight → firstOf d p = false → Does (e.1 p) d d) ∧
  (∀ e, IsReq e → ∀ (d : Dev) (p : Pkt), Sound d p e.2 → p ∉ d.fab.flight → expired d p = true →
    Does (e.1 p) d (cnt d Reg.FAB_CNT_EXPIRED 1)) ∧
  (∀ e, IsReq e → ∀ (d : Dev) (p : Pkt), live d = true → pktOk p e.2 = true → p.hcrc ≠ hcrcOf p →
    DoesSome (e.1 p) d (fun t => CountedBy d t Reg.FAB_CNT_HDRERR 1 ∧ rbit t Reg.FAB_STATUS 5 = true ∧ t.mem = d.mem ∧
      t.fab.outst = d.fab.outst ∧ t.fab.flight.length ≤ d.fab.flight.length)) ∧
  (∀ e, IsReq e → ∀ (d : Dev) (p : Pkt) (dom : Nat), Sound d p e.2 → p ∉ d.fab.flight → expired d p = false →
    absentReg d.grade p.addr = false → domainOf p.addr = some dom → domPresent d.grade dom = true → domState d dom = 3 →
    (heldFor d.fab.heldPk dom p.vn).length < 32 → heldFor d.fab.circ dom p.vn = [] →
    DoesSome (e.1 p) d (fun t => t.fab.heldPk = d.fab.heldPk ++ [(dom, p)] ∧ domState t dom = 4 ∧ t.pwr.wakeq = d.pwr.wakeq ++ [dom] ∧
      CountedBy d t Reg.FAB_CNT_WAKEHOLD 1 ∧ t.mem = d.mem)) ∧
  (∀ e, IsReq e → ∀ (d : Dev) (p : Pkt) (dom : Nat), Sound d p e.2 → p ∉ d.fab.flight → expired d p = false →
    absentReg d.grade p.addr = false → domainOf p.addr = some dom → domState d dom = 1 →
    Does (e.1 p) d (perform (drainAbandoned d dom) p)) ∧
  (∀ (d e : Dev) (p : Pkt) (r : Reply), p.op = 0x01 → serveRead d p.who p.addr (p.lenm1 + 1) = (e, some r) →
    perform d p = inject e (answerTo p r.status r.data r.syn)) ∧
  (∀ (d e : Dev) (p : Pkt) (st : Nat), (p.op = 0x02 ∨ p.op = 0x20) → serveWrite d p.who p.addr p.data p.mask p.syn = (e, some st) →
    perform d p = inject e (answerTo p st [] [])) ∧
  (∀ (d e : Dev) (who : Who) (a n : Nat) (bs : List Byte), unitDown d a = false → coreGone d a = false → isReg a = false →
    presentRange d.grade a n = true → inMem d.grade a n = true → memRead d a n = (e, .ok, bs) →
    serveRead d who a n = (e, some ⟨0, bs, []⟩) ∧ bs = getBytes e.mem a n) ∧
  (∀ (d e f : Dev) (who : Who) (a : Nat) (bs : List Byte) (mask : List Bool) (syn : List Nat), unitDown d a = false →
    coreGone d a = false → isReg a = false → presentRange d.grade a bs.length = true → inMem d.grade a bs.length = true →
    writeShut d.grade a = false → cohWrite d a bs.length = (e, true) → memWrite e a bs mask syn = some f →
    serveWrite d who a bs mask syn = (f, some 0)) ∧
  (∀ (d : Dev) (who : Who) (a n : Nat), unitDown d a = false → coreGone d a = false → isReg a = false → inMem d.grade a n = false →
    (a < 0x1000000000 ∨ 0x1020000000 ≤ a) → serveRead d who a n = (d, some ⟨1, [], []⟩)) ∧
  (∀ (d : Dev) (who : Who) (a n : Nat), unitDown d a = true → serveRead d who a n = (d, some ⟨2, [], []⟩))

/-- R84, R85, R370: an answer that arrives in time ends its request and is given to its initiator: a load writes its registers, a store is
acknowledged, and a status other than OK is a deferred exception; an expired answer is discarded. The initiator's own stop answers
TIMEOUT for a request that has expired. -/
def Sys2Proof.Claims.AnswersReachTheirInitiators : Prop :=
  (∀ (d : Dev) (c tag : Nat) (p : Pkt), live d = true → d.fab.flight.find? (fun q => q.op = 0x10 ∧ q.who = .core c ∧ q.tag = tag) = some p →
    firstOf d p = true → p.src = p.dst ∨ (expired d p = false ∧ ∃ q ∈ d.fab.outst, q.who = .core c ∧ q.tag = tag) →
    Does (.rdata (.core c) tag) d (coreRdata { landed d p with fab := { (landed d p).fab with
      outst := eraseFirst (fun q => decide (q.who = .core c) && decide (q.tag = tag)) d.fab.outst } } c tag p.status p.data)) ∧
  (∀ (d : Dev) (c tag : Nat) (p : Pkt), live d = true → d.fab.flight.find? (fun q => q.op = 0x11 ∧ q.who = .core c ∧ q.tag = tag) = some p →
    firstOf d p = true → p.src = p.dst ∨ (expired d p = false ∧ ∃ q ∈ d.fab.outst, q.who = .core c ∧ q.tag = tag) →
    Does (.wack (.core c) tag) d (coreWack { landed d p with fab := { (landed d p).fab with
      outst := eraseFirst (fun q => decide (q.who = .core c) && decide (q.tag = tag)) d.fab.outst } } c tag p.status)) ∧
  (∀ (d : Dev) (who : Who) (tag : Nat) (p : Pkt), live d = true → d.fab.flight.find? (fun q => q.op = 0x10 ∧ q.who = who ∧ q.tag = tag) = some p →
    firstOf d p = true → p.src ≠ p.dst → expired d p = true → Does (.rdata who tag) d (cnt (landed d p) Reg.FAB_CNT_EXPIRED 1)) ∧
  (∀ (d : Dev) (who : Who) (tag : Nat) (p : Pkt), live d = true → d.fab.flight.find? (fun q => q.op = 0x11 ∧ q.who = who ∧ q.tag = tag) = some p →
    firstOf d p = true → p.src ≠ p.dst → expired d p = true → Does (.wack who tag) d (cnt (landed d p) Reg.FAB_CNT_EXPIRED 1)) ∧
  (∀ (d : Dev) (c tag kind dest v : Nat) (data : List Byte) (r : Rmt), (coreOf d c).doneDue = none →
    (coreOf d c).rmt.find? (fun r => decide (r.tag = tag) && !r.isSt) = some r → r.kind = kind → r.dests = [dest] →
    loadVals kind (ofBytes data) = [v] →
    ∃ t, coreRdata d c tag 0 data = t ∧
      bankOf (coreOf t c) r.bank = bankWrite (bankOf (coreOf d c) r.bank) dest v ∧ (coreOf t c).deferred = (coreOf d c).deferred ∧
      (coreOf t c).rmt = eraseFirst (fun q => decide (q.tag = tag) && !q.isSt) (coreOf d c).rmt) ∧
  (∀ (d : Dev) (c tag st : Nat) (data : List Byte) (r : Rmt), (coreOf d c).doneDue = none → st ≠ 0 →
    (coreOf d c).rmt.find? (fun r => decide (r.tag = tag) && !r.isSt) = some r →
    (coreOf (coreRdata d c tag st data) c).deferred = (coreOf d c).deferred ++ [⟨0x10, 0, 0, 0, r.bank, r.dreg, r.addr, false⟩] ∧
    (coreOf (coreRdata d c tag st data) c).banks = (coreOf d c).banks) ∧
  (∀ (d : Dev) (c tag st : Nat) (r : Rmt), (coreOf d c).doneDue = none →
    (coreOf d c).rmt.find? (fun r => decide (r.tag = tag) && r.isSt) = some r →
    (coreOf (coreWack d c tag st) c).deferred = (coreOf d c).deferred ++
      (if st = 0 then [] else [⟨0x10, 0, 0, 0, r.bank, r.dreg, r.addr, true⟩])) ∧
  (∀ (d : Dev) (who : Who) (tag : Nat) (p : Pkt), live d = true → d.fab.outst.find? (fun p => p.who = who ∧ p.tag = tag) = some p →
    expired d p = true →
    DoesSome (.requestTimeout who tag) d (fun t => rbit t Reg.FAB_STATUS 6 = true ∧
      t.fab.outst = eraseFirst (fun q => decide (q = p)) d.fab.outst ∧
      CountedBy d t (match tmoClass p with | 0 => Reg.FAB_CNT_TMO_REQ | 1 => Reg.FAB_CNT_TMO_PST | _ => Reg.FAB_CNT_TMO_CTL) 1 ∧
      ∃ a, t.fab.flight = d.fab.flight ++ [a] ∧ a.status = 5 ∧ a.tag = p.tag ∧ a.who = p.who ∧ a.src = a.dst)) ∧
  (∀ (d : Dev) (who : Who) (tag : Nat) (p : Pkt), live d = true → d.fab.outst.find? (fun p => p.who = who ∧ p.tag = tag) = some p →
    expired d p = false → Does (.requestTimeout who tag) d d)

/-- R84, R85, R357, R360, R370 to R372: requests and answers of the fabric. -/
def Obligations.RequestsAndAnswersTravel : Prop :=
  Sys2Proof.Claims.RequestsReachTheirStops ∧ Sys2Proof.Claims.AnswersReachTheirInitiators

/-- R356, R362, R364, R366, R368: an interrupt reaches its core; replays are counted and mark a link when they are too many; a mark is logged,
kept, takes packets off the broken ring routes and begins an epoch change, whose tables, FLIP and release follow in turn; a link returns
to service after a clean test. STOP packets carry the commit, snapshot and route steps. -/
def Obligations.LinksFailAndEpochsChange : Prop :=
  (∀ (d : Dev) (c i : Nat), live d = true → corePresent d.grade c = true → domState d (c / 8) = 0 →
    d.owed.find? (fun n => match n with | .irq k _ => decide (k = c) | _ => false) = some (.irq c i) →
    Does (.irq c) d (sbit { d with owed := eraseFirst (fun n => decide (n = .irq c i)) d.owed } (ccr c 0x010) i)) ∧
  (∀ (d : Dev) (kind id : Nat), live d = true → (kind = 0 ∨ kind = 2) → id < linkIds kind → d.fab.winAt = d.fab.age / 1966080 →
    mget 0 d.fab.replays (kind * 128 + id) < fget d Reg.FAB_CTRL 15 8 →
    DoesSome (.linkReplay kind id false) d (fun t => CountedBy d t Reg.FAB_CNT_REPLAY 1 ∧ isFailed t kind id = isFailed d kind id ∧
      mget 0 t.fab.replays (kind * 128 + id) = mget 0 d.fab.replays (kind * 128 + id) + 1 ∧ t.fab.flight = d.fab.flight)) ∧
  (∀ (d : Dev) (kind id : Nat), live d = true → (kind = 0 ∨ kind = 2) → id < linkIds kind → rbit d Reg.FAB_CTRL 0 = true →
    DoesSome (.linkReplay kind id true) d (fun t => isFailed t kind id = true)) ∧
  (∀ (d : Dev) (kind id : Nat), live d = true → id < linkIds kind → rbit d Reg.FAB_CTRL 0 = true →
    DoesSome (.heartbeatLoss kind id) d (fun t => isFailed t kind id = true)) ∧
  (∀ (d : Dev) (kind id : Nat), live d = true → id < linkIds kind → rbit d Reg.FAB_CTRL 0 = false → isFailed d kind id = false →
    Does (.heartbeatLoss kind id) d (logFail d kind id 3)) ∧
  (∀ (d : Dev) (kind id : Nat), live d = true → id < linkIds kind → isFailed d kind id = false → rbit d Reg.FAB_STATUS 0 = false →
    DoesSome (.reconfMarkFailed kind id) d (fun t => isFailed t kind id = true ∧ rbit t Reg.FAB_STATUS 0 = true ∧ t.fab.step = 1 ∧
      t.fab.tables = 0 ∧ t.fab.flipped = 0 ∧ rw t Reg.FAB_LOG = id + kind * 2 ^ 7 + 4 * 2 ^ 9 ∧
      rbit t Reg.MON_REPLACE (if kind = 2 then 4 else 3) = true ∧
      ∀ p ∈ t.fab.flight, p.tor = false → p.src ≠ p.dst → ringFree t p.src p.dst = true)) ∧
  (∀ (d : Dev) (kind id : Nat), live d = true → id < linkIds kind → isFailed d kind id = true →
    Does (.reconfMarkFailed kind id) d (sbit d Reg.FAB_STATUS 7)) ∧
  (∀ (d : Dev) (kind id : Nat), live d = true → id < linkIds kind →
    DoesSome (.reconfReturn kind id) d (fun t => (⟨kind, id, d.fab.age, false⟩ : RtsTest) ∈ t.fab.rts ∧ t.regs = d.regs)) ∧
  (∀ (d : Dev) (kind id since : Nat), live d = true → id < linkIds kind → rbit d Reg.FAB_STATUS 0 = false →
    d.fab.rts.find? (fun t => t.kind = kind ∧ t.id = id) = some ⟨kind, id, since, false⟩ → usPassed d since 1000 = true →
    DoesSome (.rtsTestEnd kind id) d (fun t => isFailed t kind id = false ∧ t.fab.step = 1 ∧ rbit t Reg.FAB_STATUS 0 = true)) ∧
  (∀ (d : Dev) (kind id since : Nat), live d = true → d.fab.rts.find? (fun t => t.kind = kind ∧ t.id = id) = some ⟨kind, id, since, true⟩ →
    usPassed d since 1000 = true →
    DoesSome (.rtsTestEnd kind id) d (fun t => rbit t Reg.FAB_STATUS 8 = true ∧ t.fab.step = d.fab.step)) ∧
  (∀ (d : Dev) (s : Nat), live d = true → s < 56 → d.fab.step = 1 →
    Does (.stop .table s) d { d with fab := { d.fab with tables := d.fab.tables ||| 2 ^ s } }) ∧
  (∀ (d : Dev), live d = true → d.fab.step = 1 → d.fab.tables = 2 ^ 56 - 1 → Does .epochFlip d { d with fab := { d.fab with step := 2 } }) ∧
  (∀ (d : Dev), live d = true → d.fab.tables ≠ 2 ^ 56 - 1 → Does .epochFlip d d) ∧
  (∀ (d : Dev) (s : Nat), live d = true → s < 56 → d.fab.step = 2 →
    Does (.stop .flip s) d { d with fab := { d.fab with flipped := d.fab.flipped ||| 2 ^ s } }) ∧
  (∀ (d : Dev), live d = true → d.fab.step = 2 → d.fab.flipped = 2 ^ 56 - 1 → rbit d Reg.FAB_STATUS 2 = false → d.fab.circ = [] →
    (∀ p ∈ d.fab.flight, p.src = p.dst ∨ p.epoch ≠ b2n (rbit d Reg.FAB_STATUS 1)) →
    DoesSome .epochRelease d (fun t => rbit t Reg.FAB_STATUS 1 = !rbit d Reg.FAB_STATUS 1 ∧ rbit t Reg.FAB_STATUS 0 = false ∧
      t.fab.step = 0 ∧ CountedBy d t Reg.FAB_CNT_EPOCH 1)) ∧
  (∀ (d : Dev) (p : Pkt), live d = true → d.fab.step = 2 → p ∈ d.fab.flight → p.src ≠ p.dst → p.epoch = b2n (rbit d Reg.FAB_STATUS 1) →
    Does .epochRelease d d) ∧
  (∀ (s : State) (n : Nat), n < 56 → exec (.stop .arm n) s = exec .commitArm s ∧ exec (.stop .cancel n) s = exec (.commitDecide []) s ∧
    exec (.stop .snapshot n) s = exec .snapshotCapture s)

open Sys2Proof Sys2Proof.Machine Sys2Proof.Safety Sys2Proof.Claims

/-! ## Hardware consumers and control registers -/

/-- R218, R231, R341: a hardware consumer takes the entry at HEAD of the queue whose turn it is: Tansy as ACCEPT does, a free engine instance
as its job, a MAC as one more head to launch. -/
def Obligations.HardwareConsumersTakeTheHead : Prop :=
  (∀ (d t : Dev) (q : Nat), live d = true → qType d q = 0 → nextWork d = some q → Does .descriptorAccept d t → Does (.hwConsume q) d t) ∧
  (∀ (d e : Dev) (q kind j : Nat) (bs : List Byte), live d = true → qType d q = 2 → kind = qUnit d q / 32 → j = qUnit d q % 32 →
    engNext d kind j = some q → domState d (engDomain kind) = 0 → engEn d kind j = true → (engOf d (engKey kind j)).job = none →
    hwTake d q = (e, .entry bs) →
    DoesSome (.hwConsume q) d (fun t => (engOf t (engKey kind j)).job = some ⟨bs, none⟩ ∧ (engOf t (engKey kind j)).rot = q + 1 ∧
      t.qs = e.qs ∧ t.mem = e.mem)) ∧
  (∀ (d e : Dev) (q m : Nat) (bs : List Byte), live d = true → qType d q = 4 → m = qUnit d q → macPort d m = true →
    (∀ h ∈ (macOf d m).heads, h.q ≠ q) → hwTake d q = (e, .entry bs) →
    DoesSome (.hwConsume q) d (fun t => ∃ h : TxHead, (macOf t m).heads = (macOf d m).heads ++ [h] ∧ h.q = q ∧ h.desc = bs ∧
      (dbits bs 12 0 0 = 0 → h.launch = d.air.now) ∧
      (dbits bs 12 0 0 = 1 → h.launch = fullTick (tickNow d) (dbits bs 8 31 0) * 64) ∧ t.qs = e.qs)) ∧
  (∀ (d e : Dev) (q : Nat) (bs : List Byte), (qOf d q).st = 1 → 0 < avail (qOf d q).slots →
    memRead d (qBase d q + (qOf d q).head * qEsz d q) (qEsz d q) = (e, .ok, bs) →
    (hwTake d q).2 = .entry bs ∧ (qOf (hwTake d q).1 q).owed = (qOf d q).owed ∧
    (qOf (hwTake d q).1 q).slots = ((qOf d q).slots.drop 1).dropWhile (fun s => decide (s = .void)))

/-- R18 to R22, R51, R55: a write acts on each field by its access code and on nothing else; staged fields wait, show at their own offset, and
leave the value in effect; a read returns the word, clears RC fields, and has the views in effect and of the snapshot beside it. A write
that does not fit is refused. -/
def Obligations.AccessCodesDecideWritesAndReads : Prop :=
  (∀ (d : Dev) (a v i : Nat), i < 32 → (accMask a (fun x => decide (x = .rw))).testBit i = true →
    (accMask a (fun x => decide (x = .w1c))).testBit i = false → (accMask a (fun x => decide (x = .w1s))).testBit i = false →
    (rw (plainWrite d a v) a).testBit i = v.testBit i) ∧
  (∀ (d : Dev) (a v i : Nat), i < 32 → (accMask a (fun x => decide (x = .rw))).testBit i = false →
    (accMask a (fun x => decide (x = .w1c))).testBit i = true → (accMask a (fun x => decide (x = .w1s))).testBit i = false →
    (rw (plainWrite d a v) a).testBit i = ((rw d a).testBit i && !v.testBit i)) ∧
  (∀ (d : Dev) (a v i : Nat), i < 32 → (accMask a (fun x => decide (x = .rw))).testBit i = false →
    (accMask a (fun x => decide (x = .w1c))).testBit i = false → (accMask a (fun x => decide (x = .w1s))).testBit i = false →
    (rw (genericWrite d a v) a).testBit i = (rw d a).testBit i) ∧
  (∀ (d : Dev) (a b v : Nat), b ≠ a → rw (genericWrite d a v) b = rw d b ∧ stagedAt (genericWrite d a v) b = stagedAt d b) ∧
  (∀ (d : Dev) (a v i : Nat), i < 32 → (stgMask a).testBit i = true → (ownWord (genericWrite d a v) a).testBit i = v.testBit i) ∧
  (∀ (d : Dev) (who : Who) (a : Nat), viewOf a = (0, a) → absentReg d.grade a = false → regFits a 4 = true → a < 0x4000000000 →
    readReg d who a 4 = (readClears d a, some (ownWord d a))) ∧
  (∀ (d : Dev) (a i : Nat), i < 32 → (rw (readClears d a) a).testBit i =
    ((rw d a).testBit i && !(accMask a (fun x => decide (x = .rc))).testBit i)) ∧
  (∀ (d : Dev) (who : Who) (a b : Nat), viewOf a = (1, b) → a % 4 = 0 → absentReg d.grade a = false → regFits b 4 = true →
    readReg d who a 4 = (d, some (liveWord d b))) ∧
  (∀ (d : Dev) (who : Who) (a b : Nat), viewOf a = (2, b) → a % 4 = 0 → absentReg d.grade a = false → regFits b 4 = true → snapMask b ≠ 0 →
    readReg d who a 4 = (d, some (snapWord d b))) ∧
  (∀ (d : Dev) (who : Who) (a n v : Nat), (n ≠ 4 ∧ n ≠ 8) ∨ a % n ≠ 0 → writeReg d who a n v = (d, false)) ∧
  (∀ (d : Dev) (who : Who) (a n v : Nat), (n = 4 ∨ n = 8) → a % n = 0 → absentReg d.grade a = true → writeReg d who a n v = (d, true)) ∧
  (∀ (d : Dev) (who : Who) (a n v : Nat), absentReg d.grade a = false → (viewOf a).1 ≠ 0 → writeReg d who a n v = (d, false)) ∧
  (∀ (d : Dev) (who : Who) (a n : Nat) (v : BitVec 64), live d = true → 0x3000000000 ≤ a → a < 0x3010000000 → blockListed a = true →
    unitDown d a = false → addrServes d a = true →
    Does (.registerWrite who a n v) d { (writeReg d who a n v.toNat).1 with answer := if (writeReg d who a n v.toNat).2 then 0 else 2 }) ∧
  (∀ (d : Dev) (who : Who) (a n : Nat) (v : BitVec 64), live d = true → 0x3000000000 ≤ a → a < 0x3010000000 → blockListed a = false →
    Does (.registerWrite who a n v) d { d with answer := 1 }) ∧
  (∀ (d : Dev) (who : Who) (v : BitVec 64), live d = true → unitDown d (Reg.FEN_GL_CFG 0) = false → domState d 37 = 0 →
    DoesSome (.registerWrite who (Reg.FEN_GL_CFG 0) 4 v) d (fun t => t.answer = 0 ∧ rw t (Reg.FEN_GL_CFG 0) = rw d (Reg.FEN_GL_CFG 0)))

/-! ## Power domains -/

/-- R373, R374, R423 to R425: a power-down drains, passes the point of no return when nothing is left, and ends OFF; it is abandoned after 40 µs; a
wake queues, is admitted while fewer than two domains ramp, and serves 4 µs after admission with its cores reset. That the memories of a
domain that was off read 0 is the model's choice (log entry 9). -/
def Obligations.PowerDomainsFollowTheirStates : Prop :=
  (∀ (d : Dev) (p : Nat), live d = true → domState d p = 0 →
    DoesSome (.powerDown p) d (fun t => domState t p = 1 ∧ mget 0 t.pwr.drainAt p = d.fab.age ∧ t.mem = d.mem ∧
      (p < 32 → ∀ k < 8, rbit t (Reg.TSY_CORE_CTL (8 * p + k)) 0 = true))) ∧
  (∀ (d : Dev) (p : Nat), live d = true → domPresent d.grade p = false → Does (.powerDown p) d (sbit d Reg.PWR_STATUS 3)) ∧
  (∀ (d : Dev) (p : Nat), live d = true → (domState d p = 4 ∨ domState d p = 5) →
    DoesSome (.powerDown p) d (fun t => p ∈ t.pwr.downHeld ∧ domState t p = domState d p)) ∧
  (∀ (d : Dev) (p : Nat), live d = true → domState d p = 1 → domQuiet d p = true → Does (.pointOfNoReturn p) d (setDom d p 2)) ∧
  (∀ (d : Dev) (p : Nat), live d = true → domQuiet d p = false → Does (.pointOfNoReturn p) d d) ∧
  (∀ (d : Dev) (p : Nat), live d = true → domState d p = 2 → (∀ x ∈ d.fab.heldPk, x.1 ≠ p) → (∀ x ∈ d.pwr.wakeNpr, x.1 ≠ p) →
    DoesSome (.powerOff p) d (fun t => domState t p = 3 ∧ CountedBy d t Reg.PWR_CNT_OFF 1 ∧
      (∀ a < 2 ^ 48, domainOf a = some p → memKind d.grade a ≠ none → memByte t a = 0 ∧ synOf t a = 0) ∧
      (∀ a < 2 ^ 48, domainOf a ≠ some p → memByte t a = memByte d a ∧ synOf t a = synOf d a))) ∧
  (∀ (d : Dev) (p : Nat), live d = true → domState d p = 2 → (∃ x ∈ d.fab.heldPk, x.1 = p) →
    DoesSome (.powerOff p) d (fun t => domState t p = 4 ∧ p ∈ t.pwr.wakeq)) ∧
  (∀ (d : Dev) (p : Nat), live d = true → domState d p = 1 → d.pwr.listenAt = none → usPassed d (mget 0 d.pwr.drainAt p) 40 = true →
    Does (.powerDownAbandon p) d (drainAbandoned d p)) ∧
  (∀ (d : Dev) (p : Nat), live d = true → usPassed d (mget 0 d.pwr.drainAt p) 40 = false → Does (.powerDownAbandon p) d d) ∧
  (∀ (d : Dev) (p : Nat), live d = true → domPresent d.grade p = true → domState d p = 3 →
    DoesSome (.wake p) d (fun t => domState t p = 4 ∧ t.pwr.wakeq = d.pwr.wakeq ++ [p] ∧
      (p < 32 → ∀ k < 8, isOut d (8 * p + k) = false → rbit t (Reg.TSY_CORE_CTL (8 * p + k)) 0 = false))) ∧
  (∀ (d : Dev) (p : Nat), live d = true → domState d p = 1 →
    DoesSome (.wake p) d (fun t => domState t p = 0 ∧ CountedBy d t Reg.FAB_CNT_PDABORT 1 ∧ t.pwr = { d.pwr with subst := t.pwr.subst } ∧
      (∀ s ∈ t.pwr.subst, s.core / 8 = p → s.started = true))) ∧
  (∀ (d : Dev) (p : Nat) (ps : List Nat), live d = true → d.pwr.wakeq = p :: ps → domPresent d.grade p = true → waking d < 2 →
    DoesSome .wakeAdmit d (fun t => domState t p = 5 ∧ t.pwr.wakeq = ps ∧ mget 0 t.pwr.rampAt p = d.fab.age)) ∧
  (∀ (d : Dev), live d = true → 2 ≤ waking d → Does .wakeAdmit d d) ∧
  (∀ (d : Dev) (p : Nat), live d = true → domState d p = 5 → usPassed d (mget 0 d.pwr.rampAt p) 4 = true →
    (∀ x ∈ d.fab.heldPk ++ d.fab.circ, x.1 ≠ p) → p ∉ d.pwr.downHeld →
    DoesSome (.wakeComplete p) d (fun t => domState t p = 0 ∧ CountedBy d t Reg.PWR_CNT_WAKE 1 ∧
      (p < 32 → ∀ k < 8, coreOf t (8 * p + k) = Core.reset))) ∧
  (∀ (d : Dev) (p : Nat), live d = true → usPassed d (mget 0 d.pwr.rampAt p) 4 = false → Does (.wakeComplete p) d d)

namespace Sys2Proof.Claims
open Sys2Proof.Machine Sys2Proof.Safety

/-- The line at `la` is no special case of R384: it is not in the test window, not reported by its stack, in no table of MEM. -/
structure PlainLine (d : Dev) (la : Nat) : Prop where
  stack : la ∉ d.integ.uncorr
  test : inTest d la = false
  recs : ∀ r ∈ d.integ.recs, r.line ≠ la
  refs : ∀ r ∈ d.integ.refs, r.dst ≠ la
  reports : ∀ r ∈ d.tsy.reports, ∀ s, r ≠ .lineage la s
  kind : memKind d.grade (la % 2 ^ 48) ≠ some .sorrel

/-- A Teasel pass runs, stands at `la` before its last line, and has not been aborted; the line's unit serves it. -/
structure PassAt (d : Dev) (la mode : Nat) : Prop where
  live : live d = true
  running : d.integ.pass.running = true
  going : d.integ.pass.abort = false
  mode : d.integ.pass.mode = mode
  pos : rd64 d Reg.TSL_POS = la
  more : la + 64 < d.integ.pass.stop
  low : la < 2 ^ 48

/-- A test operation may act at once on the line at `la`. -/
structure TestReady (d : Dev) (la : Nat) : Prop where
  live : live d = true
  addr : la = rd64 d Reg.MEM_TEST_ADDR / 64 * 64
  inside : inTest d la = true
  mem : (memKind d.grade la).isSome = true
  idle : rbit d Reg.MEM_TEST_STAT 0 = false
  serves : addrServes d la = true
  refs : ∀ r ∈ d.integ.refs, r.dst ≠ la
  recs : ∀ r ∈ d.integ.recs, r.line ≠ la

end Sys2Proof.Claims

open Sys2Proof Sys2Proof.Machine Sys2Proof.Safety Sys2Proof.Claims

/-! ## Memory integrity -/

/-- R380, R381, R383, R389: the check is linear; a poisoned line never carries a good check; a full-line write stores the check that travels with
it, poisoned where that fails; a partial write changes the bytes of its mask and leaves the syndrome, so poison stays. -/
def Sys2Proof.Claims.ChecksFollowTheirLines : Prop :=
  (∀ as bs : List Byte, as.length = bs.length → lineCrc (List.zipWith (· ^^^ ·) as bs) = lineCrc as ^^^ lineCrc bs) ∧
  (∀ (d : Dev) (la : Nat), storedCheck (poison d la) la ^^^ lineCrc (getBytes (poison d la).mem la 64) = 0x5A3C ∧
    storedCheck (poison d la) la ≠ lineCrc (getBytes (poison d la).mem la 64) ∧ (poison d la).mem = d.mem) ∧
  (∀ (d : Dev) (la : Nat) (bs : List Byte), bs.length = 64 → (∀ r ∈ d.integ.recs, r.line ≠ la) →
    ∃ e, writeLine d la bs (List.replicate 64 true) 0 = some e ∧ getBytes e.mem la 64 = bs ∧ storedCheck e la = lineCrc bs) ∧
  (∀ (d : Dev) (la syn : Nat) (bs : List Byte), bs.length = 64 → (∀ r ∈ d.integ.recs, r.line ≠ la) → syn ≠ 0 →
    ∃ e, writeLine d la bs (List.replicate 64 true) syn = some e ∧ getBytes e.mem la 64 = bs ∧ synOf e la = 0x5A3C ∧
      (syn ≠ 0x5A3C → CountedBy d e Reg.MEM_CNT_INFLIGHT 1)) ∧
  (∀ (d : Dev) (la syn : Nat) (bs : List Byte) (mask : List Bool), mask.all id = false → mask.length = 64 →
    (∀ r ∈ d.integ.recs, r.line ≠ la) → (∀ r ∈ d.integ.refs, r.dst ≠ la) → la ∉ d.integ.uncorr →
    ∃ e, writeLine d la bs mask syn = some e ∧ synOf e la = synOf d la ∧
      (∀ i < 64, memByte e (la + i) = if mask.getD i false then bs.getD i 0 else memByte d (la + i)) ∧
      storedCheck e la = storedCheck d la ^^^ lineCrc (List.zipWith (· ^^^ ·) (getBytes d.mem la 64) (getBytes e.mem la 64))) ∧
  (∀ (d e : Dev) (la syn b : Nat) (bs : List Byte) (mask : List Bool), writeLine d la bs mask syn = some e → b < la ∨ la + 64 ≤ b →
    memByte e b = memByte d b)

/-- R381, R384, R386, R388, R390, R391: a good line answers OK; a poisoned one POISON; one in the recompute table RECOMPUTE; one that a refetch window
covers is refetched while its reader waits, and the refetch repairs it, with the partial write that waited for it merged, or poisons it; any other failing line is poisoned. -/
def Sys2Proof.Claims.FailingLinesAreDecided : Prop :=
  (∀ (d : Dev) (la : Nat) (s : Bool), synOf d la = 0 → la ∉ d.integ.uncorr → cohBusy d la = false → dirState d la ≠ 2 →
    (decideLine d la s).2 = .ok ∧ (decideLine d la s).1.mem = d.mem) ∧
  (∀ (d : Dev) (la : Nat) (s : Bool), synOf d la = 0x5A3C → la ∉ d.integ.uncorr → (decideStored d la s).2 = .poison) ∧
  (∀ (d : Dev) (la : Nat) (s : Bool), synOf d la ≠ 0 → inTest d la = true → la ∉ d.integ.uncorr →
    (decideStored d la s).2 = .poison ∧ synOf (decideStored d la s).1 la = synOf d la) ∧
  (∀ (d : Dev) (la : Nat) (s : Bool), synOf d la ≠ 0 → synOf d la ≠ 0x5A3C → inTest d la = false → (∃ r ∈ d.integ.recs, r.line = la) →
    (decideStored d la s).2 = .recompute) ∧
  (∀ (d : Dev) (la src : Nat) (s : Bool), PlainLine d la → synOf d la ≠ 0 → synOf d la ≠ 0x5A3C → refetchSrc d la = some src →
    d.integ.refs.length < 64 →
    (decideStored d la s).2 = .wait ∧ (decideStored d la s).1.integ.refs = d.integ.refs ++ [⟨la, src, s, synOf d la, []⟩]) ∧
  (∀ (d : Dev) (la : Nat) (s : Bool), PlainLine d la → synOf d la ≠ 0 → synOf d la ≠ 0x5A3C → refetchSrc d la = none →
    retainedOwner d la = none → (decideStored d la s).2 = .poison ∧ synOf (decideStored d la s).1 la = 0x5A3C) ∧
  (∀ (d e : Dev) (la : Nat) (r : Refetch), live d = true → d.integ.pass.running = false →
    d.integ.refs.find? (fun r => r.dst = la) = some r → r.waits = [] → decideLine d r.src false = (e, .ok) →
    DoesSome (.refetchComplete la) d (fun t => getBytes t.mem la 64 = getBytes e.mem r.src 64 ∧ synOf t la = 0 ∧
      (∀ q ∈ t.integ.refs, q.dst ≠ la) ∧ CountedBy e t Reg.MEM_CNT_REFETCH 1)) ∧
  (∀ (d e : Dev) (la : Nat) (r : Refetch) (bs : List Byte) (mask : List Bool), live d = true → d.integ.pass.running = false →
    d.integ.refs.find? (fun r => r.dst = la) = some r → r.waits = [(bs, mask)] → mask.length = 64 → mask.all id = false →
    la < 2 ^ 48 → (∀ q ∈ d.integ.recs, q.line ≠ la) → decideLine d r.src false = (e, .ok) →
    DoesSome (.refetchComplete la) d (fun t => synOf t la = 0 ∧
      ∀ i < 64, memByte t (la + i) = if mask.getD i false then bs.getD i 0 else memByte e (r.src + i))) ∧
  (∀ (d e : Dev) (la : Nat) (r : Refetch) (x : Ans), live d = true → d.integ.pass.running = false →
    d.integ.refs.find? (fun r => r.dst = la) = some r → r.waits = [] → decideLine d r.src false = (e, x) → x ≠ .ok → retainedOwner e la = none →
    DoesSome (.refetchComplete la) d (fun t => synOf t la = 0x5A3C ∧ CountedBy e t Reg.MEM_CNT_POISON 1 ∧ t.mem = e.mem)) ∧
  (∀ (d : Dev) (w : Nat), live d = true → w < 64 → rfwOk d w = true → Does (.refetchWindowEnable w) d (sbit d (Reg.MEM_RFW_CFG w) 0)) ∧
  (∀ (d : Dev) (w : Nat), live d = true → w < 64 → rfwOk d w = false →
    DoesSome (.refetchWindowEnable w) d (fun t => rbit t (Reg.MEM_RFW_CFG w) 0 = false ∧ rbit t Reg.MEM_STATUS 4 = true)) ∧
  (∀ (d : Dev) (c : Nat) (x : Byte), live d = true → c < 2 →
    DoesSome (.hbmHot c x) d (fun t => fget t (Reg.HBM_TEMP c) 7 0 = x.toNat ∧ rbit t (Reg.HBM_STATUS c) 1 = decide (85 < x.toInt)))

/-- R394 to R396: GO starts a pass over its range, is refused while one runs, or ends it at once; the pass counts each line that it reads, skips or
finds poisoned, leaves its summary, and ABORT ends it after the line being read; test operations read and write data and check apart. -/
def Sys2Proof.Claims.TeaselScrubsAndTestOperationsAct : Prop :=
  (∀ (d : Dev) (a e : Nat), live d = true → rbit d Reg.TSL_STATUS 0 = false → a = rd64 d Reg.TSL_START / 64 * 64 →
    e = rd64 d Reg.TSL_END / 64 * 64 → a < e → inRegion a (e - a) = true → presentRange d.grade a (e - a) = true →
    DoesSome .teaselGo d (fun t => rbit t Reg.TSL_STATUS 0 = true ∧ rd64 t Reg.TSL_POS = a ∧
      t.integ.pass = { Pass.reset with running := true, stop := e, mode := fget d Reg.TSL_CTRL 0 0 } ∧ t.mem = d.mem)) ∧
  (∀ (d : Dev), live d = true → rbit d Reg.TSL_STATUS 0 = true → Does .teaselGo d (sbit d Reg.TSL_STATUS 2)) ∧
  (∀ (d : Dev), live d = true → rbit d Reg.TSL_STATUS 0 = false → rd64 d Reg.TSL_END / 64 * 64 ≤ rd64 d Reg.TSL_START / 64 * 64 →
    DoesSome .teaselGo d (fun t => fget t Reg.TSL_STATUS 7 4 = 3 ∧ rbit t Reg.TSL_STATUS 1 = true ∧ rbit t Reg.TSL_STATUS 0 = false ∧
      t.integ.pass = Pass.reset)) ∧
  (∀ (d : Dev), live d = true → rbit d Reg.TSL_STATUS 0 = true →
    Does .teaselAbort d { d with integ := { d.integ with pass := { d.integ.pass with abort := true } } }) ∧
  (∀ (d : Dev) (la : Nat), PassAt d la 0 → addrServes d la = true → inTest d la = false → (memKind d.grade la).isSome = true →
    synOf d la = 0 → la ∉ d.integ.uncorr → cohBusy d la = false → dirState d la ≠ 2 →
    DoesSome .teaselLineRead d (fun t => t.integ.pass = { d.integ.pass with lines := d.integ.pass.lines + 1 } ∧
      rd64 t Reg.TSL_POS = la + 64 ∧ t.mem = d.mem)) ∧
  (∀ (d : Dev) (la mode : Nat), PassAt d la mode → (addrServes d la = false ∨ inTest d la = true ∨ memKind d.grade la = none) →
    DoesSome .teaselLineRead d (fun t => t.integ.pass = { d.integ.pass with skipped := (d.integ.pass.skipped + 1) % 2 ^ 32 } ∧
      rd64 t Reg.TSL_POS = la + 64 ∧ t.mem = d.mem)) ∧
  (∀ (d : Dev) (la mode : Nat), PassAt d la mode → addrServes d la = true → inTest d la = false → (memKind d.grade la).isSome = true →
    synOf d la = 0x5A3C → la ∉ d.integ.uncorr →
    DoesSome .teaselLineRead d (fun t => t.integ.pass.foundPoison = d.integ.pass.foundPoison + 1 ∧
      t.integ.pass.lines = d.integ.pass.lines + 1 ∧ synOf t la = 0x5A3C)) ∧
  (∀ (d : Dev) (la : Nat), PassAt d la 1 → addrServes d la = true → inTest d la = false → (memKind d.grade la).isSome = true →
    synOf d la ≠ 0 → synOf d la ≠ 0x5A3C →
    DoesSome .teaselLineRead d (fun t => t.integ.pass.unrepaired = d.integ.pass.unrepaired + 1 ∧
      t.integ.pass.errors = d.integ.pass.errors + 1 ∧ t.integ.pass.lines = d.integ.pass.lines + 1 ∧ synOf t la = synOf d la ∧
      t.mem = d.mem)) ∧
  (∀ (d : Dev) (r a : Nat), a = rd64 d Reg.TSL_SUMADDR / 64 * 64 → inMem d.grade a 64 = true → writeShut d.grade a = false →
    cohHeld d a = false → a < 2 ^ 48 → r < 16 →
    getBytes (endPass d r).mem a 64 = passSummary d r ∧ rbit (endPass d r) Reg.TSL_STATUS 1 = true ∧
    fget (endPass d r) Reg.TSL_STATUS 31 16 = (fget d Reg.TSL_STATUS 31 16 + 1) % 65536) ∧
  (∀ (d : Dev) (la : Nat), TestReady d la →
    DoesSome .readRaw d (fun t => (∀ w < 16, rw t (Reg.MEM_TEST_DATA w) = getNum d.mem (la + 4 * w) 4) ∧
      fget t Reg.MEM_TEST_CHK 31 16 = storedCheck d la % 2 ^ 16 ∧ t.mem = d.mem ∧ t.syn = d.syn)) ∧
  (∀ (d : Dev) (la : Nat), TestReady d la →
    DoesSome .writeData d (fun t => storedCheck t la = storedCheck d la ∧
      ∀ w < 16, getBytes t.mem (la + 4 * w) 4 = toBytes 4 (rw d (Reg.MEM_TEST_DATA w)))) ∧
  (∀ (d : Dev) (la : Nat), TestReady d la →
    DoesSome .writeChk d (fun t => storedCheck t la = fget d Reg.MEM_TEST_CHK 15 0 ∧ t.mem = d.mem)) ∧
  (∀ (d : Dev), live d = true → rbit d Reg.MEM_TEST_CTRL 0 = false →
    Does .readRaw d (sbit d Reg.MEM_TEST_STAT 1) ∧ Does .writeData d (sbit d Reg.MEM_TEST_STAT 1) ∧ Does .writeChk d (sbit d Reg.MEM_TEST_STAT 1)) ∧
  (∀ (d : Dev), live d = true → d.integ.testOp = 4 →
    Does .testOpDone d (cbit { d with integ := { d.integ with testOp := 0 } } Reg.MEM_TEST_STAT 0))

/-- R381, R384 to R396: failing lines, Teasel and the test operations. -/
def Obligations.FailingLinesAndScrubs : Prop :=
  Sys2Proof.Claims.FailingLinesAreDecided ∧ Sys2Proof.Claims.TeaselScrubsAndTestOperationsAct

/-! ## Memory -/

/-- R16, R31: a unit's write of lines that the host does not hold stores its bytes where it says and changes no other byte. -/
def Sys2Proof.Claims.MemoryHoldsWhatIsWritten : Prop :=
  (∀ (d : Dev) (a i : Nat) (bs : List Byte), a + bs.length ≤ 2 ^ 48 → Free d a bs.length → i < bs.length →
    memByte (memPut d a bs) (a + i) = bs.getD i 0) ∧
  (∀ (d : Dev) (a b : Nat) (bs : List Byte), a + bs.length ≤ 2 ^ 48 → b < 2 ^ 48 → b < a ∨ a + bs.length ≤ b →
    memByte (memPut d a bs) b = memByte d b)

/-- R16, R31, R380, R381, R383, R389: memory holds what is written, and its checks follow. -/
def Obligations.ChecksAndMemoryFollowWrites : Prop :=
  Sys2Proof.Claims.ChecksFollowTheirLines ∧ Sys2Proof.Claims.MemoryHoldsWhatIsWritten

namespace Sys2Proof.Claims
open Sys2Proof.Machine Sys2Proof.Safety

/-- The host link serves on a running die; no request waits at it, no die write waits for a snoop, and no region is being flushed. -/
structure Quiet (d : Dev) : Prop where
  live : live d = true
  serves : linkServes d = true
  reqs : d.hlk.reqs = []
  held : d.hlk.held = []
  flush : ∀ r < 16, rbit d (Reg.HLK_COH_CFG r) 1 = false

/-- The request of opcode `opc` that core `core` makes with `tag`. -/
def reqOf (d : Dev) (opc core tag addr len : Nat) (data : List Byte) (mask : List Bool) : HReq :=
  { opc := opc, core := core, tag := tag % 2 ^ 16, addr := addr, len := len, data := data, mask := mask, born := bornNow d }

/-- The request is well formed and need not wait for another of its core. -/
def Passes (d : Dev) (r : HReq) : Prop := r.ok = true ∧ hostBlocked d [] r = false

/-- The request has gone into the fabric as a packet of the host link stop with operation `op`, tracked and remembered. -/
def SentOn (d t : Dev) (r : HReq) (op : Nat) : Prop :=
  ∃ p : Pkt, t.fab.outst = d.fab.outst ++ [p] ∧ p.op = op ∧ p.who = .host r.core ∧ p.addr = r.addr ∧ p.lenm1 + 1 = r.len ∧ p.data = r.data ∧
    p.mask = r.mask ∧ t.hlk.issued = d.hlk.issued ++ [(p.tag, r.core, r.tag)] ∧ t.hlk.reqs = [] ∧ t.mem = d.mem

/-- The line at `la` lies in an enabled region, reads good, and the directory can grant it. -/
structure Grantable (d : Dev) (la : Nat) : Prop where
  region : inCoh d la = true
  good : synOf d la = 0
  stack : la ∉ d.integ.uncorr
  idle : cohBusy d la = false
  room : dirState d la ≠ 0 ∨ ((d.hlk.dir.map (·.1)).filter (fun x => decide (Config.dirSet x % 65536 = Config.dirSet la % 65536))).length < 16

end Sys2Proof.Claims

open Sys2Proof Sys2Proof.Machine Sys2Proof.Safety Sys2Proof.Claims

/-! ## Host link -/

/-- R402 to R404, R407, R411: a well-formed host request that need not wait goes into the fabric under its core; one that is not well formed, or a
packet with a bad header, is discarded and counted; RDC and RDX of a good line of an enabled region are granted in S and in O; WB writes the
line and CLN gives it up. An answer reaches its core with its own tag. -/
def Sys2Proof.Claims.HostRequestsAreServed : Prop :=
  (∀ (d : Dev) (core tag addr len : Nat), Quiet d → Passes d (reqOf d 1 core tag addr len [] []) →
    DoesSome (.rd core tag addr len) d (fun t => SentOn d t (reqOf d 1 core tag addr len [] []) 0x01)) ∧
  (∀ (d : Dev) (core tag addr : Nat) (bs : List Byte) (mask : List Bool), Quiet d → Passes d (reqOf d 2 core tag addr bs.length bs mask) →
    DoesSome (.wr core tag addr bs mask) d (fun t => SentOn d t (reqOf d 2 core tag addr bs.length bs mask)
      (if 0x4000000000 ≤ addr ∧ addr < 0x4004000000 then 0x20 else 0x02))) ∧
  (∀ (d : Dev) (core tag addr len : Nat), Quiet d → (reqOf d 1 core tag addr len [] []).ok = false →
    Does (.rd core tag addr len) d (sbit (cnt d Reg.HLK_CNT_BADPKT 1) Reg.HLK_STATUS 7)) ∧
  (∀ (d : Dev) (h : BitVec 128), live d = true → linkServes d = true → badHeader h.toNat = true →
    Does (.hostBadPacket h) d (sbit (cnt d Reg.HLK_CNT_BADPKT 1) Reg.HLK_STATUS 7)) ∧
  (∀ (d : Dev) (core tag la : Nat), Quiet d → Passes d (reqOf d 3 core tag la 64 [] []) → Grantable d la →
    DoesSome (.rdc core tag la) d (fun t => dirState t la = 1 ∧ t.mem = d.mem ∧
      t.hlk.toHost = d.hlk.toHost ++ [.rdata core (tag % 2 ^ 16) 0 1 (getBytes d.mem la 64)])) ∧
  (∀ (d : Dev) (core tag la : Nat), Quiet d → Passes d (reqOf d 4 core tag la 64 [] []) → Grantable d la →
    DoesSome (.rdx core tag la) d (fun t => dirState t la = 2 ∧ t.mem = d.mem ∧
      t.hlk.toHost = d.hlk.toHost ++ [.rdata core (tag % 2 ^ 16) 0 2 (getBytes d.mem la 64)])) ∧
  (∀ (d : Dev) (core tag la : Nat), Quiet d → inCoh d la = false → Passes d (reqOf d 3 core tag la 64 [] []) →
    DoesSome (.rdc core tag la) d (fun t => SentOn d t (reqOf d 3 core tag la 64 [] []) 0x01)) ∧
  (∀ (d : Dev) (core tag la : Nat) (bs : List Byte), Quiet d → Passes d (reqOf d 5 core tag la 64 bs []) → isHbm d.grade la = true →
    DoesSome (.wb core tag la bs) d (fun t => getBytes t.mem la 64 = bs ∧ dirState t la = 0 ∧
      t.hlk.toHost = d.hlk.toHost ++ [.wack core (tag % 2 ^ 16) 0] ∧
      CountedBy d t Reg.HLK_CNT_WBSTRAY (if dirState d la = 2 then 0 else 1))) ∧
  (∀ (d : Dev) (core tag la : Nat), Quiet d → Passes d (reqOf d 6 core tag la 64 [] []) →
    DoesSome (.cln core tag la) d (fun t => dirState t la = 0 ∧ t.mem = d.mem ∧
      t.hlk.toHost = d.hlk.toHost ++ [.wack core (tag % 2 ^ 16) 0])) ∧
  (∀ (d : Dev) (ftag core tag st : Nat) (bs : List Byte), Quiet d → d.hlk.issued.find? (fun e => e.1 = ftag) = some (ftag, core, tag) →
    (hostAnswer d ftag 0x10 st bs).hlk.toHost = d.hlk.toHost ++ [.rdata core tag st 0 (if st = 0 then bs else [])] ∧
    (hostAnswer d ftag 0x11 st bs).hlk.toHost = d.hlk.toHost ++ [.wack core tag st])

/-- R406, R407, R409, R410: an answered snoop ends, with its line given up or shared and its data written; the writes that waited for the line are
then made; a late answer is counted; a snoop that times out loses the line, poisoned if the host owned it. A region is enabled when it breaks
no rule, and is disabled once every line that the host holds in it has been snooped. -/
def Sys2Proof.Claims.SnoopsKeepTheHostCoherent : Prop :=
  (∀ (d : Dev) (tag : Nat) (x : Snoop), Quiet d → d.hlk.snoops.find? (fun y => y.tag = tag) = some x →
    DoesSome (.snpack tag) d (fun t => t.hlk.snoops = d.hlk.snoops.filter (fun y => decide (y.line ≠ x.line)) ∧ t.mem = d.mem ∧
      dirState t x.line = if x.inv = true ∨ dirState d x.line = 0 then 0 else 1)) ∧
  (∀ (d : Dev) (tag : Nat) (x : Snoop) (bs : List Byte), live d = true → linkServes d = true → d.hlk.reqs = [] →
    (∀ r < 16, rbit d (Reg.HLK_COH_CFG r) 1 = false) → d.hlk.snoops.find? (fun y => y.tag = tag) = some x → x.inv = true → x.line < 2 ^ 48 →
    bs.length = 64 → d.hlk.held = [(x.line, bs, List.replicate 64 true)] →
    DoesSome (.snpack tag) d (fun t => getBytes t.mem x.line 64 = bs ∧ t.hlk.held = [] ∧ dirState t x.line = 0)) ∧
  (∀ (d : Dev) (tag : Nat) (bs : List Byte), live d = true → linkServes d = true → (∀ y ∈ d.hlk.snoops, y.tag ≠ tag) →
    Does (.snpack tag) d (cnt d Reg.HLK_CNT_LATE 1) ∧ Does (.snpdata tag bs) d (cnt d Reg.HLK_CNT_LATE 1)) ∧
  (∀ (d : Dev) (tag : Nat) (x : Snoop) (bs : List Byte), Quiet d → d.hlk.snoops.find? (fun y => y.tag = tag) = some x → x.line % 64 = 0 →
    x.line < 2 ^ 48 → bs.length = 64 →
    DoesSome (.snpdata tag bs) d (fun t => getBytes t.mem x.line 64 = bs ∧
      t.hlk.snoops = d.hlk.snoops.filter (fun y => decide (y.line ≠ x.line)) ∧
      dirState t x.line = if x.inv = true ∨ dirState d x.line = 0 then 0 else 1)) ∧
  (∀ (d : Dev) (tag : Nat) (x : Snoop), Quiet d → d.hlk.snoops.find? (fun y => y.tag = tag) = some x →
    usPassed d x.sent (max 1 (fget d Reg.HLK_CTRL 15 8)) = true →
    DoesSome (.snoopTimeout tag) d (fun t => dirState t x.line = 0 ∧ rbit t Reg.HLK_STATUS 6 = true ∧ t.mem = d.mem ∧
      CountedBy d t Reg.HLK_CNT_SNPTMO 1 ∧ (dirState d x.line = 2 → synOf t x.line = 0x5A3C))) ∧
  (∀ (d : Dev) (tag : Nat) (x : Snoop), live d = true → d.hlk.snoops.find? (fun y => y.tag = tag) = some x →
    usPassed d x.sent (max 1 (fget d Reg.HLK_CTRL 15 8)) = false → Does (.snoopTimeout tag) d d) ∧
  (∀ (d : Dev) (r : Nat), live d = true → r < 16 → rbit d (Reg.HLK_COH_CFG r) 0 = false → (cohRange d r).1 < (cohRange d r).2 →
    (cohRange d r).2 ≤ hbmSize d.grade →
    (∀ q < 16, q ≠ r → rbit d (Reg.HLK_COH_CFG q) 0 = true → (cohRange d q).2 ≤ (cohRange d r).1 ∨ (cohRange d r).2 ≤ (cohRange d q).1) →
    Does (.cohEnable r) d (sbit d (Reg.HLK_COH_CFG r) 0)) ∧
  (∀ (d : Dev) (r : Nat), live d = true → r < 16 → rbit d (Reg.HLK_COH_CFG r) 0 = false → hbmSize d.grade < (cohRange d r).2 →
    Does (.cohEnable r) d (sbit d Reg.HLK_STATUS 8)) ∧
  (∀ (d : Dev) (r la st : Nat), Quiet d → r < 16 → rbit d (Reg.HLK_COH_CFG r) 0 = true → d.hlk.dir = [(la, st)] → d.hlk.snoops = [] →
    (cohRange d r).1 ≤ la → la < (cohRange d r).2 →
    DoesSome (.cohDisable r) d (fun t => rbit t (Reg.HLK_COH_CFG r) 1 = true ∧ t.hlk.snoops = [⟨la, d.hlk.nextTag, true, d.fab.age⟩] ∧
      t.hlk.toHost = d.hlk.toHost ++ [.snoop true d.hlk.nextTag la])) ∧
  (∀ (d : Dev) (r : Nat), live d = true → r < 16 → rbit d (Reg.HLK_COH_CFG r) 1 = true → heldIn d r = [] →
    (∀ x ∈ d.hlk.snoops, x.line < (cohRange d r).1 ∨ (cohRange d r).2 ≤ x.line) →
    DoesSome (.flushDone r) d (fun t => rbit t (Reg.HLK_COH_CFG r) 0 = false ∧ rbit t (Reg.HLK_COH_CFG r) 1 = false ∧ t.hlk = d.hlk))

/-- R400, R401, R413, R416, R417: raised vectors become pending and are announced when enabled; modules fail, go down and train, and the link state
follows them; a link that stays down for 100 µs resets the host side, which gives up every line and poisons those that the host owned. -/
def Sys2Proof.Claims.VectorsAndLinkStateFollow : Prop :=
  (∀ (d : Dev) (v : BitVec 64), live d = true →
    DoesSome (.hlkVecRaise v) d (fun t => rd64 t Reg.HLK_VEC_PEND = rd64 d Reg.HLK_VEC_PEND ||| v.toNat ∧ t.mem = d.mem ∧
      CountedBy d t Reg.HLK_CNT_RAISE ((List.range 64).filter (fun i => v.toNat.testBit i)).length)) ∧
  (∀ (d : Dev) (i : Nat), live d = true → i < 64 → (rd64 d Reg.HLK_VEC_PEND).testBit i = false → (rd64 d Reg.HLK_VEC_EN).testBit i = true →
    rbit d Reg.HLK_CTRL 0 = true → linkServes d = true →
    DoesSome (.hlkVecRaise (BitVec.ofNat 64 (2 ^ i))) d (fun t =>
      t.hlk.toHost = d.hlk.toHost ++ [.int i (fget d (Reg.HLK_VEC_TGT i) 3 0)] ∧ CountedBy d t Reg.HLK_CNT_INT 1)) ∧
  (∀ (d : Dev) (i : Nat), live d = true → i < 64 → (rd64 d Reg.HLK_VEC_PEND).testBit i = true →
    Does (.hlkVecRaise (BitVec.ofNat 64 (2 ^ i))) d (cnt d Reg.HLK_CNT_RAISE 1)) ∧
  (∀ (d : Dev) (v : BitVec 64), live d = true → rd64 d Reg.HLK_VEC_PEND = 0 →
    Does (.hlkVecEn v) d (wr64 d Reg.HLK_VEC_EN v.toNat)) ∧
  (∀ (d : Dev) (m : Nat), live d = true → m < 2 → fget d (Reg.HLK_MOD m) 1 0 = 2 → linkServes d = true →
    rbit d Reg.HLK_STATUS (2 + m) = true →
    DoesSome (.moduleFail m false) d (fun t => fget t (Reg.HLK_MOD m) 1 0 = 1 ∧ rbit t Reg.HLK_STATUS 4 = true ∧
      rbit t Reg.MON_REPLACE 5 = true ∧ linkServes t = true)) ∧
  (∀ (d : Dev) (m : Nat), live d = true → m < 2 → fget d (Reg.HLK_MOD m) 1 0 ≠ 0 → rbit d Reg.HLK_STATUS (3 - m) = true →
    DoesSome (.moduleFail m true) d (fun t => fget t (Reg.HLK_MOD m) 1 0 = 0 ∧ fget t Reg.HLK_STATUS 1 0 = 2 ∧
      rbit t Reg.HLK_STATUS (2 + m) = false)) ∧
  (∀ d : Dev, live d = true → fget d (Reg.HLK_MOD 0) 1 0 ≠ 0 → fget d (Reg.HLK_MOD 1) 1 0 ≠ 0 →
    DoesSome .hostLinkDown d (fun t => fget t Reg.HLK_STATUS 1 0 = 0 ∧ rbit t Reg.HLK_STATUS 5 = true ∧
      t.hlk.downAt = some d.fab.age ∧ fget t (Reg.HLK_MOD 0) 1 0 = 0 ∧ fget t (Reg.HLK_MOD 1) 1 0 = 0)) ∧
  (∀ (d : Dev) (w0 w1 r0 r1 : Nat), live d = true → linkReleased d = true → linkServes d = false → w0 ≤ 2 → w1 ≤ 2 → 0 < w0 + w1 →
    DoesSome (.hostLinkUp w0 w1 r0 r1) d (fun t => fget t (Reg.HLK_MOD 0) 1 0 = w0 ∧ fget t (Reg.HLK_MOD 1) 1 0 = w1 ∧
      fget t Reg.HLK_STATUS 1 0 = (if w0 = 0 ∨ w1 = 0 then 2 else 3) ∧ t.hlk.downAt = none ∧
      fget t (Reg.HLK_MOD 0) 7 2 = r0 % 64 ∧ fget t (Reg.HLK_MOD 1) 7 2 = r1 % 64)) ∧
  (∀ d : Dev, live d = true → d.hlk.held = [] →
    DoesSome .hostReset d (fun t => t.hlk.dir = [] ∧ t.hlk.snoops = [] ∧ t.hlk.reqs = [] ∧ t.hlk.issued = [] ∧ t.mem = d.mem ∧
      rbit t Reg.HLK_STATUS 9 = true ∧ (∀ la, (la, 2) ∈ d.hlk.dir → synOf t la = 0x5A3C) ∧
      CountedBy d t Reg.HLK_CNT_HOSTLOST (d.hlk.dir.filter (fun e => decide (e.2 = 2))).length ∧
      (∀ p ∈ t.fab.outst, ∀ h, p.who ≠ .host h))) ∧
  (∀ (d t : Dev) (at_ : Nat), live d = true → d.hlk.downAt = some at_ → usPassed d at_ 100 = true →
    Does .hostReset { d with hlk := { d.hlk with downAt := none } } t → Does .hostDownTimeout d t) ∧
  (∀ (d : Dev) (at_ : Nat), live d = true → d.hlk.downAt = some at_ → usPassed d at_ 100 = false → Does .hostDownTimeout d d) ∧
  (∀ (d : Dev) (m : Nat), live d = true → m < 2 → fget d (Reg.HLK_MOD m) 1 0 ≠ 0 → Does (.adapterReplay m) d (cnt d Reg.HLK_CNT_RETRY 1))

/-- R400 to R417: the host link. -/
def Obligations.HostLinkCommands : Prop :=
  Sys2Proof.Claims.HostRequestsAreServed ∧ Sys2Proof.Claims.SnoopsKeepTheHostCoherent ∧ Sys2Proof.Claims.VectorsAndLinkStateFollow

open Sys2Proof Sys2Proof.Machine Sys2Proof.Safety Sys2Proof.Claims

/-! ## Monitors and fault management -/

/-- R427 to R430: temperature readings are kept and compared with their thresholds, and a trip stops the die with every PA_EN inactive, during a
freeze too; power above the envelope throttles every cluster that serves, until it has stayed below for 1 ms; a droop is counted and alerts;
a result set follows each 1 ms boundary. -/
def Sys2Proof.Claims.MonitorsReportAndThrottle : Prop :=
  (∀ (d : Dev) (temps : List Byte), live d = true →
    (∀ k < 48, degC (at0 0 temps k).toNat < min 125 (degC (fget d Reg.MON_CTRL 31 24))) →
    DoesSome (.tempSample temps) d (fun t => (∀ k < 48, mget 0 t.pwr.temp k = (at0 0 temps k).toNat) ∧ t.pkg = d.pkg ∧
      (rbit t Reg.MON_STATUS 1 = true ↔ ∃ k < 48, degC (fget d Reg.MON_CTRL 23 16) ≤ degC (at0 0 temps k).toNat) ∧
      ((∃ k < 48, degC (fget d Reg.MON_CTRL 15 8) ≤ degC (at0 0 temps k).toNat) →
        rbit t Reg.MON_STATUS 0 = true ∧ rbit t Reg.MON_ALERT 0 = true))) ∧
  (∀ (d : Dev) (temps : List Byte) (k : Nat), live d = true → k < 48 →
    min 125 (degC (fget d Reg.MON_CTRL 31 24)) ≤ degC (at0 0 temps k).toNat →
    DoesSome (.tempSample temps) d (fun t => t.pkg.tripped = true ∧ live t = false ∧ ∀ n x, paActive t n x = false)) ∧
  (∀ (d : Dev) (temps : List Byte), d.cpn.frozen = true → d.pkg.powered = true → (∃ b ∈ temps, 125 ≤ degC b.toNat) →
    Does (.tempSample temps) d { d with pkg := { d.pkg with tripped := true } }) ∧
  (∀ (d : Dev) (vin pin : Nat), live d = true → rbit d Reg.PWR_CTRL 0 = true → rbit d Reg.PWR_STATUS 0 = false →
    10 * min (min 345 (fget d Reg.PWR_CTRL 16 8)) (36 * (vin % 2 ^ 16) / 1000) < pin % 2 ^ 16 →
    DoesSome (.throttleStart vin pin) d (fun t => rbit t Reg.PWR_STATUS 0 = true ∧ rbit t Reg.PWR_STATUS 1 = true ∧
      CountedBy d t Reg.PWR_CNT_THROT 1 ∧ fget t Reg.PWR_VIN 15 0 = vin % 2 ^ 16 ∧ fget t Reg.PWR_VIN 31 16 = pin % 2 ^ 16 ∧
      t.pwr.thrAt = d.fab.age ∧
      ∀ c < 256, corePresent d.grade c = true → domServes d (c / 8) = true → isOut d c = false → rbit t (ccr c 0x010) 7 = true)) ∧
  (∀ (d : Dev) (vin pin since : Nat), live d = true → rbit d Reg.PWR_STATUS 0 = true → d.pwr.hot = false → d.pwr.overSince = some since →
    usPassed d since 1000 = true →
    pin % 2 ^ 16 * 100 < min (min 345 (fget d Reg.PWR_CTRL 16 8)) (36 * (vin % 2 ^ 16) / 1000) * 950 →
    DoesSome (.throttleEnd vin pin) d (fun t => rbit t Reg.PWR_STATUS 0 = false ∧ rbit t Reg.PWR_STATUS 1 = false ∧ t.pwr.overPwr = false ∧
      CountedBy d t Reg.PWR_CNT_THROT_US ((d.fab.age - d.pwr.thrAt) * 1000 / 1966080))) ∧
  (∀ (d : Dev) (v : Nat), live d = true → v < 64 →
    DoesSome (.droop v) d (fun t => CountedBy d t Reg.MON_CNT_DROOP 1 ∧ rbit t Reg.MON_STATUS 2 = true ∧ rbit t Reg.MON_ALERT 3 = true ∧
      t.mem = d.mem)) ∧
  (∀ (d : Dev) (volts procs : List Word), live d = true → d.air.now < 2 ^ 64 → d.pwr.setAt < d.air.now / 1966080 * 1966080 →
    DoesSome (.monResult volts procs) d (fun t => rbit t Reg.MON_RES0 0 = true ∧
      fget t Reg.MON_RES0 31 16 = (fget d Reg.MON_RES0 31 16 + 1) % 65536 ∧ rd64 t Reg.MON_RES_TIME = d.air.now / 1966080 * 1966080 ∧
      (∀ k < 48, rw t (Reg.MON_RES_TEMP k) = (mget 0 d.pwr.temp k + mget 0 d.pwr.peak k * 2 ^ 8) % 2 ^ 32) ∧
      (∀ v < 64, rw t (Reg.MON_RES_VOLT v) = (at0 0 volts v).toNat) ∧ t.pwr.peak = d.pwr.temp)) ∧
  (∀ (d : Dev) (volts procs : List Word), live d = true → d.air.now / 1966080 * 1966080 ≤ d.pwr.setAt →
    Does (.monResult volts procs) d d) ∧
  (∀ (d : Dev) (v : Word), live d = true → v.toNat % 65536 = fget d Reg.MON_RES0 31 16 → Does (.monResAck v) d (cbit d Reg.MON_RES0 0)) ∧
  (∀ (d : Dev) (v : Word), live d = true → v.toNat % 65536 ≠ fget d Reg.MON_RES0 31 16 → Does (.monResAck v) d d)

/-- R432 to R434, R437: a reported core fails, is OUT and reset, and its cluster's spare takes its index, or none does and the reason is
recorded; the Listen state is refused with its cause, or drains every domain and is entered when all are OFF; a wake frame ends it. -/
def Sys2Proof.Claims.CoresFailAndListenIsEntered : Prop :=
  (∀ (d : Dev) (c : Nat), live d = true → corePresent d.grade c = true → isOut d c = false →
    DoesSome (.monFault c) d (fun t => c ∈ t.pwr.failq ∧ t.cores = d.cores ∧ t.regs = d.regs)) ∧
  (∀ (d : Dev) (c : Nat), live d = true → corePresent d.grade c = true → isOut d c = true →
    DoesSome (.monFault c) d (fun t => t.pwr = d.pwr ∧ t.cores = d.cores)) ∧
  (∀ (d : Dev) (c : Nat), live d = true → c < 256 → c ∈ d.pwr.failq → isOut d c = false → spareFree d (c / 8) = true →
    (∀ s ∈ d.pwr.subst, s.core / 8 ≠ c / 8) →
    DoesSome (.coreFail c) d (fun t => isOut t c = true ∧ coreOf t c = Core.reset ∧ (tcoreOf t c).st = 3 ∧
      CountedBy d t Reg.MON_CNT_FAULT 1 ∧ c ∉ t.pwr.failq ∧
      fget t (Reg.CLU_MAP (c / 8)) (4 * (c % 8) + 3) (4 * (c % 8)) = 0xF ∧
      t.pwr.subst = d.pwr.subst ++ [⟨c, decide (domState d (c / 8) = 0)⟩])) ∧
  (∀ (d : Dev) (c : Nat), live d = true → c < 256 → c ∈ d.pwr.failq → isOut d c = false → spareFree d (c / 8) = false →
    DoesSome (.coreFail c) d (fun t => isOut t c = true ∧ (tcoreOf t c).st = 3 ∧ mget 0 t.srl.repair.cores c = 2 ∧
      fget t (Reg.CLU_MAP (c / 8)) (4 * (c % 8) + 3) (4 * (c % 8)) = 0xF ∧ rbit t Reg.MON_REPLACE 2 = true)) ∧
  (∀ (d : Dev) (c : Nat), live d = true → c < 256 → (∃ s ∈ d.pwr.subst, s.core = c ∧ s.started = true) → domServes d (c / 8) = true →
    DoesSome (.spareSubstitute c) d (fun t => isOut t c = false ∧ rbit t Reg.MON_SPARE (c / 8) = true ∧ coreOf t c = Core.reset ∧
      fget t (Reg.CLU_MAP (c / 8)) (4 * (c % 8) + 3) (4 * (c % 8)) = 8 ∧
      (tcoreOf t c).st = 0 ∧ mget 0 t.srl.repair.cores c = 1 ∧ (∀ s ∈ t.pwr.subst, s.core ≠ c) ∧ rbit t Reg.MON_REPLACE 1 = true)) ∧
  (∀ d : Dev, live d = true → d.pwr.listenAt = none → d.pwr.listen = false → listenCause d ≠ 0 →
    DoesSome .listenEntry d (fun t => rbit t Reg.PWR_STATUS 2 = true ∧ fget t Reg.PWR_STATUS 7 4 = listenCause d ∧
      rbit t Reg.MAC_WAKE_STATUS 1 = true ∧ t.pwr = d.pwr)) ∧
  (∀ d : Dev, live d = true → d.pwr.listenAt = none → d.pwr.listen = false → listenCause d = 0 →
    DoesSome .listenEntry d (fun t => t.pwr.listenAt = some d.fab.age ∧ rbit t Reg.TSY_CTRL 0 = false ∧
      ∀ p < 45, domState d p = 0 → domState t p = 1)) ∧
  (∀ (d : Dev) (at_ : Nat), live d = true → d.pwr.listenAt = some at_ → (∀ p < 45, domState d p = 3) →
    DoesSome .listenAllOff d (fun t => t.pwr.listen = true ∧ t.pwr.listenAt = none ∧ linkServes t = false ∧
      t.hlk.downAt = some d.fab.age)) ∧
  (∀ (d : Dev) (p : Nat), live d = true → p < 45 → domState d p ≠ 3 → Does .listenAllOff d d) ∧
  (∀ (d : Dev) (m p : Nat) (fr : List Byte), live d = true → d.pwr.listen = true → wakes d m fr = some p → d.air.now < 2 ^ 64 →
    DoesSome (.wakeMatch m fr) d (fun t => t.pwr.listen = false ∧ rbit t Reg.MAC_WAKE_STATUS 0 = true ∧
      fget t Reg.MAC_WAKE_STATUS 7 2 = m ∧ fget t Reg.MAC_WAKE_STATUS 9 8 = p ∧ rd64 t Reg.MAC_WAKE_TIME = d.air.now ∧
      (∀ w < 32, rw t (Reg.MAC_WAKE_FRAME w) = ofBytes (slice fr (4 * w) 4)) ∧ fget t Reg.SRL_BOOT 3 0 = 2)) ∧
  (∀ (d : Dev) (m : Nat) (fr : List Byte), live d = true → (d.pwr.listen = false ∨ wakes d m fr = none) → Does (.wakeMatch m fr) d d)

/-- R427 to R437: monitors, throttling, failing cores and the Listen state. -/
def Obligations.MonitorsAndFaultManagement : Prop :=
  Sys2Proof.Claims.MonitorsReportAndThrottle ∧ Sys2Proof.Claims.CoresFailAndListenIsEntered

open Sys2Proof Sys2Proof.Machine Sys2Proof.Safety Sys2Proof.Claims

/-! ## Sorrel and start-up -/

/-- R443, R445, R446: while Sorrel is idle a firmware load whose image is good, a persist, or an erase begins by making its bank invalid; a
request while it is BUSY is refused, or waits if it is a persist; a load with a bad image ends with its cause; the end of a write shows
whether the bank that now holds the image is valid. -/
def Sys2Proof.Claims.SorrelWritesItsBanks : Prop :=
  (∀ d : Dev, live d = true → rbit d Reg.SRL_STATUS 0 = true →
    Does .loadFw d (fset d Reg.SRL_STATUS 7 4 6) ∧ Does .eraseCfg d (fset d Reg.SRL_STATUS 7 4 6)) ∧
  (∀ d : Dev, live d = true → rbit d Reg.SRL_STATUS 0 = false → d.srl.wait = none →
    (rw d Reg.SRL_LEN = 0 ∨ hbmSize d.grade < rd64 d Reg.SRL_SRC / 64 * 64 + rw d Reg.SRL_LEN) →
    DoesSome .loadFw d (fun t => fget t Reg.SRL_STATUS 7 4 = 4 ∧ rbit t Reg.SRL_STATUS 1 = true ∧ t.srl.op = none)) ∧
  (∀ (d e : Dev) (src n : Nat), live d = true → rbit d Reg.SRL_STATUS 0 = false → d.srl.wait = none → src = rd64 d Reg.SRL_SRC / 64 * 64 →
    n = rw d Reg.SRL_LEN → 512 ≤ n → src + n ≤ hbmSize d.grade → testLines d (linesOf src n) = (e, .ok) →
    (Sys2Proof.Machine.lenOk (getBytes e.mem src n) 2 = false ∨ imgLen (getBytes e.mem src n) + 512 ≠ n) →
    DoesSome .loadFw d (fun t => fget t Reg.SRL_STATUS 7 4 = 3 ∧ rbit t Reg.SRL_STATUS 1 = true)) ∧
  (∀ (d e : Dev) (src n : Nat), live d = true → rbit d Reg.SRL_STATUS 0 = false → d.srl.wait = none → src = rd64 d Reg.SRL_SRC / 64 * 64 →
    n = rw d Reg.SRL_LEN → 512 ≤ n → src + n ≤ hbmSize d.grade → testLines d (linesOf src n) = (e, .ok) →
    Sys2Proof.Machine.lenOk (getBytes e.mem src n) 2 = true → imgLen (getBytes e.mem src n) + 512 = n →
    DoesSome .loadFw d (fun t => if imageGood d.srl.fuses (getBytes e.mem src n) 2 = true then
        rbit t Reg.SRL_STATUS 0 = true ∧ getBytes t.mem (bankBase 2 (writeTarget e 2).1) 64 = List.replicate 64 0 ∧
        t.srl.op = some ⟨1, bankBase 2 (writeTarget e 2).1, slice (getBytes e.mem src n) 0 4 ++ toBytes 4 (writeTarget e 2).2 ++
          (getBytes e.mem src n).drop 8⟩
      else fget t Reg.SRL_STATUS 7 4 = 2 ∧ rbit t Reg.SRL_STATUS 1 = true)) ∧
  (∀ d : Dev, live d = true → rbit d Reg.SRL_STATUS 0 = false →
    DoesSome .persist d (fun t => rbit t Reg.SRL_STATUS 0 = true ∧
      getBytes t.mem (bankBase 1 (writeTarget d 1).1) 64 = List.replicate 64 0 ∧
      t.srl.op = some ⟨2, bankBase 1 (writeTarget d 1).1, cfgImage (writeTarget d 1).2 (cfgPayload d)⟩)) ∧
  (∀ d : Dev, live d = true → rbit d Reg.SRL_STATUS 0 = true →
    Does .persist d (sbit { d with srl := { d.srl with wait := some (cfgPayload d) } } Reg.SRL_STATUS 3)) ∧
  (∀ d : Dev, live d = true → rbit d Reg.SRL_STATUS 0 = false →
    DoesSome .eraseCfg d (fun t => rbit t Reg.SRL_STATUS 0 = true ∧ t.srl.op = some ⟨3, bankBase 1 0, []⟩ ∧
      ∀ i < 2, getBytes t.mem (bankBase 1 i) 64 = List.replicate 64 0)) ∧
  (∀ (d : Dev) (x : SrlOp) (kind i : Nat), live d = true → d.srl.op = some x → d.srl.wait = none → i < 2 →
    ((x.kind = 1 ∧ kind = 2) ∨ (x.kind = 2 ∧ kind = 1)) → x.base = bankBase kind i → x.image.length ≤ bankSize kind →
    DoesSome .sorrelWriteDone d (fun t => getBytes t.mem x.base x.image.length = x.image ∧ t.srl.op = none ∧
      rbit t Reg.SRL_STATUS 0 = false ∧ rbit t Reg.SRL_STATUS 1 = true ∧
      fget t Reg.SRL_STATUS 7 4 = (if bankValid t x.base kind then 1 else 5))) ∧
  (∀ (d : Dev) (x : SrlOp), live d = true → d.srl.op = some x → x.kind = 3 → d.srl.wait = none →
    DoesSome .sorrelWriteDone d (fun t => t.srl.op = none ∧ fget t Reg.SRL_STATUS 7 4 = 1)) ∧
  (∀ d : Dev, live d = true → d.srl.op = none → Does .sorrelWriteDone d d) ∧
  (∀ (d : Dev) (k : Nat), writeTarget d k = match bankSeq d k 0, bankSeq d k 1 with
    | some a, some b =>
      if 1 ≤ (b + 2 ^ 32 - a) % 2 ^ 32 ∧ (b + 2 ^ 32 - a) % 2 ^ 32 < 2 ^ 31 then (0, (b + 1) % 2 ^ 32) else (1, (a + 1) % 2 ^ 32)
    | some a, none => (1, (a + 1) % 2 ^ 32)
    | none, some b => (0, (b + 1) % 2 ^ 32)
    | none, none => (0, 1))

/-- R450 to R452, R465, R476: supply and the reset pins bring the die to its reset values, of which RESET_N keeps air time, monitors and Sorrel;
start-up goes through its steps or shows the one that failed; RUN or AUTORUN releases it after the restore. What the fuses, the event log's
place and Sorrel's bytes keep over every reset is R443, R449 and R442; that an unwritten byte reads 0 is the model's choice
(log entry 8). -/
def Sys2Proof.Claims.StartUpAndResets : Prop :=
  (∀ d : Dev, d.pkg.powered = false → DoesSome .vinRise d (fun t => live t = true ∧ fget t Reg.SRL_BOOT 3 0 = 0 ∧ t.cores = [] ∧
    t.qs = [] ∧ t.air = Air.reset ∧ (∀ a, rw t a = (regReset a).toNat) ∧ t.grade = d.grade ∧ t.srl.fuses = d.srl.fuses)) ∧
  (∀ d : Dev, d.pkg.powered = true → Does .vinRise d d) ∧
  (∀ d : Dev, d.pkg.powered = true → DoesSome .vinFall d (fun t => live t = false ∧ t.pkg.powered = false ∧
    (∀ a, SRL_BASE ≤ a → a < 2 ^ 48 → memByte t a = memByte d a) ∧ (∀ a, a < SRL_BASE → memByte t a = 0))) ∧
  (∀ d : Dev, d.pkg.powered = false → Does .vinFall d d) ∧
  (∀ (d : Dev) (b : Nat), d.pkg.powered = true → DoesSome (.porstN b) d (fun t => live t = true ∧ t.air = Air.reset ∧ t.cores = [] ∧
    fget t Reg.SRL_BOOT 5 4 = b % 4 ∧ fget t Reg.SRL_BOOT 3 0 = 0 ∧ (∀ a, a ≠ Reg.SRL_BOOT → rw t a = (regReset a).toNat) ∧
    (∀ a, SRL_BASE ≤ a → a < 2 ^ 48 → memByte t a = memByte d a) ∧ t.srl.fuses = d.srl.fuses ∧ t.srl.repair = d.srl.repair ∧
    t.cpn = Cpn.reset)) ∧
  (∀ (d : Dev) (b : Nat), d.pkg.powered = true → d.pkg.tripped = false →
    DoesSome (.resetN b) d (fun t => live t = true ∧ t.air.now = d.air.now ∧ t.air.phase = d.air.phase ∧ t.fab.age = d.fab.age ∧ t.cores = [] ∧
      t.qs = [] ∧ t.staged = [] ∧ t.latch = [] ∧ fget t Reg.SRL_BOOT 3 0 = 2 ∧ fget t Reg.SRL_BOOT 5 4 = b % 4 ∧
      (∀ a, keptReg a = false → a ≠ Reg.SRL_BOOT → rw t a = (regReset a).toNat) ∧ t.pwr.temp = d.pwr.temp ∧ t.srl.fuses = d.srl.fuses ∧
      t.cpn.fails = d.cpn.fails)) ∧
  (∀ (d : Dev) (b : Nat), d.pkg.powered = true → d.pkg.tripped = true → Does (.resetN b) d d) ∧
  (∀ (d : Dev) (rmap cal : Bool) (cs ss : List Nat), live d = true → d.pwr.listen = false → rbit d Reg.SRL_BOOT 10 = false → d.cpn.held = 0 →
    fget d Reg.SRL_BOOT 3 0 < 6 →
    DoesSome (.startUpStep false rmap cal cs ss) d (fun t => fget t Reg.SRL_BOOT 3 0 = fget d Reg.SRL_BOOT 3 0 + 1 ∧
      rbit t Reg.SRL_BOOT 10 = false ∧
      (fget d Reg.SRL_BOOT 3 0 = 3 → ∀ a < hbmSize d.grade, memByte t a = 0 ∧ synOf t a = 0) ∧
      (fget d Reg.SRL_BOOT 3 0 = 5 → ∀ p < 45, domPresent d.grade p = true → domState t p = 0))) ∧
  (∀ (d : Dev) (rmap cal : Bool) (cs ss : List Nat), live d = true → d.pwr.listen = false → rbit d Reg.SRL_BOOT 10 = false → d.cpn.held = 0 →
    fget d Reg.SRL_BOOT 3 0 < 8 →
    DoesSome (.startUpStep true rmap cal cs ss) d (fun t => rbit t Reg.SRL_BOOT 10 = true ∧
      fget t Reg.SRL_BOOT 14 11 = fget d Reg.SRL_BOOT 3 0 + 1 ∧ fget t Reg.SRL_BOOT 3 0 = fget d Reg.SRL_BOOT 3 0)) ∧
  (∀ (d : Dev) (rmap cal : Bool) (cs ss : List Nat), live d = true → d.pwr.listen = false → d.cpn.held = 0 →
    fget d Reg.SRL_BOOT 3 0 ≠ 15 → (fget d Reg.SRL_BOOT 3 0 = 7 ∨ rbit d Reg.SRL_BOOT 10 = true) →
    DoesSome (.startUpStep false rmap cal cs ss) d (fun t => fget t Reg.SRL_BOOT 3 0 = 15 ∧
      t.srl.logNum = (d.srl.logNum + 1) % 2 ^ 32)) ∧
  (∀ d : Dev, live d = true → stepDone d 7 = true → DoesSome .run d (fun t => rbit t Reg.SRL_BOOT 15 = true ∧ t.mem = d.mem)) ∧
  (∀ d : Dev, live d = true → stepDone d 7 = false → Does .run d d) ∧
  (∀ d : Dev, live d = true → rbit d Reg.SRL_CTRL 0 = true → rbit d Reg.SRL_BOOT 15 = false → stepDone d 7 = true → linkServes d = true →
    isBoundary (gridOf d) d.air.now = true → DoesSome .autorunRelease d (fun t => rbit t Reg.SRL_BOOT 15 = true)) ∧
  (∀ d : Dev, live d = true → isBoundary (gridOf d) d.air.now = false → Does .autorunRelease d d)

/-- R443 to R452, R465, R476: Sorrel, supply, resets and start-up. -/
def Obligations.SorrelAndStartUp : Prop :=
  Sys2Proof.Claims.SorrelWritesItsBanks ∧ Sys2Proof.Claims.StartUpAndResets

namespace Sys2Proof.Claims
open Sys2Proof.Machine Sys2Proof.Safety

/-- The bytes of a reply of the firmware (R12): operation 0x80, STATUS, LIMIT, COOKIE, B, the load points in use and their limit, BADOFS. -/
def replyBytes (d : Dev) (cookie status limit b points badofs : Nat) : List Byte :=
  toBytes 1 0x80 ++ toBytes 1 status ++ toBytes 1 limit ++ toBytes 1 0 ++ toBytes 4 cookie ++ toBytes 8 b
    ++ toBytes 4 points ++ toBytes 4 (pointLimit d) ++ toBytes 4 badofs ++ toBytes 4 0

/-- The map at `a` is published, and the request `e` is read from the head of its control queue `q`; `g` is the device once the entry is freed. -/
def Asked (d g : Dev) (a : Nat) (e : FwEntry) : Prop :=
  ∃ (f : Dev) (q : Nat) (bs : List Byte), live d = true ∧ fwMap d = some a ∧ q = getNum d.mem (a + 0x10) 4 % 2 ^ 20 % 2 ^ 14 ∧
    (qOf d q).st = 1 ∧ (qOf d q).gen = getNum d.mem (a + 0x10) 4 % 2 ^ 20 / 2 ^ 14 ∧ qType d q = 5 ∧ 32 ≤ qEsz d q ∧
    0 < avail (qOf d q).slots ∧ memRead d (qBase d q + (qOf d q).head * qEsz d q) (qEsz d q) = (f, .ok, bs) ∧ e = entryOf bs ∧
    e.zerosOk = true ∧ g = consumed f q 0 (qOf d q).gen

/-- The firmware's reply to `e` is on its way. -/
def Replied (g t : Dev) (e : FwEntry) (status limit badofs : Nat) : Prop :=
  t.owed = g.owed ++ [.record e.replyQ (replyBytes g e.cookie status limit 0 (pointsOf (carriers g.fw.cells)) badofs)] ∧
  t.fw = g.fw ∧ t.regs = g.regs ∧ t.mem = g.mem

end Sys2Proof.Claims

open Sys2Proof Sys2Proof.Machine Sys2Proof.Safety Sys2Proof.Claims

/-! ## Campion and the package -/

/-- R454 to R458: FREEZE_N held for 20 ns, the key written to CPN_FREEZE, or a cause kept over the first two steps of start-up freezes the die: F is
recorded, every domain stops within 71.25 ns of it, the outputs take their frozen levels, and nothing else changes; the freeze record shows
F and its cause. -/
def Obligations.FreezesStopTheDie : Prop :=
  (∀ (d : Dev) (ns : Nat), live d = true → 20 ≤ ns → rbit d Reg.CPN_CTRL 0 = true → 2 ≤ fget d Reg.SRL_BOOT 3 0 →
    DoesSome (.freezeN ns) d (fun t => live t = false ∧ t.cpn.frozen = true ∧ t.cpn.cause = 1 ∧ t.cpn.at_ = d.air.now ∧
      t.cpn.stops.length = 64 ∧ (∀ s ∈ t.cpn.stops, d.air.now ≤ s ∧ s ≤ d.air.now + 140) ∧
      (∀ n < 32, mget false t.txs.pin n = paPin d n false) ∧ (∀ n < 9, (toutOf t n).level = false) ∧
      t.mem = d.mem ∧ t.syn = d.syn ∧ t.regs = d.regs ∧ t.cores = d.cores ∧ t.qs = d.qs ∧ t.fab = d.fab ∧ t.tsy = d.tsy)) ∧
  (∀ (d : Dev) (ns : Nat), live d = true → (ns < 20 ∨ rbit d Reg.CPN_CTRL 0 = false) → Does (.freezeN ns) d d) ∧
  (∀ d : Dev, live d = true → rbit d Reg.CPN_CTRL 1 = true → 2 ≤ fget d Reg.SRL_BOOT 3 0 →
    DoesSome (.cpnFreeze 0x46525A45) d (fun t => t.cpn.frozen = true ∧ t.cpn.cause = 2 ∧ t.cpn.at_ = d.air.now ∧ t.mem = d.mem ∧
      t.regs = d.regs ∧ t.cores = d.cores)) ∧
  (∀ (d : Dev) (v : Word), live d = true → (v ≠ 0x46525A45 ∨ rbit d Reg.CPN_CTRL 1 = false) → Does (.cpnFreeze v) d d) ∧
  (∀ (d : Dev) (ns : Nat), live d = true → 20 ≤ ns → rbit d Reg.CPN_CTRL 0 = true → fget d Reg.SRL_BOOT 3 0 < 2 →
    Does (.freezeN ns) d { d with cpn := { d.cpn with held := d.cpn.held ||| 1 } }) ∧
  (∀ (d : Dev) (rmap cal : Bool) (cs ss : List Nat), live d = true → d.pwr.listen = false → rbit d Reg.SRL_BOOT 10 = false → d.cpn.held ≠ 0 →
    fget d Reg.SRL_BOOT 3 0 = 1 →
    DoesSome (.startUpStep false rmap cal cs ss) d (fun t => t.cpn.frozen = true ∧ t.cpn.cause = d.cpn.held ∧ t.cpn.held = 0)) ∧
  (∀ d : Dev, (freezeRecord d).length = 1024 ∧ slice (freezeRecord d) 8 8 = toBytes 8 d.cpn.at_ ∧
    (imgNum (freezeRecord d) 0 4) % 8 = d.cpn.cause % 8 ∧
    ∀ i < 64, slice (freezeRecord d) (0x40 + 8 * i) 8 = toBytes 8 (d.cpn.stops.getD i 0))

/-- R459 to R464, R466, R467: the port's instructions shift out their values whether or not the die is frozen; a readout request streams its
lines only in a freeze, zeros while the part is locked; an unlock verifies a signature over a fresh nonce; HALT and a breakpoint or
watchpoint that matches raise their interrupts. -/
def Sys2Proof.Claims.PortReadsOutAndDebugs : Prop :=
  (∀ (d : Dev) (pins v : Nat), d.pkg.powered = true →
    Does .bypass d { d with answer := 0, cpn := { d.cpn with tap := .bypass } } ∧
    Does .idcode d { d with answer := 0x109600F3, cpn := { d.cpn with tap := .idcode } } ∧
    Does (.samplePreload pins v) d { d with answer := pins, cpn := { d.cpn with bsr := v, tap := .sample } } ∧
    Does (.extest pins v) d { d with answer := pins, cpn := { d.cpn with bsr := v, tap := .extest } }) ∧
  (∀ d : Dev, d.pkg.powered = true → DoesSome .cpnStatus d (fun t => t.answer.testBit 0 = d.cpn.frozen ∧
    t.answer.testBit 1 = d.srl.fuses.lock ∧ t.answer.testBit 2 = rbit d Reg.CPN_STATUS 1 ∧ t.answer.testBit 3 = d.cpn.verify.isSome ∧
    t.answer / 16 = min 3 d.cpn.fails ∧ t.regs = d.regs)) ∧
  (∀ (d : Dev) (v : BitVec 96), d.pkg.powered = true →
    Does (.cpnSel v) d { d with cpn := { d.cpn with
      tap := .sel, req := some ⟨bits v.toNat 23 0, bits v.toNat 55 24, bits v.toNat 87 56 + 1, bit v.toNat 88⟩ } }) ∧
  (∀ (d : Dev) (r : Readout), d.pkg.powered = true → d.cpn.frozen = true → d.cpn.req = some r → r.capd = false → 1 < r.left →
    Does .cpnData d { d with
      answer := ofBytes (frameOf { d with cpn := { d.cpn with tap := .data } } r.seg r.line false)
      cpn := { d.cpn with tap := .data, req := some { r with line := r.line + 1, left := r.left - 1 } } }) ∧
  (∀ d : Dev, d.pkg.powered = true → d.cpn.frozen = false → Does .cpnData d { d with cpn := { d.cpn with tap := .data } }) ∧
  (∀ (d : Dev) (r : Readout), d.pkg.powered = true → d.cpn.frozen = true → d.cpn.req = some r → r.capd = true → rbit d Reg.CPN_CTRL 3 = true →
    DoesSome .readoutRequestEnd d (fun t => t.cpn.req = none ∧ t.answer = ofBytes (frameOf d r.seg (r.line + r.left - 1) true) ∧
      t.mem = d.mem)) ∧
  (∀ (d : Dev) (seg l : Nat) (last : Bool), (frameOf d seg l last).length = 80 ∧
    slice (frameOf d seg l last) 0 4 = toBytes 4 0x3C5AA5C3 ∧ slice (frameOf d seg l last) 8 4 = toBytes 4 l) ∧
  (∀ (d : Dev) (i l : Nat) (last : Bool), denied d = false → i < 32 → l < 65536 → domState d i ≠ 3 →
    slice (frameOf d (5 * 65536 + i) l last) 16 64 = getBytes d.mem (cmemBase i + 64 * l) 64 ∧
    slice (frameOf d (5 * 65536 + i) l last) 12 2 = toBytes 2 (storedCheck d (cmemBase i + 64 * l))) ∧
  (∀ (d : Dev) (seg l : Nat) (last : Bool), denied d = true → slice (frameOf d seg l last) 16 64 = List.replicate 64 0) ∧
  (∀ (d : Dev) (slot : Nat) (key sig : List Byte), d.pkg.powered = true → d.cpn.fails < 3 → d.cpn.verify = none → (slot = 4 ∨ slot = 5) →
    d.srl.fuses.dbgValid.testBit (slot - 4) = true → d.srl.fuses.dbgRevoked.testBit (slot - 4) = false →
    DoesSome (.cpnUnlock slot key sig) d (fun t => t.cpn.verify = some ⟨slot, key.take 97, sig.take 96, d.cpn.nonces⟩ ∧
      t.cpn.nonces = d.cpn.nonces + 1 ∧ t.regs = d.regs)) ∧
  (∀ (d : Dev) (slot : Nat) (key sig : List Byte), d.pkg.powered = true → 3 ≤ d.cpn.fails →
    Does (.cpnUnlock slot key sig) d { d with cpn := { d.cpn with tap := .unlock } }) ∧
  (∀ (d : Dev) (u : Unlock), d.pkg.powered = true → d.cpn.verify = some u →
    DoesSome .unlockVerifyDone d (fun t => t.cpn.verify = none ∧
      if Config.sigOk u.slot (u.key ++ u.sig ++ toBytes 48 (Config.nonce u.nonce) ++ toBytes 16 Config.serial) = true then
        rbit t Reg.CPN_STATUS 1 = true ∧ denied t = false ∧ t.cpn.fails = d.cpn.fails
      else t.regs = d.regs ∧ t.cpn.fails = d.cpn.fails + 1)) ∧
  (∀ (d : Dev) (c : Nat), live d = true → corePresent d.grade c = true → denied d = false → Does (.halt c) d (sbit d (ccr c 0x010) 1)) ∧
  (∀ (d : Dev) (c : Nat), live d = true → denied d = true → Does (.halt c) d d) ∧
  (∀ (d : Dev) (c i : Nat), live d = true → corePresent d.grade c = true → (coreOf d c).running = true → (coreOf d c).bun = none → i < 4 →
    rbit d (Reg.CPN_DBG_CTL c) (3 + i) = true → (coreOf d c).bpSkip = false → (coreOf d c).pc / 4 = rw d (Reg.CPN_BP c i) / 4 →
    DoesSome (.bkptMatch c) d (fun t => rbit t (Reg.CPN_DBG_STAT c) i = true ∧ rbit t (ccr c 0x010) 2 = true ∧ (coreOf t c).pc = (coreOf d c).pc))

/-- R480: the SPI answers a read with 0xA5, its data and its status, and a write with 0xA5 and its status; a block that is not yet served, or any
in a freeze, answers REG at once; a write cut short writes nothing; an unknown command returns 0xFF. -/
def Sys2Proof.Claims.SpiAnswersItsCommands : Prop :=
  (∀ (d e : Dev) (a : BitVec 48) (r : Reply), spiRuns d = true → spiServes d a.toNat = true → a.toNat % 4 = 0 →
    ownAnswer d .spi a.toNat 4 = 0 → spiAway d a.toNat = false → serveRead d .spi a.toNat 4 = (e, some r) →
    Does (.spiRead a false) d (setMiso e ([0xA5#8] ++ (toBytes 4 (if r.status = 0 then ofBytes r.data else 0)).reverse ++
      [BitVec.ofNat 8 (r.status % 16)]))) ∧
  (∀ (d : Dev) (a : BitVec 48), spiRuns d = true → spiServes d a.toNat = false →
    Does (.spiRead a false) d (setMiso d [0xA5#8, 0, 0, 0, 0, 2])) ∧
  (∀ (d : Dev) (a : BitVec 48) (v : Word), spiRuns d = true → spiServes d a.toNat = false →
    Does (.spiWrite a v 32 false) d (setMiso d [0xA5#8, 2])) ∧
  (∀ d : Dev, ∀ a, d.cpn.frozen = true → spiServes d a = false) ∧
  (∀ (d e : Dev) (a : BitVec 48) (v : Word) (st : Nat), spiRuns d = true → spiServes d a.toNat = true → a.toNat % 4 = 0 →
    ownAnswer d .spi a.toNat 4 = 0 → spiAway d a.toNat = false → serveWrite d .spi a.toNat (toBytes 4 v.toNat) [] [] = (e, some st) →
    Does (.spiWrite a v 32 false) d (setMiso e [0xA5#8, BitVec.ofNat 8 (st % 16)])) ∧
  (∀ (d : Dev) (a : BitVec 48) (v : Word) (got : Nat) (lost : Bool), spiRuns d = true → got < 32 →
    Does (.spiWrite a v got lost) d (setMiso d [])) ∧
  (∀ (d : Dev) (cmd : BitVec 8) (n : Nat), spiRuns d = true → cmd ≠ 2 → cmd ≠ 3 →
    Does (.spiBadCommand cmd n) d (setMiso d (List.replicate n 0xFF#8)))

/-- R459 to R467, R480: the 1149.1 port, core debug and the management SPI. -/
def Obligations.PortAndSpiAnswer : Prop :=
  Sys2Proof.Claims.PortReadsOutAndDebugs ∧ Sys2Proof.Claims.SpiAnswersItsCommands

/-! ## Baseline firmware -/

/-- R12, R13, R27: a request at the head of the firmware's control queue is answered: QUERY with the load points, one that names no carrier
or breaks a limit with its cause; one that is admitted waits for its commit boundary. -/
def Obligations.FirmwareAnswersRequests : Prop :=
  (∀ (d g : Dev) (a : Nat) (e : FwEntry), Asked d g a e → e.op = 4 → DoesSome .query d (fun t => Replied g t e 0 0 0)) ∧
  (∀ (d g : Dev) (a : Nat) (e : FwEntry) (ws : List FwWrite), Asked d g a e → e.op = 3 → e.cell < 96 → mget none g.fw.cells e.cell = none →
    (∀ r ∈ g.fw.waits, r.cell ≠ e.cell) → DoesSome (.remove ws) d (fun t => Replied g t e 3 0 0)) ∧
  (∀ (d g : Dev) (a n : Nat) (e : FwEntry) (cs : List FwClaim) (ws : List FwWrite), Asked d g a e → e.op = 2 → 96 ≤ e.cell →
    DoesSome (.change n cs ws) d (fun t => Replied g t e 3 0 0)) ∧
  (∀ (d g : Dev) (a n : Nat) (e : FwEntry) (cs : List FwClaim) (ws : List FwWrite), Asked d g a e → e.op = 1 → e.cell < 96 →
    (∃ r ∈ g.fw.waits, r.cell = e.cell) → DoesSome (.add n cs ws) d (fun t => Replied g t e 4 0 0)) ∧
  (∀ (d g h : Dev) (a n : Nat) (e : FwEntry) (cs : List FwClaim) (ws : List FwWrite) (x : List Byte), Asked d g a e → e.op = 1 → e.cell < 96 →
    (∀ r ∈ g.fw.waits, r.cell ≠ e.cell) → e.desc % 64 = 0 → inMem g.grade e.desc (max 1 e.len) = true → memRead g e.desc e.len = (h, .ok, x) →
    badOfs x e.len (fun k => match mget none (cellsAfter g) k with | some c => decide (c.rat = 1) | none => false) = none →
    pointLimit g < pointsOf (carriers (mput none (cellsAfter g) e.cell (some (profileCell x)))) →
    DoesSome (.add n cs ws) d (fun t => Replied h t e 1 1 0)) ∧
  (∀ (d g h : Dev) (a : Nat) (e : FwEntry) (x : List Byte), Asked d g a e → (e.op = 1 ∨ (e.op = 2 ∧ (mget none g.fw.cells e.cell).isSome = true)) →
    e.cell < 96 → (∀ r ∈ g.fw.waits, r.cell ≠ e.cell) → e.desc % 64 = 0 → inMem g.grade e.desc (max 1 e.len) = true →
    memRead g e.desc e.len = (h, .ok, x) →
    badOfs x e.len (fun k => match mget none (cellsAfter g) k with | some c => decide (c.rat = 1) | none => false) = none →
    pw x (imgNum x 0x18 4 + 4) 5 0 < macCount g.grade → g.fw.vals = [] → comState h = 0 → askedB h e.at_ < 2 ^ 64 →
    DoesSome (if e.op = 1 then .add 0 [] [] else .change 0 [] []) d (fun t =>
      let limit := limitBroken h (carriers (mput none (cellsAfter g) e.cell (some (profileCell x)))) (profileCell x)
      if limit = 0 then t.fw.waits = g.fw.waits ++ [⟨e.op, e.cell, some (profileCell x), e.replyQ, e.cookie, askedB h e.at_⟩] ∧
        comState t = 1 ∧ comB t = askedB h e.at_
      else Replied h t e 1 limit 0)) ∧
  (∀ (d g : Dev) (a : Nat) (e : FwEntry), Asked d g a e → e.op = 3 → e.cell < 96 → (mget none g.fw.cells e.cell).isSome = true →
    (∀ r ∈ g.fw.waits, r.cell ≠ e.cell) → g.fw.vals = [] → comState g = 0 → askedB g e.at_ < 2 ^ 64 →
    DoesSome (.remove []) d (fun t => t.fw.waits = g.fw.waits ++ [⟨3, e.cell, none, e.replyQ, e.cookie, askedB g e.at_⟩] ∧
      comState t = 1 ∧ comB t = askedB g e.at_)) ∧
  (∀ d : Dev, live d = true → fwMap d = none → Does .query d d)

namespace Sys2Proof.Claims
open Sys2Proof.Machine Sys2Proof.Safety

/-- `t` stands as `d` does but for the level bytes of the SPI, a thermal trip, what the Campion port shows and holds, and the word that
tells whether the part is unlocked. -/
def Stands (d t : Dev) : Prop :=
  { t with cpn := d.cpn, pkg := d.pkg, answer := d.answer, regs := d.regs } = d ∧
  (∀ a, a ≠ Reg.CPN_STATUS → rw t a = rw d a) ∧ t.pkg.powered = d.pkg.powered ∧
  t.cpn.frozen = d.cpn.frozen ∧ t.cpn.cause = d.cpn.cause ∧ t.cpn.core = d.cpn.core ∧ t.cpn.at_ = d.cpn.at_ ∧ t.cpn.stops = d.cpn.stops

/-- Supply and the reset pins. -/
def IsReset (c : Instr) : Prop := c = .vinRise ∨ c = .vinFall ∨ (∃ b, c = .porstN b) ∨ (∃ b, c = .resetN b)

/-- The die is frozen as it was in `d0`, and no supply or reset command waits. -/
def FrozenAs (d0 : Dev) (s : State) : Prop :=
  d0.cpn.frozen = true ∧ Stands d0 s.dev ∧ ∀ c ∈ s.pending, ¬ IsReset c

end Sys2Proof.Claims

open Sys2Proof Sys2Proof.Machine Sys2Proof.Safety Sys2Proof.Claims

/-! ## The whole machine -/

/-- One step of a state with a command waiting is that command's effect on the device with the rest of the queue; with none waiting one
cycle of the air-time clock passes on a running die whose start-up has done step 2 (R39, R369; that time passes only then is the model's
choice, log entry 2). -/
def Obligations.AStepRunsTheFrontCommand : Prop :=
  (∀ (c : Instr) (cs : List Instr) (d : Dev), step ⟨c :: cs, d⟩ = exec c ⟨cs, d⟩) ∧
  (∀ d : Dev, live d = true → stepDone d 2 = true → ∃ ph : Int,
    step ⟨[], d⟩ = .next ⟨[], { d with air := { d.air with now := (d.air.now + 2) % 2 ^ 64, phase := ph }, fab := { d.fab with age := d.fab.age + 2 } }⟩ ∧
    ((d.air.now + 2) % 2 ^ 64 % 131072 ≠ 0 → ph = d.air.phase) ∧
    (ph - d.air.phase).natAbs ≤ 1 ∧ ph.natAbs ≤ d.air.phase.natAbs) ∧
  (∀ d : Dev, (live d = false ∨ stepDone d 2 = false) → step ⟨[], d⟩ = .next ⟨[], d⟩)

/-- Every command answers a next state, whatever the device, and leaves the commands behind it waiting: none stops the machine. -/
def Obligations.EveryCommandAnswersAndKeepsTheQueue : Prop :=
  ∀ (c : Instr) (s : State), ∃ t : Dev, exec c s = .next ⟨s.pending, t⟩

/-- R455, R456, R465: every step keeps a frozen die as it stands until supply or a reset pin acts: memory, checks, cores, queues, engines,
MACs, air time and every register but CPN_STATUS, with F, the cause and the stop times of the freeze. -/
def Obligations.AFrozenDieStaysFrozen : Prop :=
  ∀ (d0 : Dev) (s t : State), FrozenAs d0 s → step s = .next t → FrozenAs d0 t

/-- R16, R80: every step that issues an instruction of a core keeps memory in its canonical form, in which equal memories are equal data. -/
def Obligations.InstructionsKeepMemoryCanonical : Prop :=
  ∀ (ins : Instr) (i : Iss) (cs : List Instr) (d : Dev) (t : State), issOf ins = some i → Memory.wf d.mem = true →
    step ⟨ins :: cs, d⟩ = .next t → Memory.wf t.dev.mem = true

/-- R79: after the core is reset every register in every bank is 0, except that vl is 16 and p0 reads 1. -/
def Obligations.CoreResetClearsEveryRegister : Prop :=
  ∀ (d : Dev) (c : Nat),
    (∀ bank code, bankRead (bankOf (coreOf (coreReset d c) c) bank) code = if code = 0x40 then 1 else 0) ∧
    (∀ i, mget 0 (coreOf (coreReset d c) c).v i = 0 ∧ mget 0 (coreOf (coreReset d c) c).vm i = 0 ∧
      mget 0 (coreOf (coreReset d c) c).c i = 0) ∧
    (coreOf (coreReset d c) c).vl = 16 ∧ (coreOf (coreReset d c) c).vff = 0

/-- R39, R176, R207, R450: right after reset no command waits, the die runs and is not frozen, air time is 0, every register word holds its
Reset column, every slot is FREE and every queue DISABLED in generation 0, every core is as core reset leaves it, and memory lists nothing
in its canonical form (that unlisted bytes read 0 is the model's choice, log entry 8). -/
def Obligations.ResetLeavesTheStatedValues : Prop :=
  State.reset.pending = [] ∧ live State.reset.dev = true ∧ State.reset.dev.cpn.frozen = false ∧ State.reset.dev.air.now = 0 ∧
  State.reset.dev.fab.age = 0 ∧ (∀ a, rw State.reset.dev a = (regReset a).toNat) ∧
  (∀ id, (slotOf State.reset.dev id).st = .free ∧ (slotOf State.reset.dev id).gen = 0) ∧
  (∀ q, (qOf State.reset.dev q).st = 0 ∧ (qOf State.reset.dev q).gen = 0) ∧
  (∀ c, coreOf State.reset.dev c = Core.reset) ∧ Memory.wf State.reset.dev.mem = true ∧ (∀ a, memByte State.reset.dev a = 0)

namespace Sys2Proof.Claims
open Sys2Proof.Machine Sys2Proof.Safety

/-- Command `c` changes only what `back d t` puts back as it was in `d`. -/
def Keeps (c : Instr) (back : Dev → Dev → Dev) : Prop := ∀ q d t, exec c ⟨q, d⟩ = .next ⟨q, t⟩ → back d t = d

/-- Command `c` changes no register word but those of `ok`. -/
def KeepsWords (c : Instr) (ok : Nat → Prop) : Prop :=
  ∀ q d t, exec c ⟨q, d⟩ = .next ⟨q, t⟩ → ∀ a, ¬ ok a → rw t a = rw d a

/-- The words `ws`, and both words of the 64-bit values `cs`. -/
def In (ws cs : List Nat) (a : Nat) : Prop := a ∈ ws ∨ ∃ b ∈ cs, a = b ∨ a = b + 4

/-- A control register of a core. -/
def CoreWord (a : Nat) : Prop := ∃ c, ccr c 0 ≤ a ∧ a < ccr c 0x1000

/-- What a vector to the host, or an alert that raises one, may write. -/
def VecWord (a : Nat) : Prop := In [Reg.MON_ALERT] [Reg.HLK_VEC_PEND, Reg.HLK_CNT_RAISE, Reg.HLK_CNT_INT] a

/-- Bundles of the core lie inside its own memory. -/
def OwnPlaces (x : Core) : Prop :=
  ∀ u, x.bun = some u → (∀ p ∈ u.stores, p.addr + p.data.length ≤ 0x40000) ∧
    ∀ o ∈ u.ops, ∀ a acd m f s, o = .fir a acd m f s → a + 12 ≤ 0x40000

/-- What hardware that reads or writes memory lines may change beside its own unit: memory, checks, the tables of the integrity unit, reports to
Tansy, notes on their way, the host link's directory and messages, wakes, Sorrel's log, and registers. -/
def lineBack (d t : Dev) : Dev :=
  { t with
      freeCtr := d.freeCtr, hlk := d.hlk, integ := d.integ, mem := d.mem, owed := d.owed, pwr := d.pwr,
      regs := d.regs, srl := d.srl, syn := d.syn, tsy := d.tsy }

end Sys2Proof.Claims

open Sys2Proof Sys2Proof.Machine Sys2Proof.Safety Sys2Proof.Claims

/-! ## What commands leave as it is -/

/-- R66, R77, R80, R81: an instruction changes nothing of air time, staged words, queues, engines, the front end, the shaping unit, Yarrow, the
MACs, Campion, the package and the firmware; it leaves every other core as it is, and every byte of memory outside its own LDM and
Sorrel. Events of a core leave what they do not serve. -/
def Obligations.InstructionsLeaveOtherUnits : Prop :=
  (∀ ins i, issOf ins = some i → Keeps ins (fun d t =>
    lineBack d { t with cores := d.cores, dma := d.dma, fab := d.fab })) ∧
  (∀ ins i, issOf ins = some i → ∀ q d t, exec ins ⟨q, d⟩ = .next ⟨q, t⟩ → OwnPlaces (coreOf d i.core) →
    (∀ e, e ≠ i.core → coreOf t e = coreOf d e) ∧
    ∀ a, (a < ldmBase i.core ∨ ldmBase i.core + 0x40000 ≤ a) → a < SRL_BASE → memByte t a = memByte d a) ∧
  (∀ c, Keeps (.loopBack c) (fun d t => { t with cores := d.cores })) ∧
  (∀ c, Keeps (.interruptEntry c) (fun d t => { t with cores := d.cores, freeCtr := d.freeCtr, regs := d.regs })) ∧
  (∀ c, Keeps (.retiResume c) (fun d t => { t with cores := d.cores, dma := d.dma, freeCtr := d.freeCtr, regs := d.regs, tsy := d.tsy })) ∧
  (∀ c, Keeps (.bcpCommandComplete c) (fun d t => { t with cores := d.cores, dma := d.dma, regs := d.regs, tsy := d.tsy })) ∧
  (∀ e ∈ bcpRows, ∀ c, Keeps (e.1 c) (fun d t => lineBack d { t with cores := d.cores, dma := d.dma })) ∧
  (∀ c q d t, exec (.dmaTransferStart c) ⟨q, d⟩ = .next ⟨q, t⟩ →
    (∀ x ∈ (dmaOf d c).q.head?, ∀ a ∈ dmaPieces x, isReg a.1 = false ∧ isReg a.2.1 = false) →
    lineBack d { t with dma := d.dma } = d) ∧
  (∀ c, Keeps (.dmaTransferEnd c) (fun d t => { t with dma := d.dma, owed := d.owed, regs := d.regs }))

/-- R207 to R216, R176 to R205: a command on one queue changes no other queue, no memory, and only its own counters; a signal, an event, a
time-out, a release or a message changes Tansy's tables and counters alone; dispatch and the resets of cores change cores as well. -/
def Obligations.QueueAndWorkCommandsLeaveTheRest : Prop :=
  (∀ q, Keeps (.queueCreate q) (fun d t => { t with qs := d.qs, regs := d.regs }) ∧
    KeepsWords (.queueCreate q) (In [Reg.QMG_QCFG q, Reg.QMG_STATUS] [])) ∧
  (∀ q, Keeps (.queueDestroy q) (fun d t => { t with qs := d.qs, regs := d.regs }) ∧
    KeepsWords (.queueDestroy q) (In [Reg.QMG_QCFG q] [Reg.QMG_CNT_DISCARD, Reg.QMG_CNT_VOID])) ∧
  (∀ who q i g v, Keeps (.qdbPublish who q i g v) (fun d t => { t with qs := d.qs, regs := d.regs }) ∧
    KeepsWords (.qdbPublish who q i g v)
      (In [Reg.QMG_STATUS] [Reg.QDB_CNT_STALE q, Reg.QMG_CNT_BADOP, Reg.QMG_CNT_STALE, Reg.QMG_CNT_VOID])) ∧
  (∀ q n g, Keeps (.qdbConsumed q n g) (fun d t => { t with qs := d.qs, regs := d.regs }) ∧
    KeepsWords (.qdbConsumed q n g)
      (In [Reg.QMG_STATUS] [Reg.QDB_CNT_STALE q, Reg.QMG_CNT_BADOP, Reg.QMG_CNT_STALE, Reg.QMG_CNT_VOID])) ∧
  (∀ (c : Instr) (q p : Nat), (c = .queueCreate q ∨ c = .queueDestroy q ∨ c = .queueDisabled q ∨ (∃ who g, c = .qdbReserve who q g) ∨
    (∃ who i g v, c = .qdbPublish who q i g v) ∨ (∃ n g, c = .qdbConsumed q n g)) → p ≠ q →
    ∀ s d t, exec c ⟨s, d⟩ = .next ⟨s, t⟩ → qOf t p = qOf d p) ∧
  (∀ q, Keeps (.hwProduce q) (fun d t => { t with
      hlk := d.hlk, integ := d.integ, mem := d.mem, owed := d.owed, qs := d.qs, regs := d.regs, syn := d.syn })) ∧
  (∀ q, Keeps (.hwConsume q) (fun d t => lineBack d { t with eng := d.eng, mac := d.mac, qs := d.qs })) ∧
  (∀ (c : Instr), (c = .signal ∨ c = .eventRaise ∨ c = .release ∨ (∃ v, c = .tsySignal v ∨ c = .tsyEventRaise v ∨ c = .tsyRelease v) ∨
    (∃ i, c = .waitTimeout i)) → Keeps c (fun d t => { t with owed := d.owed, regs := d.regs, tsy := d.tsy }) ∧
    KeepsWords c (fun a => In [] [Reg.TSY_CNT_COMPLETE, Reg.TSY_CNT_STALE, Reg.TSY_CNT_SURPLUS, Reg.TSY_CNT_TIMEOUT] a ∨
      ∃ e, a = Reg.TSY_EVENT_CNT e)) ∧
  Keeps .dispatch (fun d t => { t with cores := d.cores, regs := d.regs, tsy := d.tsy }) ∧
  KeepsWords .dispatch (fun a => CoreWord a ∨ In [] [Reg.TSY_CNT_DISPATCH, Reg.TSY_CNT_DLMISS] a) ∧
  (∀ (c : Instr) (k : Nat), (c = .resume k ∨ c = .haltHoldExpiry k) →
    Keeps c (fun d t => { t with cores := d.cores, dma := d.dma, qs := d.qs, regs := d.regs, tsy := d.tsy }) ∧
    KeepsWords c (fun a => CoreWord a ∨ In [] [Reg.QMG_CNT_VOID] a)) ∧
  Keeps .descriptorAccept (fun d t => lineBack d { t with qs := d.qs }) ∧
  (∀ (c : Instr), (c = .doneReport ∨ ∃ v, c = .tsyCancel v) → Keeps c (fun d t =>
    { t with hlk := d.hlk, integ := d.integ, owed := d.owed, regs := d.regs, syn := d.syn, tsy := d.tsy })) ∧
  (∀ i, Keeps (.watchdogKill i) (fun d t => { t with
      cores := d.cores, dma := d.dma, hlk := d.hlk, integ := d.integ, owed := d.owed, qs := d.qs, regs := d.regs,
      syn := d.syn, tsy := d.tsy })) ∧
  Keeps .lineageReport (fun d t => { t with
      hlk := d.hlk, integ := d.integ, mem := d.mem, owed := d.owed, regs := d.regs, syn := d.syn, tsy := d.tsy })

/-- R44 to R63: the commands of the AIR block change that block, staged words and snapshot copies, its registers, and the alert and vector that
they raise; a step of air time, or a snapshot that ends with one waiting, acts on Tansy as well. -/
def Obligations.AirTimeCommandsLeaveTheRest : Prop :=
  (∀ (c : Instr), (c = .sourceLost ∨ c = .sourceReturn ∨ c = .refclkLoss) →
    Keeps c (fun d t => { t with air := d.air, hlk := d.hlk, pwr := d.pwr, regs := d.regs }) ∧
    KeepsWords c (fun a => VecWord a ∨ a = Reg.AIR_STATUS)) ∧
  (∀ b, Keeps (.ppsInEdge b) (fun d t => { t with air := d.air, freeCtr := d.freeCtr, regs := d.regs }) ∧
    KeepsWords (.ppsInEdge b) (In [Reg.AIR_PPS_ERR] [Reg.AIR_PPS_TS])) ∧
  (∀ (c : Instr), (c = .ppsOutEdge ∨ ∃ n, c = .timingOutEdge n) →
    Keeps c (fun d t => { t with air := { t.air with tout := d.air.tout } })) ∧
  (∀ (c : Instr), (c = .snapshotEnd ∨ ∃ v, c = .airStep v) → Keeps c (fun d t => { t with
      air := d.air, cores := d.cores, dma := d.dma, freeCtr := d.freeCtr, owed := d.owed, qs := d.qs, regs := d.regs,
      tsy := d.tsy })) ∧
  (∀ (c : Instr), (∃ p s l x, c = .commitNext p s l x ∨ c = .commitAt p s l x) →
    Keeps c (fun d t => { t with air := d.air, regs := d.regs, staged := d.staged }) ∧
    KeepsWords c (In [Reg.AIR_COMMIT_STATUS, Reg.AIR_SNAP_STATUS] [Reg.AIR_COMMIT_AT, Reg.AIR_SNAP_AT])) ∧
  Keeps .commitDiscard (fun d t => { t with air := d.air, regs := d.regs, staged := d.staged }) ∧
  KeepsWords .commitDiscard (In [Reg.AIR_COMMIT_STATUS, Reg.AIR_SNAP_STATUS] []) ∧
  Keeps .commitArm (fun d t => { t with air := d.air, latch := d.latch, regs := d.regs, staged := d.staged }) ∧
  (∀ l, Keeps (.commitDecide l) (fun d t => { t with air := d.air, hlk := d.hlk, regs := d.regs }) ∧
    KeepsWords (.commitDecide l) (fun a => VecWord a ∨ a = Reg.AIR_COMMIT_STATUS)) ∧
  Keeps .commitApply (fun d t => { t with
      air := d.air, fen := d.fen, freeCtr := d.freeCtr, latch := d.latch, regs := d.regs, snap := d.snap,
      txs := d.txs, yrw := d.yrw }) ∧
  (∀ b, Keeps (.snapNext b) (fun d t => { t with air := d.air, regs := d.regs }) ∧
    KeepsWords (.snapNext b) (In [Reg.AIR_SNAP_STATUS] [Reg.AIR_SNAP_AT])) ∧
  (∀ b, Keeps (.snapAt b) (fun d t => { t with air := d.air, regs := d.regs }) ∧
    KeepsWords (.snapAt b) (In [Reg.AIR_SNAP_STATUS] [Reg.AIR_SNAP_AT])) ∧
  Keeps .snapshotCapture (fun d t => { t with air := d.air, freeCtr := d.freeCtr, regs := d.regs, snap := d.snap })

/-- R228 to R346: commands of engines, the front end, transmit shaping, Yarrow and the MACs change their own unit and its registers, what a unit
that reads or writes lines may change, and the notes that they send; a frame leaves every other MAC. -/
def Obligations.SignalPathCommandsLeaveTheRest : Prop :=
  (∀ k j, Keeps (.jobComplete k j) (fun d t => lineBack d { t with eng := d.eng, qs := d.qs })) ∧
  (∀ s, Keeps (.gainUpdate s) (fun d t => { t with fen := d.fen, regs := d.regs }) ∧
    KeepsWords (.gainUpdate s) (In [Reg.FEN_GL_STATE s] [])) ∧
  (∀ v, Keeps (.fenGlUnfreeze v) (fun d t => { t with fen := d.fen, regs := d.regs }) ∧
    KeepsWords (.fenGlUnfreeze v) (In [Reg.FEN_GL_STATE (v.toNat % 2 ^ 11)] [])) ∧
  (∀ b w, Keeps (.energyTrigger b w) (fun d t => { t with fen := d.fen, regs := d.regs }) ∧
    KeepsWords (.energyTrigger b w) (fun a => ∃ s, a = Reg.FEN_GL_STATE s)) ∧
  (∀ b w, Keeps (.qualifierDone b w) (fun d t => lineBack d { t with fen := d.fen })) ∧
  (∀ b w, Keeps (.wordMatch b w) (fun d t => { t with fen := d.fen, regs := d.regs }) ∧
    KeepsWords (.wordMatch b w) (fun a => In [] [Reg.FEN_CNT_DET] a ∨ ∃ s, a = Reg.FEN_GL_STATE s)) ∧
  (∀ (c : Instr) (b w : Nat), (c = .windowResult b w ∨ c = .bfGraceExpiry b w) →
    Keeps c (fun d t => { t with fen := d.fen, freeCtr := d.freeCtr, owed := d.owed, regs := d.regs }) ∧
    KeepsWords c (In [Reg.FEN_STATUS, Reg.FEN_BF_RES0 b w] [Reg.FEN_BF_RES_TIME b w, Reg.FEN_BF_RES_PEAK b w, Reg.FEN_CNT_RESOVR])) ∧
  (∀ b n, Keeps (.bfSampleDrop b n) (fun d t => { t with fen := d.fen, regs := d.regs }) ∧
    KeepsWords (.bfSampleDrop b n) (In [Reg.FEN_STATUS] [Reg.FEN_CNT_SKIP])) ∧
  (∀ n, Keeps (.paEnEdge n) (fun d t => { t with regs := d.regs, txs := d.txs, yrw := d.yrw }) ∧
    KeepsWords (.paEnEdge n) (In [Reg.TXS_PAEN_LEVEL] [])) ∧
  (∀ v, Keeps (.txsPaenClr v) (fun d t => { t with regs := d.regs, txs := d.txs, yrw := d.yrw }) ∧
    KeepsWords (.txsPaenClr v) (In [Reg.TXS_PAEN_LEVEL, Reg.TXS_PAEN_DROP] [])) ∧
  (∀ (c : Instr), (∃ n, c = .yrwSwTrig n ∨ (∃ q, c = .seqTrigger q ∨ c = .samplingInstant q)) →
    Keeps c (fun d t => { t with regs := d.regs, yrw := d.yrw }) ∧ KeepsWords c (In [Reg.YRW_STATUS] [Reg.YRW_CNT_OVR])) ∧
  (∀ rs, Keeps (.sequenceResult rs) (fun d t => { t with hlk := d.hlk, owed := d.owed, regs := d.regs, txs := d.txs, yrw := d.yrw }) ∧
    Keeps (.injResult rs) (fun d t => { t with hlk := d.hlk, regs := d.regs, txs := d.txs, yrw := d.yrw }) ∧
    Keeps (.calPhaseEnd rs) (fun d t => { t with regs := d.regs, srl := d.srl, yrw := d.yrw })) ∧
  (∀ (c : Instr), (c = .injSampling ∨ c = .calPhaseStart ∨ (∃ n, c = .calPhase0 n) ∨ ∃ n m, c = .calPhase1 n m) →
    Keeps c (fun d t => { t with regs := d.regs, yrw := d.yrw }) ∧ KeepsWords c (In [Reg.YRW_STATUS, Reg.YRW_CAL_STATUS] [])) ∧
  (∀ m fr p a b n, Keeps (.frameReceive m fr p a b n) (fun d t =>
    { t with fen := d.fen, freeCtr := d.freeCtr, mac := d.mac, regs := d.regs })) ∧
  (∀ m, Keeps (.frameDelivery m) (fun d t => lineBack d { t with mac := d.mac, qs := d.qs }) ∧
    Keeps (.frameLaunch m) (fun d t => lineBack d { t with mac := d.mac }) ∧
    Keeps (.frameSent m) (fun d t => { t with freeCtr := d.freeCtr, mac := d.mac, owed := d.owed, regs := d.regs }) ∧
    Keeps (.macTxtsPop m) (fun d t => { t with freeCtr := d.freeCtr, mac := d.mac, regs := d.regs })) ∧
  (∀ (c : Instr) (m k : Nat), (c = .frameDelivery m ∨ c = .frameLaunch m ∨ c = .frameSent m ∨ c = .macTxtsPop m ∨
    ∃ fr p a b n, c = .frameReceive m fr p a b n) → k ≠ m → ∀ s d t, exec c ⟨s, d⟩ = .next ⟨s, t⟩ → macOf t k = macOf d k) ∧
  (∀ m, KeepsWords (.macLinkUp m) (In [Reg.MAC_LINK (m / 4) (m % 4)] []) ∧
    ∀ l, KeepsWords (.macLinkDown m l) (In [Reg.MAC_LINK (m / 4) (m % 4)] [Reg.MAC_LINK_DOWN (m / 4) (m % 4)])) ∧
  (∀ g r v, KeepsWords (.brEnable g r v) (In [Reg.MAC_BR_CFG g r, Reg.MAC_BR_PROD g r, Reg.MAC_BR_CONS g r] []))

/-- R362 to R470: commands of the fabric's links, power, memory integrity, the host link, the monitors, Sorrel and Campion change their own unit,
its registers, and the alerts, records and vectors that they cause; the Campion port changes nothing that a program can see but its
unlock. -/
def Obligations.HousekeepingCommandsLeaveTheRest : Prop :=
  (∀ w n, Keeps (.requestTimeout w n) (fun d t => { t with fab := d.fab, hlk := d.hlk, regs := d.regs })) ∧
  (∀ (c : Instr), (∃ k i b, c = .linkReplay k i b ∨ c = .heartbeatLoss k i ∨ c = .reconfMarkFailed k i ∨ c = .reconfReturn k i) →
    Keeps c (fun d t => { t with fab := d.fab, hlk := d.hlk, mem := d.mem, regs := d.regs, srl := d.srl })) ∧
  (∀ k i, Keeps (.rtsTestEnd k i) (fun d t => { t with fab := d.fab, regs := d.regs, srl := d.srl })) ∧
  Keeps .epochRelease (fun d t => { t with fab := d.fab, regs := d.regs }) ∧
  KeepsWords .epochRelease (In [Reg.FAB_STATUS] [Reg.FAB_CNT_EPOCH]) ∧
  (∀ (c : Instr), (c = .wakeAdmit ∨ ∃ p, c = .powerDown p ∨ c = .wake p) → Keeps c (fun d t => { t with pwr := d.pwr, regs := d.regs }) ∧
    KeepsWords c (fun a => In [Reg.PWR_STATUS] [Reg.FAB_CNT_PDABORT] a ∨ (∃ p, a = Reg.PWR_DOM_STATE p) ∨ ∃ k, a = Reg.TSY_CORE_CTL k)) ∧
  (∀ p, Keeps (.powerOff p) (fun d t => { t with mem := d.mem, pwr := d.pwr, regs := d.regs, syn := d.syn }) ∧
    KeepsWords (.powerOff p) (In [Reg.PWR_DOM_STATE p] [Reg.PWR_CNT_OFF, Reg.FAB_CNT_PDABORT])) ∧
  (∀ (c : Instr), (c = .readRaw ∨ c = .writeData ∨ c = .writeChk ∨ c = .testOpDone) →
    Keeps c (fun d t => { t with integ := d.integ, mem := d.mem, pwr := d.pwr, regs := d.regs, syn := d.syn })) ∧
  Keeps .teaselLineRead (fun d t => lineBack d t) ∧ (∀ a, Keeps (.refetchComplete a) (fun d t => lineBack d t)) ∧
  Keeps .teaselGo (fun d t => { t with hlk := d.hlk, integ := d.integ, mem := d.mem, owed := d.owed, regs := d.regs, syn := d.syn }) ∧
  (∀ (c : Instr) (k g a n : Nat) (bs : List Byte) (ms : List Bool), (c = .rd k g a n ∨ c = .wr k g a bs ms ∨ c = .rdc k g a ∨ c = .rdx k g a ∨
    c = .wb k g a bs ∨ c = .cln k g a ∨ c = .snpack g ∨ c = .snpdata g bs ∨ c = .snoopTimeout g) →
    Keeps c (fun d t => lineBack d { t with fab := d.fab })) ∧
  (∀ (c : Instr), ((∃ v, c = .hlkVecRaise v ∨ c = .hlkVecEn v) ∨ ∃ v, c = .droop v) →
    Keeps c (fun d t => { t with hlk := { t.hlk with toHost := d.hlk.toHost }, regs := d.regs })) ∧
  (∀ (c : Instr), (c = .hostLinkDown ∨ ∃ m b, c = .moduleFail m b) →
    Keeps c (fun d t => { t with hlk := d.hlk, mem := d.mem, regs := d.regs, srl := d.srl })) ∧
  (∀ (c : Instr), (c = .hostReset ∨ c = .hostDownTimeout) → Keeps c (fun d t => { t with
      fab := d.fab, hlk := d.hlk, integ := d.integ, mem := d.mem, owed := d.owed, qs := d.qs, regs := d.regs,
      syn := d.syn })) ∧
  (∀ l, Keeps (.tempSample l) (fun d t => { t with
      hlk := d.hlk, mem := d.mem, pkg := d.pkg, pwr := d.pwr, regs := d.regs, srl := d.srl, txs := d.txs,
      yrw := d.yrw })) ∧
  (∀ (c : Instr), (∃ v p, c = .throttleStart v p ∨ c = .throttleEnd v p) → Keeps c (fun d t => { t with pwr := d.pwr, regs := d.regs }) ∧
    KeepsWords c (fun a => CoreWord a ∨ In [Reg.PWR_ENV, Reg.PWR_STATUS, Reg.PWR_VIN] [Reg.PWR_CNT_THROT, Reg.PWR_CNT_THROT_US] a)) ∧
  (∀ vs ps, Keeps (.monResult vs ps) (fun d t => { t with hlk := d.hlk, mem := d.mem, pwr := d.pwr, regs := d.regs, srl := d.srl })) ∧
  Keeps .listenEntry (fun d t => { t with pwr := d.pwr, regs := d.regs }) ∧
  (∀ (c : Instr), (c = .persist ∨ c = .eraseCfg) → Keeps c (fun d t => { t with mem := d.mem, regs := d.regs, srl := d.srl, syn := d.syn }) ∧
    KeepsWords c (In [Reg.SRL_STATUS] [])) ∧
  (∀ (c : Instr), (c = .run ∨ c = .autorunRelease) → Keeps c (fun d t => { t with regs := d.regs, txs := d.txs, yrw := d.yrw }) ∧
    KeepsWords c (In [Reg.SRL_BOOT, Reg.TXS_PAEN_LEVEL] [])) ∧
  (∀ (c : Instr), ((∃ n, c = .freezeN n) ∨ ∃ v, c = .cpnFreeze v) →
    Keeps c (fun d t => { t with air := { t.air with tout := d.air.tout }, cpn := d.cpn, freeCtr := d.freeCtr, srl := d.srl, txs := d.txs })) ∧
  (∀ (c : Instr), (c = .bypass ∨ c = .idcode ∨ c = .cpnStatus ∨ c = .cpnData ∨ c = .readoutRequestEnd ∨ (∃ a b, c = .samplePreload a b) ∨
    (∃ a b, c = .extest a b) ∨ (∃ v, c = .cpnSel v) ∨ ∃ s k g, c = .cpnUnlock s k g) →
    Keeps c (fun d t => { t with answer := d.answer, cpn := d.cpn })) ∧
  Keeps .unlockVerifyDone (fun d t => { t with cpn := d.cpn, regs := d.regs }) ∧ KeepsWords .unlockVerifyDone (In [Reg.CPN_STATUS] [])
end

