-- ==== Sys2Proof/Laws/Store.lean ====
section
/-! SUPPORT. Laws of sparse maps and memories: reading after writing, and that every operation keeps the canonical form. -/

namespace Sys2Proof.Laws

open Sys2Proof.Machine

/-- A map keeps its keys rising when entries are left out. -/
theorem rising_filter {α : Type} (p : Nat × α → Bool) : ∀ (m : Map α) (lo : Option Nat), rising lo m = true →
    rising lo (m.filter p) = true := by
  have weaken : ∀ (m : Map α) (b c : Nat), c ≤ b → rising (some b) m = true → rising (some c) m = true := by
    intro m b c h hm
    cases m with
    | nil => rfl
    | cons e m => simp only [rising, Bool.and_eq_true, decide_eq_true_eq] at hm ⊢; exact ⟨by omega, hm.2⟩
  intro m
  induction m with
  | nil => intro lo _; rfl
  | cons e m ih =>
    intro lo h
    simp only [rising, Bool.and_eq_true] at h
    by_cases hp : p e = true
    · simp only [List.filter, hp, rising, Bool.and_eq_true]; exact ⟨h.1, ih _ h.2⟩
    · simp only [List.filter, hp]
      have h2 := ih _ h.2
      cases lo with
      | none =>
        cases hf : m.filter p with
        | nil => rfl
        | cons a l => rw [hf] at h2; simp only [rising, Bool.and_eq_true] at h2 ⊢; exact ⟨trivial, h2.2⟩
      | some b =>
        have : b < e.1 := by simpa using h.1
        exact weaken _ _ _ (Nat.le_of_lt this) h2

variable {α : Type} [DecidableEq α] (dflt : α)

/-- A map keeps its canonical form when entries are left out. -/
theorem mwf_filter (p : Nat × α → Bool) (m : Map α) (h : mwf dflt m = true) : mwf dflt (m.filter p) = true := by
  simp only [mwf, Bool.and_eq_true, List.all_eq_true] at h ⊢
  exact ⟨rising_filter p m _ h.1, fun x hx => h.2 x (List.mem_filter.mp hx).1⟩

/-- Writing the default leaves out the key's entries. -/
theorem mput_default (m : Map α) (k : Nat) : mput dflt m k dflt = m.filter (fun e => !decide (e.1 = k)) := by
  induction m with
  | nil => simp [mput]
  | cons e m ih => by_cases h : e.1 = k <;> simp [mput, h, ih]

/-- A write sets what its key reads as. -/
@[simp] theorem mget_mput_same (m : Map α) (k : Nat) (v : α) : mget dflt (mput dflt m k v) k = v := by
  by_cases h : v = dflt
  · subst h
    rw [mput_default]
    induction m with
    | nil => rfl
    | cons e m ih => by_cases h : e.1 = k <;> simp [h, mget, ih]
  · induction m with
    | nil => simp [mput, mget, h]
    | cons e m ih =>
      by_cases h1 : k < e.1
      · simp [mput, mget, h, h1]
      · by_cases hj : e.1 = k <;> simp [mput, mget, h, h1, hj, ih]

/-- A write leaves every other key as it is, whatever an unlisted key reads as. -/
theorem mget_mput_other (rd : α) (m : Map α) {k i : Nat} (v : α) (hi : i ≠ k) : mget rd (mput dflt m k v) i = mget rd m i := by
  have hk : ¬ k = i := fun hh => hi hh.symm
  by_cases h : v = dflt
  · subst h
    rw [mput_default]
    induction m with
    | nil => rfl
    | cons e m ih =>
      by_cases h : e.1 = k
      · simp [h, mget, ih, hk]
      · simp [h, mget, ih]
  · induction m with
    | nil => simp [mput, mget, h, hk]
    | cons e m ih =>
      by_cases h1 : k < e.1
      · simp [mput, mget, h, h1, hk]
      · by_cases hj : e.1 = k
        · simp [mput, mget, h, hj, hk]
        · simp [mput, mget, h, h1, hj, ih]

/-- A write leaves every other key as it is. -/
theorem mget_mput_ne (m : Map α) {k i : Nat} (v : α) (hi : i ≠ k) : mget dflt (mput dflt m k v) i = mget dflt m i :=
  mget_mput_other dflt dflt m v hi

/-- What a key reads as after a write. -/
theorem mget_mput (m : Map α) (k i : Nat) (v : α) :
    mget dflt (mput dflt m k v) i = if i = k then v else mget dflt m i := by
  split
  · next h => subst h; simp
  · next h => exact mget_mput_ne dflt m v h

/-- A write keeps keys rising, above any bound below both. -/
theorem rising_mput (v : α) (k : Nat) (m : Map α) (lo : Option Nat) (hb : ∀ b, lo = some b → b < k)
    (hm : rising lo m = true) : rising lo (mput dflt m k v) = true := by
  by_cases h : v = dflt
  · subst h; rw [mput_default]; exact rising_filter _ m lo hm
  · induction m generalizing lo with
    | nil => cases lo with
      | none => simp [mput, h, rising]
      | some b => simp [mput, h, rising, hb b rfl]
    | cons e m ih =>
      simp only [rising, Bool.and_eq_true] at hm
      by_cases h1 : k < e.1
      · simp only [mput, h, h1, if_true, if_false, rising, Bool.and_eq_true]
        refine ⟨?_, by simp, hm.2⟩
        cases lo with
        | none => rfl
        | some b => simp [hb b rfl]
      · by_cases hj : e.1 = k
        · subst hj; simp only [mput, h, Nat.lt_irrefl, if_true, if_false, rising, Bool.and_eq_true]; exact hm
        · simp only [mput, h, h1, hj, if_false, rising, Bool.and_eq_true]
          exact ⟨hm.1, ih (some e.1) (fun b e => by cases e; omega) hm.2⟩

/-- The entries of a map after a write. -/
theorem mem_mput (v : α) (k : Nat) (m : Map α) : ∀ x ∈ mput dflt m k v, x ∈ m ∨ (x = (k, v) ∧ v ≠ dflt) := by
  by_cases h : v = dflt
  · subst h; rw [mput_default]; intro x hx; exact .inl (List.mem_filter.mp hx).1
  · induction m with
    | nil => intro x hx; simp [mput, h] at hx; exact .inr ⟨hx, h⟩
    | cons e m ih =>
      intro x hx
      by_cases h1 : k < e.1
      · simp only [mput, h, h1, if_true, if_false, List.mem_cons] at hx
        rcases hx with hx | hx | hx
        · exact .inr ⟨hx, h⟩
        · exact .inl (by simp [hx])
        · exact .inl (by simp [hx])
      · by_cases hj : e.1 = k
        · subst hj; simp only [mput, h, Nat.lt_irrefl, if_true, if_false, List.mem_cons] at hx
          rcases hx with hx | hx
          · exact .inr ⟨hx, h⟩
          · exact .inl (by simp [hx])
        · simp only [mput, h, h1, hj, if_false, List.mem_cons] at hx
          rcases hx with hx | hx
          · exact .inl (by simp [hx])
          · exact (ih x hx).imp (fun y => by simp [y]) id

/-- A write keeps the canonical form. -/
theorem mwf_mput (m : Map α) (k : Nat) (v : α) (h : mwf dflt m = true) : mwf dflt (mput dflt m k v) = true := by
  simp only [mwf, Bool.and_eq_true, List.all_eq_true, decide_eq_true_eq] at h ⊢
  refine ⟨rising_mput dflt v k m none (by simp) h.1, fun x hx => ?_⟩
  rcases mem_mput dflt v k m x hx with hx | ⟨rfl, hv⟩
  · exact h.2 x hx
  · exact hv

/-! ## Memory -/

/-- Writing one byte keeps the canonical form. -/
theorem setByte_wf (m : List Host.Cell) (a : Nat) (b : Byte) (h : Memory.wf m = true) : Memory.wf (setByte m a b) = true :=
  mwf_mput 0 m a b h

/-- Writing consecutive bytes keeps the canonical form. -/
theorem setBytes_wf (bs : List Byte) : ∀ (m : List Host.Cell) (a : Nat), Memory.wf m = true → Memory.wf (setBytes m a bs) = true := by
  induction bs with
  | nil => intro m a h; exact h
  | cons b bs ih => intro m a h; exact ih _ _ (setByte_wf m a b h)

/-- A memory that loses a range keeps the canonical form. -/
theorem filter_wf (p : Host.Cell → Bool) (m : List Host.Cell) (h : Memory.wf m = true) : Memory.wf (m.filter p) = true :=
  mwf_filter 0 p m h

/-- A byte of consecutive bytes just written. -/
theorem mget_setBytes (bs : List Byte) : ∀ (m : List Host.Cell) (a x : Nat),
    mget 0 (setBytes m a bs) x = if a ≤ x ∧ x < a + bs.length then bs.getD (x - a) 0 else mget 0 m x := by
  induction bs with
  | nil => intro m a x; rw [if_neg (by simp)]; rfl
  | cons b bs ih =>
    intro m a x
    simp only [setBytes, ih, setByte, mget_mput, List.length_cons]
    by_cases h : x = a
    · subst h; rw [if_neg (by omega), if_pos rfl, if_pos (by omega)]; simp
    · by_cases h2 : a + 1 ≤ x ∧ x < a + 1 + bs.length
      · rw [if_pos h2, if_pos (by omega)]
        obtain ⟨n, hn⟩ : ∃ n, x - a = n + 1 := ⟨x - a - 1, by omega⟩
        have : x - (a + 1) = n := by omega
        simp [hn, this]
      · rw [if_neg h2, if_neg h, if_neg (by omega)]

/-- Reading back what has just been written. -/
theorem getBytes_setBytes (m : List Host.Cell) (a : Nat) (bs : List Byte) : getBytes (setBytes m a bs) a bs.length = bs := by
  apply List.ext_getElem
  · simp [getBytes]
  · intro i h1 h2
    simp only [getBytes, List.getElem_map, List.getElem_range, mget_setBytes]
    rw [if_pos (by omega)]
    simp [List.getD_eq_getElem?_getD, h2]

/-- The memory of the reset state has the canonical form. -/
theorem reset_mem_wf : Memory.wf State.reset.dev.mem = true := by decide

end Sys2Proof.Laws
end

