-- ==== Sys2Proof/Laws/State.lean ====
section
/-! SUPPORT. What each named update of the device leaves as it is: one lemma per field and update, and what a register word
reads as after a write. -/

namespace Sys2Proof.Laws

open Sys2Proof.Machine

variable (d : Dev)

@[simp] theorem ww_grade (a v : Nat) : (ww d a v).grade = d.grade := rfl
@[simp] theorem ww_staged (a v : Nat) : (ww d a v).staged = d.staged := rfl
@[simp] theorem ww_latch (a v : Nat) : (ww d a v).latch = d.latch := rfl
@[simp] theorem ww_snap (a v : Nat) : (ww d a v).snap = d.snap := rfl
@[simp] theorem ww_air (a v : Nat) : (ww d a v).air = d.air := rfl
@[simp] theorem ww_mem (a v : Nat) : (ww d a v).mem = d.mem := rfl
@[simp] theorem ww_syn (a v : Nat) : (ww d a v).syn = d.syn := rfl
@[simp] theorem ww_fab (a v : Nat) : (ww d a v).fab = d.fab := rfl
@[simp] theorem ww_tsy (a v : Nat) : (ww d a v).tsy = d.tsy := rfl
@[simp] theorem ww_qs (a v : Nat) : (ww d a v).qs = d.qs := rfl
@[simp] theorem ww_owed (a v : Nat) : (ww d a v).owed = d.owed := rfl
@[simp] theorem ww_integ (a v : Nat) : (ww d a v).integ = d.integ := rfl
@[simp] theorem ww_cores (a v : Nat) : (ww d a v).cores = d.cores := rfl
@[simp] theorem ww_dma (a v : Nat) : (ww d a v).dma = d.dma := rfl
@[simp] theorem ww_eng (a v : Nat) : (ww d a v).eng = d.eng := rfl
@[simp] theorem ww_fen (a v : Nat) : (ww d a v).fen = d.fen := rfl
@[simp] theorem ww_txs (a v : Nat) : (ww d a v).txs = d.txs := rfl
@[simp] theorem ww_yrw (a v : Nat) : (ww d a v).yrw = d.yrw := rfl
@[simp] theorem ww_mac (a v : Nat) : (ww d a v).mac = d.mac := rfl
@[simp] theorem ww_hlk (a v : Nat) : (ww d a v).hlk = d.hlk := rfl
@[simp] theorem ww_pwr (a v : Nat) : (ww d a v).pwr = d.pwr := rfl
@[simp] theorem ww_srl (a v : Nat) : (ww d a v).srl = d.srl := rfl
@[simp] theorem ww_cpn (a v : Nat) : (ww d a v).cpn = d.cpn := rfl
@[simp] theorem ww_pkg (a v : Nat) : (ww d a v).pkg = d.pkg := rfl
@[simp] theorem ww_fw (a v : Nat) : (ww d a v).fw = d.fw := rfl
@[simp] theorem ww_answer (a v : Nat) : (ww d a v).answer = d.answer := rfl
@[simp] theorem ww_freeCtr (a v : Nat) : (ww d a v).freeCtr = d.freeCtr := rfl

@[simp] theorem fset_grade (a hi lo v : Nat) : (fset d a hi lo v).grade = d.grade := rfl
@[simp] theorem fset_staged (a hi lo v : Nat) : (fset d a hi lo v).staged = d.staged := rfl
@[simp] theorem fset_latch (a hi lo v : Nat) : (fset d a hi lo v).latch = d.latch := rfl
@[simp] theorem fset_snap (a hi lo v : Nat) : (fset d a hi lo v).snap = d.snap := rfl
@[simp] theorem fset_air (a hi lo v : Nat) : (fset d a hi lo v).air = d.air := rfl
@[simp] theorem fset_mem (a hi lo v : Nat) : (fset d a hi lo v).mem = d.mem := rfl
@[simp] theorem fset_syn (a hi lo v : Nat) : (fset d a hi lo v).syn = d.syn := rfl
@[simp] theorem fset_fab (a hi lo v : Nat) : (fset d a hi lo v).fab = d.fab := rfl
@[simp] theorem fset_tsy (a hi lo v : Nat) : (fset d a hi lo v).tsy = d.tsy := rfl
@[simp] theorem fset_qs (a hi lo v : Nat) : (fset d a hi lo v).qs = d.qs := rfl
@[simp] theorem fset_owed (a hi lo v : Nat) : (fset d a hi lo v).owed = d.owed := rfl
@[simp] theorem fset_integ (a hi lo v : Nat) : (fset d a hi lo v).integ = d.integ := rfl
@[simp] theorem fset_cores (a hi lo v : Nat) : (fset d a hi lo v).cores = d.cores := rfl
@[simp] theorem fset_dma (a hi lo v : Nat) : (fset d a hi lo v).dma = d.dma := rfl
@[simp] theorem fset_eng (a hi lo v : Nat) : (fset d a hi lo v).eng = d.eng := rfl
@[simp] theorem fset_fen (a hi lo v : Nat) : (fset d a hi lo v).fen = d.fen := rfl
@[simp] theorem fset_txs (a hi lo v : Nat) : (fset d a hi lo v).txs = d.txs := rfl
@[simp] theorem fset_yrw (a hi lo v : Nat) : (fset d a hi lo v).yrw = d.yrw := rfl
@[simp] theorem fset_mac (a hi lo v : Nat) : (fset d a hi lo v).mac = d.mac := rfl
@[simp] theorem fset_hlk (a hi lo v : Nat) : (fset d a hi lo v).hlk = d.hlk := rfl
@[simp] theorem fset_pwr (a hi lo v : Nat) : (fset d a hi lo v).pwr = d.pwr := rfl
@[simp] theorem fset_srl (a hi lo v : Nat) : (fset d a hi lo v).srl = d.srl := rfl
@[simp] theorem fset_cpn (a hi lo v : Nat) : (fset d a hi lo v).cpn = d.cpn := rfl
@[simp] theorem fset_pkg (a hi lo v : Nat) : (fset d a hi lo v).pkg = d.pkg := rfl
@[simp] theorem fset_fw (a hi lo v : Nat) : (fset d a hi lo v).fw = d.fw := rfl
@[simp] theorem fset_answer (a hi lo v : Nat) : (fset d a hi lo v).answer = d.answer := rfl
@[simp] theorem fset_freeCtr (a hi lo v : Nat) : (fset d a hi lo v).freeCtr = d.freeCtr := rfl

@[simp] theorem sbit_grade (a i : Nat) : (sbit d a i).grade = d.grade := rfl
@[simp] theorem sbit_staged (a i : Nat) : (sbit d a i).staged = d.staged := rfl
@[simp] theorem sbit_latch (a i : Nat) : (sbit d a i).latch = d.latch := rfl
@[simp] theorem sbit_snap (a i : Nat) : (sbit d a i).snap = d.snap := rfl
@[simp] theorem sbit_air (a i : Nat) : (sbit d a i).air = d.air := rfl
@[simp] theorem sbit_mem (a i : Nat) : (sbit d a i).mem = d.mem := rfl
@[simp] theorem sbit_syn (a i : Nat) : (sbit d a i).syn = d.syn := rfl
@[simp] theorem sbit_fab (a i : Nat) : (sbit d a i).fab = d.fab := rfl
@[simp] theorem sbit_tsy (a i : Nat) : (sbit d a i).tsy = d.tsy := rfl
@[simp] theorem sbit_qs (a i : Nat) : (sbit d a i).qs = d.qs := rfl
@[simp] theorem sbit_owed (a i : Nat) : (sbit d a i).owed = d.owed := rfl
@[simp] theorem sbit_integ (a i : Nat) : (sbit d a i).integ = d.integ := rfl
@[simp] theorem sbit_cores (a i : Nat) : (sbit d a i).cores = d.cores := rfl
@[simp] theorem sbit_dma (a i : Nat) : (sbit d a i).dma = d.dma := rfl
@[simp] theorem sbit_eng (a i : Nat) : (sbit d a i).eng = d.eng := rfl
@[simp] theorem sbit_fen (a i : Nat) : (sbit d a i).fen = d.fen := rfl
@[simp] theorem sbit_txs (a i : Nat) : (sbit d a i).txs = d.txs := rfl
@[simp] theorem sbit_yrw (a i : Nat) : (sbit d a i).yrw = d.yrw := rfl
@[simp] theorem sbit_mac (a i : Nat) : (sbit d a i).mac = d.mac := rfl
@[simp] theorem sbit_hlk (a i : Nat) : (sbit d a i).hlk = d.hlk := rfl
@[simp] theorem sbit_pwr (a i : Nat) : (sbit d a i).pwr = d.pwr := rfl
@[simp] theorem sbit_srl (a i : Nat) : (sbit d a i).srl = d.srl := rfl
@[simp] theorem sbit_cpn (a i : Nat) : (sbit d a i).cpn = d.cpn := rfl
@[simp] theorem sbit_pkg (a i : Nat) : (sbit d a i).pkg = d.pkg := rfl
@[simp] theorem sbit_fw (a i : Nat) : (sbit d a i).fw = d.fw := rfl
@[simp] theorem sbit_answer (a i : Nat) : (sbit d a i).answer = d.answer := rfl
@[simp] theorem sbit_freeCtr (a i : Nat) : (sbit d a i).freeCtr = d.freeCtr := rfl

@[simp] theorem cbit_grade (a i : Nat) : (cbit d a i).grade = d.grade := rfl
@[simp] theorem cbit_staged (a i : Nat) : (cbit d a i).staged = d.staged := rfl
@[simp] theorem cbit_latch (a i : Nat) : (cbit d a i).latch = d.latch := rfl
@[simp] theorem cbit_snap (a i : Nat) : (cbit d a i).snap = d.snap := rfl
@[simp] theorem cbit_air (a i : Nat) : (cbit d a i).air = d.air := rfl
@[simp] theorem cbit_mem (a i : Nat) : (cbit d a i).mem = d.mem := rfl
@[simp] theorem cbit_syn (a i : Nat) : (cbit d a i).syn = d.syn := rfl
@[simp] theorem cbit_fab (a i : Nat) : (cbit d a i).fab = d.fab := rfl
@[simp] theorem cbit_tsy (a i : Nat) : (cbit d a i).tsy = d.tsy := rfl
@[simp] theorem cbit_qs (a i : Nat) : (cbit d a i).qs = d.qs := rfl
@[simp] theorem cbit_owed (a i : Nat) : (cbit d a i).owed = d.owed := rfl
@[simp] theorem cbit_integ (a i : Nat) : (cbit d a i).integ = d.integ := rfl
@[simp] theorem cbit_cores (a i : Nat) : (cbit d a i).cores = d.cores := rfl
@[simp] theorem cbit_dma (a i : Nat) : (cbit d a i).dma = d.dma := rfl
@[simp] theorem cbit_eng (a i : Nat) : (cbit d a i).eng = d.eng := rfl
@[simp] theorem cbit_fen (a i : Nat) : (cbit d a i).fen = d.fen := rfl
@[simp] theorem cbit_txs (a i : Nat) : (cbit d a i).txs = d.txs := rfl
@[simp] theorem cbit_yrw (a i : Nat) : (cbit d a i).yrw = d.yrw := rfl
@[simp] theorem cbit_mac (a i : Nat) : (cbit d a i).mac = d.mac := rfl
@[simp] theorem cbit_hlk (a i : Nat) : (cbit d a i).hlk = d.hlk := rfl
@[simp] theorem cbit_pwr (a i : Nat) : (cbit d a i).pwr = d.pwr := rfl
@[simp] theorem cbit_srl (a i : Nat) : (cbit d a i).srl = d.srl := rfl
@[simp] theorem cbit_cpn (a i : Nat) : (cbit d a i).cpn = d.cpn := rfl
@[simp] theorem cbit_pkg (a i : Nat) : (cbit d a i).pkg = d.pkg := rfl
@[simp] theorem cbit_fw (a i : Nat) : (cbit d a i).fw = d.fw := rfl
@[simp] theorem cbit_answer (a i : Nat) : (cbit d a i).answer = d.answer := rfl
@[simp] theorem cbit_freeCtr (a i : Nat) : (cbit d a i).freeCtr = d.freeCtr := rfl

@[simp] theorem wr64_grade (a v : Nat) : (wr64 d a v).grade = d.grade := rfl
@[simp] theorem wr64_staged (a v : Nat) : (wr64 d a v).staged = d.staged := rfl
@[simp] theorem wr64_latch (a v : Nat) : (wr64 d a v).latch = d.latch := rfl
@[simp] theorem wr64_snap (a v : Nat) : (wr64 d a v).snap = d.snap := rfl
@[simp] theorem wr64_air (a v : Nat) : (wr64 d a v).air = d.air := rfl
@[simp] theorem wr64_mem (a v : Nat) : (wr64 d a v).mem = d.mem := rfl
@[simp] theorem wr64_syn (a v : Nat) : (wr64 d a v).syn = d.syn := rfl
@[simp] theorem wr64_fab (a v : Nat) : (wr64 d a v).fab = d.fab := rfl
@[simp] theorem wr64_tsy (a v : Nat) : (wr64 d a v).tsy = d.tsy := rfl
@[simp] theorem wr64_qs (a v : Nat) : (wr64 d a v).qs = d.qs := rfl
@[simp] theorem wr64_owed (a v : Nat) : (wr64 d a v).owed = d.owed := rfl
@[simp] theorem wr64_integ (a v : Nat) : (wr64 d a v).integ = d.integ := rfl
@[simp] theorem wr64_cores (a v : Nat) : (wr64 d a v).cores = d.cores := rfl
@[simp] theorem wr64_dma (a v : Nat) : (wr64 d a v).dma = d.dma := rfl
@[simp] theorem wr64_eng (a v : Nat) : (wr64 d a v).eng = d.eng := rfl
@[simp] theorem wr64_fen (a v : Nat) : (wr64 d a v).fen = d.fen := rfl
@[simp] theorem wr64_txs (a v : Nat) : (wr64 d a v).txs = d.txs := rfl
@[simp] theorem wr64_yrw (a v : Nat) : (wr64 d a v).yrw = d.yrw := rfl
@[simp] theorem wr64_mac (a v : Nat) : (wr64 d a v).mac = d.mac := rfl
@[simp] theorem wr64_hlk (a v : Nat) : (wr64 d a v).hlk = d.hlk := rfl
@[simp] theorem wr64_pwr (a v : Nat) : (wr64 d a v).pwr = d.pwr := rfl
@[simp] theorem wr64_srl (a v : Nat) : (wr64 d a v).srl = d.srl := rfl
@[simp] theorem wr64_cpn (a v : Nat) : (wr64 d a v).cpn = d.cpn := rfl
@[simp] theorem wr64_pkg (a v : Nat) : (wr64 d a v).pkg = d.pkg := rfl
@[simp] theorem wr64_fw (a v : Nat) : (wr64 d a v).fw = d.fw := rfl
@[simp] theorem wr64_answer (a v : Nat) : (wr64 d a v).answer = d.answer := rfl
@[simp] theorem wr64_freeCtr (a v : Nat) : (wr64 d a v).freeCtr = d.freeCtr := rfl

@[simp] theorem cnt_grade (a n : Nat) : (cnt d a n).grade = d.grade := rfl
@[simp] theorem cnt_staged (a n : Nat) : (cnt d a n).staged = d.staged := rfl
@[simp] theorem cnt_latch (a n : Nat) : (cnt d a n).latch = d.latch := rfl
@[simp] theorem cnt_snap (a n : Nat) : (cnt d a n).snap = d.snap := rfl
@[simp] theorem cnt_air (a n : Nat) : (cnt d a n).air = d.air := rfl
@[simp] theorem cnt_mem (a n : Nat) : (cnt d a n).mem = d.mem := rfl
@[simp] theorem cnt_syn (a n : Nat) : (cnt d a n).syn = d.syn := rfl
@[simp] theorem cnt_fab (a n : Nat) : (cnt d a n).fab = d.fab := rfl
@[simp] theorem cnt_tsy (a n : Nat) : (cnt d a n).tsy = d.tsy := rfl
@[simp] theorem cnt_qs (a n : Nat) : (cnt d a n).qs = d.qs := rfl
@[simp] theorem cnt_owed (a n : Nat) : (cnt d a n).owed = d.owed := rfl
@[simp] theorem cnt_integ (a n : Nat) : (cnt d a n).integ = d.integ := rfl
@[simp] theorem cnt_cores (a n : Nat) : (cnt d a n).cores = d.cores := rfl
@[simp] theorem cnt_dma (a n : Nat) : (cnt d a n).dma = d.dma := rfl
@[simp] theorem cnt_eng (a n : Nat) : (cnt d a n).eng = d.eng := rfl
@[simp] theorem cnt_fen (a n : Nat) : (cnt d a n).fen = d.fen := rfl
@[simp] theorem cnt_txs (a n : Nat) : (cnt d a n).txs = d.txs := rfl
@[simp] theorem cnt_yrw (a n : Nat) : (cnt d a n).yrw = d.yrw := rfl
@[simp] theorem cnt_mac (a n : Nat) : (cnt d a n).mac = d.mac := rfl
@[simp] theorem cnt_hlk (a n : Nat) : (cnt d a n).hlk = d.hlk := rfl
@[simp] theorem cnt_pwr (a n : Nat) : (cnt d a n).pwr = d.pwr := rfl
@[simp] theorem cnt_srl (a n : Nat) : (cnt d a n).srl = d.srl := rfl
@[simp] theorem cnt_cpn (a n : Nat) : (cnt d a n).cpn = d.cpn := rfl
@[simp] theorem cnt_pkg (a n : Nat) : (cnt d a n).pkg = d.pkg := rfl
@[simp] theorem cnt_fw (a n : Nat) : (cnt d a n).fw = d.fw := rfl
@[simp] theorem cnt_answer (a n : Nat) : (cnt d a n).answer = d.answer := rfl
@[simp] theorem cnt_freeCtr (a n : Nat) : (cnt d a n).freeCtr = d.freeCtr := rfl

@[simp] theorem setCore_grade (c : Nat) (x : Core) : (setCore d c x).grade = d.grade := rfl
@[simp] theorem setCore_regs (c : Nat) (x : Core) : (setCore d c x).regs = d.regs := rfl
@[simp] theorem setCore_staged (c : Nat) (x : Core) : (setCore d c x).staged = d.staged := rfl
@[simp] theorem setCore_latch (c : Nat) (x : Core) : (setCore d c x).latch = d.latch := rfl
@[simp] theorem setCore_snap (c : Nat) (x : Core) : (setCore d c x).snap = d.snap := rfl
@[simp] theorem setCore_air (c : Nat) (x : Core) : (setCore d c x).air = d.air := rfl
@[simp] theorem setCore_mem (c : Nat) (x : Core) : (setCore d c x).mem = d.mem := rfl
@[simp] theorem setCore_syn (c : Nat) (x : Core) : (setCore d c x).syn = d.syn := rfl
@[simp] theorem setCore_fab (c : Nat) (x : Core) : (setCore d c x).fab = d.fab := rfl
@[simp] theorem setCore_tsy (c : Nat) (x : Core) : (setCore d c x).tsy = d.tsy := rfl
@[simp] theorem setCore_qs (c : Nat) (x : Core) : (setCore d c x).qs = d.qs := rfl
@[simp] theorem setCore_owed (c : Nat) (x : Core) : (setCore d c x).owed = d.owed := rfl
@[simp] theorem setCore_integ (c : Nat) (x : Core) : (setCore d c x).integ = d.integ := rfl
@[simp] theorem setCore_dma (c : Nat) (x : Core) : (setCore d c x).dma = d.dma := rfl
@[simp] theorem setCore_eng (c : Nat) (x : Core) : (setCore d c x).eng = d.eng := rfl
@[simp] theorem setCore_fen (c : Nat) (x : Core) : (setCore d c x).fen = d.fen := rfl
@[simp] theorem setCore_txs (c : Nat) (x : Core) : (setCore d c x).txs = d.txs := rfl
@[simp] theorem setCore_yrw (c : Nat) (x : Core) : (setCore d c x).yrw = d.yrw := rfl
@[simp] theorem setCore_mac (c : Nat) (x : Core) : (setCore d c x).mac = d.mac := rfl
@[simp] theorem setCore_hlk (c : Nat) (x : Core) : (setCore d c x).hlk = d.hlk := rfl
@[simp] theorem setCore_pwr (c : Nat) (x : Core) : (setCore d c x).pwr = d.pwr := rfl
@[simp] theorem setCore_srl (c : Nat) (x : Core) : (setCore d c x).srl = d.srl := rfl
@[simp] theorem setCore_cpn (c : Nat) (x : Core) : (setCore d c x).cpn = d.cpn := rfl
@[simp] theorem setCore_pkg (c : Nat) (x : Core) : (setCore d c x).pkg = d.pkg := rfl
@[simp] theorem setCore_fw (c : Nat) (x : Core) : (setCore d c x).fw = d.fw := rfl
@[simp] theorem setCore_answer (c : Nat) (x : Core) : (setCore d c x).answer = d.answer := rfl
@[simp] theorem setCore_freeCtr (c : Nat) (x : Core) : (setCore d c x).freeCtr = d.freeCtr := rfl

@[simp] theorem setQ_grade (q : Nat) (x : Queue) : (setQ d q x).grade = d.grade := rfl
@[simp] theorem setQ_regs (q : Nat) (x : Queue) : (setQ d q x).regs = d.regs := rfl
@[simp] theorem setQ_staged (q : Nat) (x : Queue) : (setQ d q x).staged = d.staged := rfl
@[simp] theorem setQ_latch (q : Nat) (x : Queue) : (setQ d q x).latch = d.latch := rfl
@[simp] theorem setQ_snap (q : Nat) (x : Queue) : (setQ d q x).snap = d.snap := rfl
@[simp] theorem setQ_air (q : Nat) (x : Queue) : (setQ d q x).air = d.air := rfl
@[simp] theorem setQ_mem (q : Nat) (x : Queue) : (setQ d q x).mem = d.mem := rfl
@[simp] theorem setQ_syn (q : Nat) (x : Queue) : (setQ d q x).syn = d.syn := rfl
@[simp] theorem setQ_fab (q : Nat) (x : Queue) : (setQ d q x).fab = d.fab := rfl
@[simp] theorem setQ_tsy (q : Nat) (x : Queue) : (setQ d q x).tsy = d.tsy := rfl
@[simp] theorem setQ_owed (q : Nat) (x : Queue) : (setQ d q x).owed = d.owed := rfl
@[simp] theorem setQ_integ (q : Nat) (x : Queue) : (setQ d q x).integ = d.integ := rfl
@[simp] theorem setQ_cores (q : Nat) (x : Queue) : (setQ d q x).cores = d.cores := rfl
@[simp] theorem setQ_dma (q : Nat) (x : Queue) : (setQ d q x).dma = d.dma := rfl
@[simp] theorem setQ_eng (q : Nat) (x : Queue) : (setQ d q x).eng = d.eng := rfl
@[simp] theorem setQ_fen (q : Nat) (x : Queue) : (setQ d q x).fen = d.fen := rfl
@[simp] theorem setQ_txs (q : Nat) (x : Queue) : (setQ d q x).txs = d.txs := rfl
@[simp] theorem setQ_yrw (q : Nat) (x : Queue) : (setQ d q x).yrw = d.yrw := rfl
@[simp] theorem setQ_mac (q : Nat) (x : Queue) : (setQ d q x).mac = d.mac := rfl
@[simp] theorem setQ_hlk (q : Nat) (x : Queue) : (setQ d q x).hlk = d.hlk := rfl
@[simp] theorem setQ_pwr (q : Nat) (x : Queue) : (setQ d q x).pwr = d.pwr := rfl
@[simp] theorem setQ_srl (q : Nat) (x : Queue) : (setQ d q x).srl = d.srl := rfl
@[simp] theorem setQ_cpn (q : Nat) (x : Queue) : (setQ d q x).cpn = d.cpn := rfl
@[simp] theorem setQ_pkg (q : Nat) (x : Queue) : (setQ d q x).pkg = d.pkg := rfl
@[simp] theorem setQ_fw (q : Nat) (x : Queue) : (setQ d q x).fw = d.fw := rfl
@[simp] theorem setQ_answer (q : Nat) (x : Queue) : (setQ d q x).answer = d.answer := rfl
@[simp] theorem setQ_freeCtr (q : Nat) (x : Queue) : (setQ d q x).freeCtr = d.freeCtr := rfl

@[simp] theorem setDma_grade (c : Nat) (x : Dma) : (setDma d c x).grade = d.grade := rfl
@[simp] theorem setDma_regs (c : Nat) (x : Dma) : (setDma d c x).regs = d.regs := rfl
@[simp] theorem setDma_staged (c : Nat) (x : Dma) : (setDma d c x).staged = d.staged := rfl
@[simp] theorem setDma_latch (c : Nat) (x : Dma) : (setDma d c x).latch = d.latch := rfl
@[simp] theorem setDma_snap (c : Nat) (x : Dma) : (setDma d c x).snap = d.snap := rfl
@[simp] theorem setDma_air (c : Nat) (x : Dma) : (setDma d c x).air = d.air := rfl
@[simp] theorem setDma_mem (c : Nat) (x : Dma) : (setDma d c x).mem = d.mem := rfl
@[simp] theorem setDma_syn (c : Nat) (x : Dma) : (setDma d c x).syn = d.syn := rfl
@[simp] theorem setDma_fab (c : Nat) (x : Dma) : (setDma d c x).fab = d.fab := rfl
@[simp] theorem setDma_tsy (c : Nat) (x : Dma) : (setDma d c x).tsy = d.tsy := rfl
@[simp] theorem setDma_qs (c : Nat) (x : Dma) : (setDma d c x).qs = d.qs := rfl
@[simp] theorem setDma_owed (c : Nat) (x : Dma) : (setDma d c x).owed = d.owed := rfl
@[simp] theorem setDma_integ (c : Nat) (x : Dma) : (setDma d c x).integ = d.integ := rfl
@[simp] theorem setDma_cores (c : Nat) (x : Dma) : (setDma d c x).cores = d.cores := rfl
@[simp] theorem setDma_eng (c : Nat) (x : Dma) : (setDma d c x).eng = d.eng := rfl
@[simp] theorem setDma_fen (c : Nat) (x : Dma) : (setDma d c x).fen = d.fen := rfl
@[simp] theorem setDma_txs (c : Nat) (x : Dma) : (setDma d c x).txs = d.txs := rfl
@[simp] theorem setDma_yrw (c : Nat) (x : Dma) : (setDma d c x).yrw = d.yrw := rfl
@[simp] theorem setDma_mac (c : Nat) (x : Dma) : (setDma d c x).mac = d.mac := rfl
@[simp] theorem setDma_hlk (c : Nat) (x : Dma) : (setDma d c x).hlk = d.hlk := rfl
@[simp] theorem setDma_pwr (c : Nat) (x : Dma) : (setDma d c x).pwr = d.pwr := rfl
@[simp] theorem setDma_srl (c : Nat) (x : Dma) : (setDma d c x).srl = d.srl := rfl
@[simp] theorem setDma_cpn (c : Nat) (x : Dma) : (setDma d c x).cpn = d.cpn := rfl
@[simp] theorem setDma_pkg (c : Nat) (x : Dma) : (setDma d c x).pkg = d.pkg := rfl
@[simp] theorem setDma_fw (c : Nat) (x : Dma) : (setDma d c x).fw = d.fw := rfl
@[simp] theorem setDma_answer (c : Nat) (x : Dma) : (setDma d c x).answer = d.answer := rfl
@[simp] theorem setDma_freeCtr (c : Nat) (x : Dma) : (setDma d c x).freeCtr = d.freeCtr := rfl

@[simp] theorem setSyn_grade (la x : Nat) : (setSyn d la x).grade = d.grade := rfl
@[simp] theorem setSyn_regs (la x : Nat) : (setSyn d la x).regs = d.regs := rfl
@[simp] theorem setSyn_staged (la x : Nat) : (setSyn d la x).staged = d.staged := rfl
@[simp] theorem setSyn_latch (la x : Nat) : (setSyn d la x).latch = d.latch := rfl
@[simp] theorem setSyn_snap (la x : Nat) : (setSyn d la x).snap = d.snap := rfl
@[simp] theorem setSyn_air (la x : Nat) : (setSyn d la x).air = d.air := rfl
@[simp] theorem setSyn_mem (la x : Nat) : (setSyn d la x).mem = d.mem := rfl
@[simp] theorem setSyn_fab (la x : Nat) : (setSyn d la x).fab = d.fab := rfl
@[simp] theorem setSyn_tsy (la x : Nat) : (setSyn d la x).tsy = d.tsy := rfl
@[simp] theorem setSyn_qs (la x : Nat) : (setSyn d la x).qs = d.qs := rfl
@[simp] theorem setSyn_owed (la x : Nat) : (setSyn d la x).owed = d.owed := rfl
@[simp] theorem setSyn_integ (la x : Nat) : (setSyn d la x).integ = d.integ := rfl
@[simp] theorem setSyn_cores (la x : Nat) : (setSyn d la x).cores = d.cores := rfl
@[simp] theorem setSyn_dma (la x : Nat) : (setSyn d la x).dma = d.dma := rfl
@[simp] theorem setSyn_eng (la x : Nat) : (setSyn d la x).eng = d.eng := rfl
@[simp] theorem setSyn_fen (la x : Nat) : (setSyn d la x).fen = d.fen := rfl
@[simp] theorem setSyn_txs (la x : Nat) : (setSyn d la x).txs = d.txs := rfl
@[simp] theorem setSyn_yrw (la x : Nat) : (setSyn d la x).yrw = d.yrw := rfl
@[simp] theorem setSyn_mac (la x : Nat) : (setSyn d la x).mac = d.mac := rfl
@[simp] theorem setSyn_hlk (la x : Nat) : (setSyn d la x).hlk = d.hlk := rfl
@[simp] theorem setSyn_pwr (la x : Nat) : (setSyn d la x).pwr = d.pwr := rfl
@[simp] theorem setSyn_srl (la x : Nat) : (setSyn d la x).srl = d.srl := rfl
@[simp] theorem setSyn_cpn (la x : Nat) : (setSyn d la x).cpn = d.cpn := rfl
@[simp] theorem setSyn_pkg (la x : Nat) : (setSyn d la x).pkg = d.pkg := rfl
@[simp] theorem setSyn_fw (la x : Nat) : (setSyn d la x).fw = d.fw := rfl
@[simp] theorem setSyn_answer (la x : Nat) : (setSyn d la x).answer = d.answer := rfl
@[simp] theorem setSyn_freeCtr (la x : Nat) : (setSyn d la x).freeCtr = d.freeCtr := rfl

@[simp] theorem poison_grade (la : Nat) : (poison d la).grade = d.grade := rfl
@[simp] theorem poison_regs (la : Nat) : (poison d la).regs = d.regs := rfl
@[simp] theorem poison_staged (la : Nat) : (poison d la).staged = d.staged := rfl
@[simp] theorem poison_latch (la : Nat) : (poison d la).latch = d.latch := rfl
@[simp] theorem poison_snap (la : Nat) : (poison d la).snap = d.snap := rfl
@[simp] theorem poison_air (la : Nat) : (poison d la).air = d.air := rfl
@[simp] theorem poison_mem (la : Nat) : (poison d la).mem = d.mem := rfl
@[simp] theorem poison_fab (la : Nat) : (poison d la).fab = d.fab := rfl
@[simp] theorem poison_tsy (la : Nat) : (poison d la).tsy = d.tsy := rfl
@[simp] theorem poison_qs (la : Nat) : (poison d la).qs = d.qs := rfl
@[simp] theorem poison_owed (la : Nat) : (poison d la).owed = d.owed := rfl
@[simp] theorem poison_integ (la : Nat) : (poison d la).integ = d.integ := rfl
@[simp] theorem poison_cores (la : Nat) : (poison d la).cores = d.cores := rfl
@[simp] theorem poison_dma (la : Nat) : (poison d la).dma = d.dma := rfl
@[simp] theorem poison_eng (la : Nat) : (poison d la).eng = d.eng := rfl
@[simp] theorem poison_fen (la : Nat) : (poison d la).fen = d.fen := rfl
@[simp] theorem poison_txs (la : Nat) : (poison d la).txs = d.txs := rfl
@[simp] theorem poison_yrw (la : Nat) : (poison d la).yrw = d.yrw := rfl
@[simp] theorem poison_mac (la : Nat) : (poison d la).mac = d.mac := rfl
@[simp] theorem poison_hlk (la : Nat) : (poison d la).hlk = d.hlk := rfl
@[simp] theorem poison_pwr (la : Nat) : (poison d la).pwr = d.pwr := rfl
@[simp] theorem poison_srl (la : Nat) : (poison d la).srl = d.srl := rfl
@[simp] theorem poison_cpn (la : Nat) : (poison d la).cpn = d.cpn := rfl
@[simp] theorem poison_pkg (la : Nat) : (poison d la).pkg = d.pkg := rfl
@[simp] theorem poison_fw (la : Nat) : (poison d la).fw = d.fw := rfl
@[simp] theorem poison_answer (la : Nat) : (poison d la).answer = d.answer := rfl
@[simp] theorem poison_freeCtr (la : Nat) : (poison d la).freeCtr = d.freeCtr := rfl

@[simp] theorem used_grade : (used d).grade = d.grade := rfl
@[simp] theorem used_regs : (used d).regs = d.regs := rfl
@[simp] theorem used_staged : (used d).staged = d.staged := rfl
@[simp] theorem used_latch : (used d).latch = d.latch := rfl
@[simp] theorem used_snap : (used d).snap = d.snap := rfl
@[simp] theorem used_air : (used d).air = d.air := rfl
@[simp] theorem used_mem : (used d).mem = d.mem := rfl
@[simp] theorem used_syn : (used d).syn = d.syn := rfl
@[simp] theorem used_fab : (used d).fab = d.fab := rfl
@[simp] theorem used_tsy : (used d).tsy = d.tsy := rfl
@[simp] theorem used_qs : (used d).qs = d.qs := rfl
@[simp] theorem used_owed : (used d).owed = d.owed := rfl
@[simp] theorem used_integ : (used d).integ = d.integ := rfl
@[simp] theorem used_cores : (used d).cores = d.cores := rfl
@[simp] theorem used_dma : (used d).dma = d.dma := rfl
@[simp] theorem used_eng : (used d).eng = d.eng := rfl
@[simp] theorem used_fen : (used d).fen = d.fen := rfl
@[simp] theorem used_txs : (used d).txs = d.txs := rfl
@[simp] theorem used_yrw : (used d).yrw = d.yrw := rfl
@[simp] theorem used_mac : (used d).mac = d.mac := rfl
@[simp] theorem used_hlk : (used d).hlk = d.hlk := rfl
@[simp] theorem used_pwr : (used d).pwr = d.pwr := rfl
@[simp] theorem used_srl : (used d).srl = d.srl := rfl
@[simp] theorem used_cpn : (used d).cpn = d.cpn := rfl
@[simp] theorem used_pkg : (used d).pkg = d.pkg := rfl
@[simp] theorem used_fw : (used d).fw = d.fw := rfl
@[simp] theorem used_answer : (used d).answer = d.answer := rfl

/-! ## Words -/

theorem word_toNat (n : Nat) : (word n).toNat = n % 2 ^ 32 := BitVec.toNat_ofNat ..

/-- A word just written reads as the value modulo 2^32. -/
@[simp] theorem rw_ww_same (a v : Nat) : rw (ww d a v) a = v % 2 ^ 32 := by simp [rw, ww, word_toNat]

/-- Writing a word leaves every other word. -/
theorem rw_ww_ne {a b : Nat} (v : Nat) (h : b ≠ a) : rw (ww d a v) b = rw d b := by
  simp [rw, ww, mget_mput_other _ _ _ _ h]

/-! ## Cores, queues and DMA channels -/

@[simp] theorem coreOf_setCore (c : Nat) (x : Core) : coreOf (setCore d c x) c = x := by simp [coreOf, setCore]
theorem coreOf_setCore_ne {c k : Nat} (x : Core) (h : k ≠ c) : coreOf (setCore d c x) k = coreOf d k := by
  simp [coreOf, setCore, mget_mput_ne _ _ _ h]
@[simp] theorem qOf_setQ (q : Nat) (x : Queue) : qOf (setQ d q x) q = x := by simp [qOf, setQ]
theorem qOf_setQ_ne {q k : Nat} (x : Queue) (h : k ≠ q) : qOf (setQ d q x) k = qOf d k := by
  simp [qOf, setQ, mget_mput_ne _ _ _ h]
@[simp] theorem dmaOf_setDma (c : Nat) (x : Dma) : dmaOf (setDma d c x) c = x := by simp [dmaOf, setDma]

end Sys2Proof.Laws
end

