-- ==== Sys2Proof/Laws/Fields.lean ====
section
/-! SUPPORT. Bit fields of numbers and of control registers: what a field reads as after a write, and that other fields stay. -/

namespace Sys2Proof.Laws

open Sys2Proof.Machine

/-- Every bit of a number after a field write. -/
theorem testBit_setBits (x hi lo v i : Nat) (h : lo ≤ hi) :
    (setBits x hi lo v).testBit i = if lo ≤ i ∧ i ≤ hi then v.testBit (i - lo) else x.testBit i := by
  have e : setBits x hi lo v = 2 ^ lo * (2 ^ (hi + 1 - lo) * (x / 2 ^ (hi + 1)) + v % 2 ^ (hi + 1 - lo)) + x % 2 ^ lo := by
    have : 2 ^ (hi + 1) = 2 ^ lo * 2 ^ (hi + 1 - lo) := by rw [← Nat.pow_add]; congr 1; omega
    simp only [setBits, this, Nat.mul_add]; ac_rfl
  rw [e, Nat.testBit_two_pow_mul_add _ (Nat.mod_lt _ (Nat.two_pow_pos _))]
  split
  · next h1 => rw [if_neg (by omega), Nat.testBit_mod_two_pow]; simp [h1]
  · next h1 =>
    rw [Nat.testBit_two_pow_mul_add _ (Nat.mod_lt _ (Nat.two_pow_pos _))]
    split
    · next h2 => rw [if_pos (by omega), Nat.testBit_mod_two_pow]; simp [h2]
    · next h2 => rw [if_neg (by omega), Nat.testBit_div_two_pow]; congr 1; omega

/-- Every bit of a field. -/
theorem testBit_bits (x hi lo i : Nat) (h : lo ≤ hi) : (bits x hi lo).testBit i = (decide (i ≤ hi - lo) && x.testBit (i + lo)) := by
  rw [bits, Nat.testBit_mod_two_pow, Nat.testBit_div_two_pow]
  congr 1
  · rw [decide_eq_decide]; omega

/-- A field just written. -/
@[simp] theorem bits_setBits_same (x hi lo v : Nat) (h : lo ≤ hi) : bits (setBits x hi lo v) hi lo = v % 2 ^ (hi + 1 - lo) := by
  apply Nat.eq_of_testBit_eq; intro i
  rw [testBit_bits _ _ _ _ h, testBit_setBits _ _ _ _ _ h, Nat.testBit_mod_two_pow]
  by_cases hi' : i ≤ hi - lo
  · rw [if_pos (by omega)]; simp [hi', show i < hi + 1 - lo by omega]
  · simp [hi', show ¬ i < hi + 1 - lo by omega]

/-- A field apart from the one written. -/
theorem bits_setBits_other (x hi lo v hi' lo' : Nat) (h : lo ≤ hi) (h' : lo' ≤ hi') (hd : hi' < lo ∨ hi < lo') :
    bits (setBits x hi lo v) hi' lo' = bits x hi' lo' := by
  apply Nat.eq_of_testBit_eq; intro i
  rw [testBit_bits _ _ _ _ h', testBit_bits _ _ _ _ h', testBit_setBits _ _ _ _ _ h]
  by_cases hi2 : i ≤ hi' - lo'
  · rw [if_neg (by omega)]
  · simp [hi2]

/-- A field of a word modulo 2^32. -/
theorem bits_mod32 (x hi lo : Nat) (h : lo ≤ hi) (h32 : hi < 32) : bits (x % 2 ^ 32) hi lo = bits x hi lo := by
  apply Nat.eq_of_testBit_eq; intro i
  rw [testBit_bits _ _ _ _ h, testBit_bits _ _ _ _ h, Nat.testBit_mod_two_pow]
  by_cases hi2 : i ≤ hi - lo
  · simp [show i + lo < 32 by omega]
  · simp [hi2]

variable (d : Dev)

/-- A register field just written. -/
theorem fget_fset_same (a hi lo v : Nat) (h : lo ≤ hi) (h32 : hi < 32) : fget (fset d a hi lo v) a hi lo = v % 2 ^ (hi + 1 - lo) := by
  unfold fget fset
  rw [rw_ww_same, bits_mod32 _ _ _ h h32, bits_setBits_same _ _ _ _ h]

/-- A register field apart from the one written. -/
theorem fget_fset_other (a hi lo v hi' lo' : Nat) (h : lo ≤ hi) (h' : lo' ≤ hi') (h32 : hi' < 32) (hd : hi' < lo ∨ hi < lo') :
    fget (fset d a hi lo v) a hi' lo' = fget d a hi' lo' := by
  unfold fget fset
  rw [rw_ww_same, bits_mod32 _ _ _ h' h32, bits_setBits_other _ _ _ _ _ _ h h' hd]

/-- A field of another register. -/
theorem fget_fset_ne (a b hi lo v hi' lo' : Nat) (h : b ≠ a) : fget (fset d a hi lo v) b hi' lo' = fget d b hi' lo' := by
  simp [fget, fset, rw_ww_ne _ _ h]

/-- A bit just set. -/
theorem rbit_sbit_same (a i : Nat) (h : i < 32) : rbit (sbit d a i) a i = true := by
  simp only [rbit, sbit, fset, rw_ww_same, Nat.testBit_mod_two_pow, testBit_setBits _ _ _ _ _ (Nat.le_refl i)]
  simp [h]

/-- A bit just cleared. -/
theorem rbit_cbit_same (a i : Nat) : rbit (cbit d a i) a i = false := by
  simp only [rbit, cbit, fset, rw_ww_same, Nat.testBit_mod_two_pow, testBit_setBits _ _ _ _ _ (Nat.le_refl i)]
  simp

/-- A 64-bit value just written. -/
theorem rd64_wr64_same (a v : Nat) : rd64 (wr64 d a v) a = v % 2 ^ 64 := by
  simp only [rd64, wr64, rw_ww_same]
  rw [rw_ww_ne _ _ (by omega : a ≠ a + 4), rw_ww_same]
  omega

/-- A 64-bit counter after an addition. -/
theorem rd64_cnt_same (a n : Nat) : rd64 (cnt d a n) a = (rd64 d a + n) % 2 ^ 64 := by
  rw [cnt, rd64_wr64_same, Nat.mod_mod]

end Sys2Proof.Laws
end

