-- ==== Sys2Proof/Laws/Issue.lean ====
section
/-! SUPPORT. What issuing an instruction does, once for every slot: it joins its bundle with its effect. -/

namespace Sys2Proof.Laws
open Sys2Proof.Machine Sys2Proof.Safety

/-- `took` with its next address moved on is what a joining instruction leaves in the bundle. -/
theorem joinBundle_joined (i : Iss) (slot : Nat) (op : Ctx → Op) (d : Dev) (x : Core) (bun : Bundle)
    (hs : (op (ctxOf i d x bun)).stall = false)
    (hr : ∀ r ∈ (op (ctxOf i d x bun)).reads ++ (op (ctxOf i d x bun)).dests ++ [cP i.pg.toNat],
        awaiting x (levelOf d i.core) (phys (ctxOf i d x bun).rrb r) = false)
    (hsl : slot ∉ bun.slots) (hd : ∀ r ∈ (op (ctxOf i d x bun)).dests, r ∉ bun.dests)
    (hc : (op (ctxOf i d x bun)).ct = true → x.dly = 0)
    (hn : ∀ u, ((op (ctxOf i d x bun)).eff u).next = u.next) (hro : i.eob = true ∨ (bun.next + 4) % 16 ≠ 0) :
    joinBundle d i slot x bun op = joined i d x
      (if guardOf (ctxOf i d x bun) i then
         if (op (ctxOf i d x bun)).legal then
           (op (ctxOf i d x bun)).eff (took bun slot (op (ctxOf i d x bun)).dests (op (ctxOf i d x bun)).ct (op (ctxOf i d x bun)).mem)
         else (took bun slot (op (ctxOf i d x bun)).dests (op (ctxOf i d x bun)).ct (op (ctxOf i d x bun)).mem).fail 1 slot
       else took bun slot (op (ctxOf i d x bun)).dests (op (ctxOf i d x bun)).ct (op (ctxOf i d x bun)).mem) := by
  have key : ∀ (k : Ctx) (o : Op), k = ctxOf i d x bun → o = op k →
      joinBundle d i slot x bun op = joined i d x
        (if guardOf k i then if o.legal then o.eff (took bun slot o.dests o.ct o.mem) else (took bun slot o.dests o.ct o.mem).fail 1 slot
         else took bun slot o.dests o.ct o.mem) := by
    intro k o hk ho
    have hop : op (ctxOf i d x bun) = o := by rw [ho, hk]
    rw [hop] at hs hr hd hc hn
    have hst : (o.stall || ((o.reads.map (phys k.rrb)) ++ (o.dests.map (phys k.rrb)) ++ [phys k.rrb (cP i.pg.toNat)]).any
        (awaiting x (levelOf d i.core))) = false := by
      rw [hs, Bool.false_or, List.any_eq_false]
      intro r hr'
      have : ∃ q ∈ o.reads ++ o.dests ++ [cP i.pg.toNat], phys k.rrb q = r := by
        simp only [List.mem_append, List.mem_map, List.mem_singleton] at hr' ⊢
        rcases hr' with (⟨q, h, e⟩ | ⟨q, h, e⟩) | e
        · exact ⟨q, .inl (.inl h), e⟩
        · exact ⟨q, .inl (.inr h), e⟩
        · exact ⟨_, .inr rfl, e.symm⟩
      obtain ⟨q, hq, rfl⟩ := this
      rw [hk]
      simp [hr q hq]
    rw [show k.rrb = rrbOf (bankOf x (levelOf d i.core)) from by rw [hk]; rfl] at hst
    have h1 : (bun.slots.contains slot || o.dests.any bun.dests.contains) = false := by
      simp only [Bool.or_eq_false_iff, List.contains_eq_mem, decide_eq_false_iff_not, List.any_eq_false, decide_eq_true_eq]
      exact ⟨hsl, hd⟩
    have h2 : (o.ct && decide (0 < x.dly)) = false := by
      cases hct : o.ct with
      | false => rfl
      | true => simp [hc hct]
    have hnx : ∀ b : Bundle, b.next = bun.next →
        (if guardOf k i then if o.legal then o.eff b else b.fail 1 slot else b).next = bun.next := by
      intro b hb
      split
      · split
        · rw [hn, hb]
        · simpa [Bundle.fail] using hb
      · exact hb
    have ek : (⟨d, i.core, x, levelOf d i.core, bankOf x (levelOf d i.core), rrbOf (bankOf x (levelOf d i.core)),
        (bankOf x (levelOf d i.core)).count, bun.next⟩ : Ctx) = k := hk.symm
    unfold joinBundle joined took
    simp only [ek, ← ho, hst, h1, h2, Bool.false_eq_true, if_false]
    cases he : i.eob with
    | true => rfl
    | false =>
      simp only [he, Bool.false_eq_true, false_or] at hro
      simp only [Bool.false_eq_true, if_false]
      rw [if_neg]
      rw [hnx]
      · exact hro
      · rfl
  exact key _ _ rfl rfl

/-- What `issue` does with an instruction that joins a bundle. -/
theorem issue_joined (i : Iss) (slot : Nat) (op : Ctx → Op) (d d' : Dev) (x : Core) (bun : Bundle) (o : Op)
    (ho : op (ctxOf i d' x bun) = o) (h : Joins i slot o.reads o.dests d d' x bun) (hs : o.stall = false)
    (hc : o.ct = true → x.dly = 0) (hn : ∀ u, (o.eff u).next = u.next) :
    issue i slot op d = joined i d' x
      (if guardOf (ctxOf i d' x bun) i then
         if o.legal then o.eff (took bun slot o.dests o.ct o.mem) else (took bun slot o.dests o.ct o.mem).fail 1 slot
       else took bun slot o.dests o.ct o.mem) := by
  subst ho
  rw [← joinBundle_joined i slot op d' x bun hs h.ready h.slotFree h.destsFree hc hn h.room]
  unfold issue
  rcases h.met with ⟨hb, hd⟩ | ⟨hb, hf, hbu⟩
  · subst hd
    have hm := h.may; have hx := h.core; subst hx
    simp only [hm, hb, Bool.not_true, Bool.false_eq_true, if_false]
  · have hm := h.may; have hx := h.core; subst hx
    simp only [hm, hb, hf, Bool.not_true, Bool.false_eq_true, if_false, hbu]

/-- A slot's instruction as a claim about its effect on the bundle. -/
theorem acts_of (ins : Instr) (i : Iss) (slot : Nat) (op : Ctx → Op) (ok : Ctx → Prop) (legal : Ctx → Bool)
    (reads dests : Ctx → List Nat) (ct : Bool) (mem : Nat) (eff : Ctx → Bundle → Bundle)
    (hx : ∀ s, exec ins s = run s (issue i slot op))
    (hl : ∀ k, (op k).legal = legal k) (hr : ∀ k, (op k).reads = reads k) (hd : ∀ k, (op k).dests = dests k)
    (hct : ∀ k, (op k).ct = ct) (hm : ∀ k, (op k).mem = mem) (he : ∀ k u, guardOf k i = true → legal k = true → (op k).eff u = eff k u)
    (hs : ∀ k, ok k → (op k).stall = false) (hc : ∀ k, ok k → ct = true → k.x.dly = 0)
    (hn : ∀ k u, ((op k).eff u).next = u.next) : Acts ins i slot ok legal reads dests ct mem eff := by
  intro d d' x bun h hok q
  have hj := issue_joined i slot op d d' x bun _ rfl (by rw [hr, hd]; exact h) (hs _ hok)
    (by intro e; rw [hct] at e; exact hc _ hok e) (hn _)
  rw [hx]
  unfold run
  simp only [h.live, if_true]
  rw [hj, hl, hd, hct, hm]
  congr 3
  split
  · next hg =>
    split
    · next hg' => rw [he _ _ hg hg']
    · rfl
  · rfl

/-- The same for an instruction that only adds results. -/
theorem results_of (ins : Instr) (i : Iss) (slot : Nat) (op : Ctx → Op) (legal : Ctx → Bool)
    (reads dests : Ctx → List Nat) (rs rs' : Ctx → List Inflight)
    (hx : ∀ s, exec ins s = run s (issue i slot op))
    (ho : ∀ k, op k = Op.alu (legal k) (reads k) (dests k) (rs' k)) (he : ∀ k, legal k = true → rs' k = rs k) :
    Results ins i slot legal reads dests rs :=
  acts_of ins i slot op _ legal reads dests false 0 _ hx (fun k => by rw [ho]; rfl) (fun k => by rw [ho]; rfl)
    (fun k => by rw [ho]; rfl) (fun k => by rw [ho]; rfl) (fun k => by rw [ho]; rfl)
    (fun k u _ hl => by rw [ho, ← he k hl]; rfl) (fun k _ => by rw [ho]; rfl) (fun _ _ h => by cases h)
    (fun k u => by rw [ho]; rfl)

end Sys2Proof.Laws
end

