-- ==== Sys2Proof/Laws/Memory.lean ====
section
/-! SUPPORT. Every memory operation keeps the canonical form of memory, and what the shared operations of the memory system
leave as it is. -/

namespace Sys2Proof.Laws

open Sys2Proof.Machine

/-- The device's memory is in its canonical form. -/
abbrev MemOk (d : Dev) : Prop := Memory.wf d.mem = true

/-! ## Operations that leave memory -/

@[simp] theorem sendInt_mem (d : Dev) (v : Nat) : (sendInt d v).mem = d.mem := by unfold sendInt; split <;> rfl
@[simp] theorem raiseVec_mem (d : Dev) (v : Nat) : (raiseVec d v).mem = d.mem := by
  unfold raiseVec; simp only []; split <;> simp
@[simp] theorem hlkSrc_mem (d : Dev) (i : Nat) : (hlkSrc d i).mem = d.mem := by simp [hlkSrc]
@[simp] theorem alert_mem (d : Dev) (i : Nat) : (alert d i).mem = d.mem := by unfold alert; simp only []; split <;> simp
@[simp] theorem passOutcome_mem (d : Dev) (la k : Nat) : (passOutcome d la k).mem = d.mem := by
  unfold passOutcome; split <;> rfl
@[simp] theorem noteOutcome_mem (d : Dev) (la k syn : Nat) (b : Bool) : (noteOutcome d la k syn b).mem = d.mem := by
  unfold noteOutcome; simp only []; repeat' split
  all_goals simp
@[simp] theorem toHost_mem (d : Dev) (m : HostMsg) : (toHost d m).mem = d.mem := by unfold toHost; split <;> rfl
@[simp] theorem sendSnoop_mem (d : Dev) (la : Nat) (b : Bool) : (sendSnoop d la b).mem = d.mem := by simp [sendSnoop]
@[simp] theorem snoopInv_mem (d : Dev) (la : Nat) : (snoopInv d la).mem = d.mem := by unfold snoopInv; split <;> simp

/-! ## Operations that write memory -/

/-- One line of a write. -/
theorem writeLine_wf (d d' : Dev) (la : Nat) (bs : List Byte) (mask : List Bool) (syn : Nat) (hd : MemOk d)
    (h : writeLine d la bs mask syn = some d') : MemOk d' := by
  have key : ∀ (m : List Host.Cell), m = setBytes d.mem la ((List.range 64).map
      (fun i => if mask.getD i false then bs.getD i 0 else (getBytes d.mem la 64).getD i 0)) → Memory.wf m = true :=
    fun m hm => hm ▸ setBytes_wf _ _ _ hd
  unfold writeLine at h
  simp only [] at h
  repeat' split at h
  all_goals first
    | (cases h; done)
    | (cases h; apply key; simp)

/-- The lines of a write. -/
theorem writeParts_wf (ps : List (Nat × List Byte × List Bool)) : ∀ (syns : List Nat) (d d' : Dev), MemOk d →
    writeParts d ps syns = some d' → MemOk d' := by
  induction ps with
  | nil => intro syns d d' hd h; simp only [writeParts, Option.some.injEq] at h; exact h ▸ hd
  | cons p ps ih =>
    obtain ⟨la, bs, mk⟩ := p
    intro syns d d' hd h
    simp only [writeParts] at h
    cases hw : writeLine d la bs mk (syns.headD 0) with
    | none => rw [hw] at h; cases h
    | some e =>
      rw [hw] at h; simp only [] at h
      have he := writeLine_wf d e la bs mk _ hd hw
      split at h
      · exact ih _ _ d' (setBytes_wf _ _ _ he) h
      · exact ih _ _ d' he h

/-- A write that came as a packet. -/
theorem memWrite_wf (d d' : Dev) (a : Nat) (bs : List Byte) (mask : List Bool) (syns : List Nat) (hd : MemOk d)
    (h : memWrite d a bs mask syns = some d') : MemOk d' := writeParts_wf _ _ d d' hd h

/-- One line of a unit's write. -/
theorem putPart_wf (d : Dev) (x : Nat × List Byte × List Bool) (hd : MemOk d) : MemOk (putPart d x) := by
  unfold putPart
  split
  · next d' h => exact writeParts_wf _ _ d d' hd h
  · exact hd

/-- One line of a unit's write, which may wait for a snoop. -/
theorem putLine_wf (d : Dev) (x : Nat × List Byte × List Bool) (hd : MemOk d) : MemOk (putLine d x) := by
  unfold putLine
  split
  · show Memory.wf (snoopInv d x.1).mem = true
    rw [snoopInv_mem]; exact hd
  · exact putPart_wf d x hd

/-- A fold of steps that each keep the form. -/
theorem foldl_wf {α : Type} (f : Dev → α → Dev) (hf : ∀ d x, MemOk d → MemOk (f d x)) (l : List α) :
    ∀ d, MemOk d → MemOk (l.foldl f d) := by
  induction l with
  | nil => intro d h; exact h
  | cons x l ih => intro d h; exact ih _ (hf d x h)

/-- A unit's write of fresh data. -/
theorem memPut_wf (d : Dev) (a : Nat) (bs : List Byte) (hd : MemOk d) : MemOk (memPut d a bs) := foldl_wf _ putLine_wf _ d hd

/-- The answer to a snoop. -/
theorem snoopOver_wf (d : Dev) (line st : Nat) (hd : MemOk d) : MemOk (snoopOver d line st) := by
  unfold snoopOver
  exact foldl_wf putLine putLine_wf _ _ hd

/-- A record of the event log. -/
theorem logEvent_wf (d : Dev) (code unit info addr : Nat) (hd : MemOk d) : MemOk (logEvent d code unit info addr) := by
  simp only [MemOk, logEvent]
  split
  all_goals simp only [sbit_mem, cnt_mem, fset_mem]; exact setBytes_wf _ _ _ hd

/-- A domain that goes off. -/
theorem domForget_wf (d : Dev) (p : Nat) (hd : MemOk d) : MemOk (domForget d p) := filter_wf _ _ hd

/-- A reset. -/
theorem keepSorrel_wf (old d : Dev) (h : MemOk old) : MemOk (keepSorrel old d) := filter_wf _ _ h

end Sys2Proof.Laws
end

