-- ==== Sys2Proof/Tests/Slice0.lean ====
section
/-! SUPPORT. Tests: a term that each check of `wellFormed` refuses, the spec's own examples, and for every statement of
Certificates/Slice0/Obligations.lean that has hypotheses a state and operands that meet them together (`wit_<statement>`, one
conjunct for each clause). -/

set_option Elab.async false

/-! ## Checks, examples, reset -/

namespace Sys2Proof.Tests.W0
open Sys2Proof Sys2Proof.Machine Sys2Proof.Safety

/-! ## Each check of `wellFormed` refuses a term that fails it -/

theorem test_wf_core : wellFormed (.loopBack 256) = false := by decide
theorem test_wf_issue : wellFormed (.addS ⟨256, true, 0⟩ ⟨1, 2, 3⟩) = false := by decide
theorem test_wf_cluster : wellFormed (.registerWrite (.dma 32) 0 4 0) = false := by decide
theorem test_wf_instance : wellFormed (.fft 24) = false := by decide
theorem test_wf_queue : wellFormed (.queueCreate 16384) = false := by decide
theorem test_wf_sequence : wellFormed (.seqTrigger 8) = false := by decide
theorem test_wf_mac : wellFormed (.frameDelivery 48) = false := by decide
theorem test_wf_pair : wellFormed (.adapterReplay 2) = false := by decide
theorem test_wf_finder : wellFormed (.scan 4) = false := by decide
theorem test_wf_entry : wellFormed (.energyTrigger 0 16) = false := by decide
theorem test_wf_clock : wellFormed (.commitDecide [64]) = false := by decide
theorem test_wf_stream : wellFormed (.gainUpdate 1536) = false := by decide
theorem test_wf_domain : wellFormed (.powerDown 45) = false := by decide
theorem test_wf_boot : wellFormed (.porstN 4) = false := by decide
theorem test_wf_hostCore : wellFormed (.rd 16 0 0 0) = false := by decide
theorem test_wf_unit : wellFormed (.registerWrite (.unit 56) 0 4 0) = false := by decide
theorem test_wf_group : wellFormed (.macBrProd 12 0 0) = false := by decide
theorem test_wf_resultSet : wellFormed (.yrwResAck 9 0) = false := by decide
theorem test_wf_slot : wellFormed (.deadline 131072) = false := by decide
theorem test_wf_received : wellFormed (.spiWrite 0 0 33 false) = false := by decide
theorem test_wf_channel : wellFormed (.calPhase0 32) = false := by decide
theorem test_wf_length : wellFormed (.snpdata 0 []) = false := by decide
theorem test_wf_raws : wellFormed (.sequenceResult (List.replicate 257 0)) = false := by decide +kernel
theorem test_wf_packet : wellFormed (.read ⟨.spi, 0, 0, 0, false, 0, 0, 0, 1, 0, 3, 0, 253, 0, 0, [], [], []⟩) = false := by decide
theorem test_wf_accepts : wellFormed (.loopBack 255) = true ∧ wellFormed (.fft 23) = true ∧ wellFormed (.queueCreate 16383) = true ∧
    wellFormed (.read ⟨.spi, 0, 0, 0, false, 0, 0, 0, 1, 0, 3, 0, 252, 0, 0, [], [], []⟩) = true := by decide

/-! ## The spec's own examples -/

/-- The table of the example of R126: `exth` with SH = 16 under RM 0, 1 and 2. -/
theorem test_round : ([32768, 98303, 98304, -32768, -98304].map (fun a : Int => [0, 1, 2].map (fun rm => roundShift rm a 16))) =
    [[0, 1, 0], [1, 1, 1], [1, 2, 2], [-1, 0, 0], [-2, -1, -2]] := by decide +kernel

/-- The example of R88: eight stores through a bit-reversed modifier return the address to its base. -/
theorem test_bitReversed : ([0x1000, 0x1010, 0x1008, 0x1018, 0x1004, 0x1014, 0x100C, 0x101C].map (fun a => modUpdate a 4 0x1000 0x80000203)) =
    [some 0x1010, some 0x1008, some 0x1018, some 0x1004, some 0x1014, some 0x100C, some 0x101C, some 0x1000] := by decide +kernel

/-- The example of R150: products of a = 0x20004000 with b = 0xE0006000, and of c = 0x80008000 with itself. -/
theorem test_complex : cmulQ15 false 0x20004000 0xE0006000 = 0x08003800 ∧ cmulQ15 true 0x20004000 0xE0006000 = 0x28002800 ∧
    cprod false 0x20004000 0xE0006000 = (0x1C000000, 0x04000000) ∧ cmulQ15 false 0x80008000 0x80008000 = 0x7FFF0000 := by decide +kernel

set_option maxRecDepth 8000 in
/-- The example of R380: the check of a line of zeros but for byte 63. -/
theorem test_lineCheck : [0, 1, 2, 3].map (fun b => lineCrc (List.replicate 63 0 ++ [b])) = [0, 0x8BB7, 0x9CD9, 0x176E] := by decide +kernel

/-- The example of R33: where the LDM and the PM of logical core 5 of cluster 19 begin. -/
theorem test_places : ldmBase (8 * 19 + 5) = 0x1013540000 ∧ pmBase (8 * 19 + 5) = 0x1013650000 := by decide

/-- R43: a 60 kHz slot lasts 492,032 Tc when it begins a half subframe, and 491,008 Tc otherwise. -/
theorem test_slotLengths : symStart 2 1 0 - symStart 2 0 0 = 492032 ∧ symStart 2 2 0 - symStart 2 1 0 = 491008 := by decide

/-! ## Reset and the queue of commands -/

theorem test_reset_wf : Memory.wf State.reset.dev.mem = true ∧ State.reset.pending = [] := by decide +kernel
theorem test_noWord : decodeTableWord 32 0 = none ∧ State.reset.withFetchWord 32 0 = State.reset := ⟨rfl, rfl⟩

/-- The example after R54: air time 7,865,303,040 is SFN 400, subframe 0, 30 kHz slot 1, symbol 0. -/
theorem test_view : airView { (fset Dev.reset Reg.AIR_VIEW_CFG 1 0 1) with air := { Dev.reset.air with now := 7865303040 } } =
    400 * 2 ^ 11 + 1 * 2 ^ 4 := by decide +kernel

/-- R39: with no command waiting a cycle of the air-time clock is two units of Tc. -/
theorem test_tick : (tick (fset Dev.reset Reg.SRL_BOOT 3 0 2)).air.now = 2 := by decide +kernel

end Sys2Proof.Tests.W0

/-! ## Witnesses: instructions that join a bundle, the whole machine, what commands leave -/

namespace Sys2Proof.Tests.W1
open Sys2Proof Sys2Proof.Machine Sys2Proof.Safety Sys2Proof.Claims

def x0 : Core := { Core.reset with running := true, pc := 0x400 }
def x1 (s : Nat) : Core := { x0 with bun := some { Bundle.open_ 0x400 with slots := [s], next := 0x404 } }
def d0 : Dev := setCore Dev.reset 0 x0
def d1 (s : Nat) : Dev := setCore Dev.reset 0 (x1 s)

/-- Any instruction of core 0 may open a bundle of `d0`, whatever its slot, sources and destinations. -/
theorem wit_Joins_open (eob : Bool) (pg : BitVec 3) (slot : Nat) (reads dests : List Nat) :
    Joins ⟨0, eob, pg⟩ slot reads dests d0 (fetch d0 0 0x400).1 x0 (Bundle.open_ 0x400) where
  live := by decide +kernel
  core := by show x0 = coreOf d0 0; decide +kernel
  may := by show mayIssue d0 0 x0 = true; decide +kernel
  met := .inr ⟨rfl, by show fetch d0 0 0x400 = ((fetch d0 0 0x400).1, Ans.ok); decide +kernel, rfl⟩
  ready := by intro r _; rfl
  slotFree := by intro h; cases h
  destsFree := by intro r _ h; cases h
  room := .inr (by decide +kernel)

theorem core_d1 (s : Nat) (h : s < 4) : coreOf (d1 s) 0 = x1 s ∧ mayIssue (d1 s) 0 (x1 s) = true ∧ live (d1 s) = true := by
  have : s = 0 ∨ s = 1 ∨ s = 2 ∨ s = 3 := by omega
  rcases this with rfl | rfl | rfl | rfl <;> decide +kernel

/-- Any instruction of another slot may join the bundle in progress of `d1`. -/
theorem wit_Joins_progress (eob : Bool) (pg : BitVec 3) (s slot : Nat) (hs : s < 4) (h : slot ≠ s) (reads dests : List Nat) :
    Joins ⟨0, eob, pg⟩ slot reads dests (d1 s) (d1 s) (x1 s) { Bundle.open_ 0x400 with slots := [s], next := 0x404 } where
  live := (core_d1 s hs).2.2
  core := (core_d1 s hs).1.symm
  may := (core_d1 s hs).2.1
  met := .inl ⟨rfl, rfl⟩
  ready := by intro r _; rfl
  slotFree := by intro hm; exact h (List.mem_singleton.mp hm)
  destsFree := by intro r _ hm; cases hm
  room := .inr (by show (0x404 + 4) % 16 ≠ 0; decide)

/-- The further conditions of the instructions that may stall hold there. -/
theorem wit_Joins_ok : ∀ b, noDelay (ctxOf ⟨0, b, 0⟩ d0 x0 (Bundle.open_ 0x400)) ∧ cprstPending x0 = false ∧ x0.bcp.queue = [] ∧
    x0.rmt = [] ∧ (∀ bank code, awaiting x0 bank code = false) := by
  intro b
  refine ⟨rfl, ?_, rfl, rfl, fun _ _ => rfl⟩
  decide +kernel

/-- A load and a store of own LDM that nothing stalls. -/
theorem wit_Joins_mem : ∃ (i : Iss) (f : FAM), ∀ size ∈ [1, 2, 4, 8, 16], let k := ctxOf i d0 x0 (Bundle.open_ 0x400)
    guardOf k i = true ∧ scalarFault k.d k.c (amPlace k f size).1 size false false = 0 ∧
    amStall k (amPlace k f size).1 size false = false ∧ scalarFault k.d k.c (amPlace k f size).1 size true false = 0 ∧
    amStall k (amPlace k f size).1 size true = false :=
  ⟨⟨0, true, 0⟩, ⟨0, 0, 0, 0⟩, by decide +kernel⟩

theorem wit_ModifierUpdates : (∃ ctl, bits ctl 31 30 = 0 ∧ bits ctl 29 24 = 0) ∧
    (∃ base ctl, bits ctl 31 30 = 1 ∧ bits ctl 29 24 = 0 ∧ 0 < bits ctl 23 0 ∧ base + bits ctl 23 0 ≤ 2 ^ 32) ∧
    (∃ ctl, bits ctl 31 30 = 3) :=
  ⟨⟨0, by decide +kernel⟩, ⟨0x100, 0x40000040, by decide +kernel⟩, ⟨0xC0000000, by decide +kernel⟩⟩

theorem wit_BcpCommandsRun_head : ∃ e ∈ bcpRows, ∃ (d : Dev) (c : Nat) (k : BcpCmd) (ks : List BcpCmd), AtHead d c e.2 k ks := by
  refine ⟨(.stclr, 0x20), by unfold bcpRows; simp, setCore Dev.reset 0 { Core.reset with bcp := { Core.reset.bcp with
    queue := [⟨0x20, 0, 0, 0, 0, 0, false, [], 0, 0, none, []⟩] } }, 0, ⟨0x20, 0, 0, 0, 0, 0, false, [], 0, 0, none, []⟩, [], ?_⟩
  constructor <;> decide +kernel

theorem wit_AFrozenDieStaysFrozen : ∃ (d0 : Dev) (s t : State), FrozenAs d0 s ∧ step s = .next t := by
  refine ⟨{ Dev.reset with cpn := { Dev.reset.cpn with frozen := true } },
    ⟨[.descriptorAccept], { Dev.reset with cpn := { Dev.reset.cpn with frozen := true } }⟩, _, ⟨rfl, ⟨rfl, fun _ _ => rfl, rfl, rfl, rfl, rfl, rfl, rfl⟩, ?_⟩, rfl⟩
  intro c hc h
  cases List.mem_singleton.mp hc
  rcases h with h | h | ⟨b, h⟩ | ⟨b, h⟩ <;> cases h

theorem wit_InstructionsKeepMemoryCanonical : ∃ (ins : Instr) (i : Iss) (cs : List Instr) (d : Dev) (t : State), issOf ins = some i ∧
    Memory.wf d.mem = true ∧ step ⟨ins :: cs, d⟩ = .next t :=
  ⟨.addS ⟨0, true, 0⟩ ⟨1, 2, 3⟩, ⟨0, true, 0⟩, [], d0, _, rfl, by decide +kernel, rfl⟩

/-- The core of `d0` writes nothing outside its own memory. -/
theorem wit_OwnPlaces : issOf (.addS ⟨0, true, 0⟩ ⟨1, 2, 3⟩) = some ⟨0, true, 0⟩ ∧ OwnPlaces x0 := ⟨rfl, by intro u h; cases h⟩

theorem wit_AStepRunsTheFrontCommand : (∃ d : Dev, live d = true ∧ stepDone d 2 = true) ∧ (∃ d : Dev, live d = false ∨ stepDone d 2 = false) :=
  ⟨⟨fset Dev.reset Reg.SRL_BOOT 3 0 2, by decide +kernel⟩, ⟨Dev.reset, by decide +kernel⟩⟩

/-- What one command leaves is said of every answer; it answers. -/
theorem wit_InstructionsLeaveOtherUnits : ∃ (ins : Instr) (i : Iss) (q : List Instr) (d t : Dev), issOf ins = some i ∧
    exec ins ⟨q, d⟩ = .next ⟨q, t⟩ ∧ OwnPlaces (coreOf d i.core) := by
  refine ⟨.addS ⟨0, true, 0⟩ ⟨1, 2, 3⟩, ⟨0, true, 0⟩, [], d0, _, rfl, rfl, ?_⟩
  have h : coreOf d0 0 = x0 := by decide +kernel
  intro u hu
  rw [h] at hu
  cases hu

theorem wit_DmaLeavesOtherUnits : ∃ (c : Nat) (q : List Instr) (d t : Dev), exec (.dmaTransferStart c) ⟨q, d⟩ = .next ⟨q, t⟩ ∧
    ∀ x ∈ (dmaOf d c).q.head?, ∀ a ∈ dmaPieces x, isReg a.1 = false ∧ isReg a.2.1 = false :=
  ⟨0, [], Dev.reset, _, rfl, by decide⟩

theorem wit_QueueAndWorkCommandsLeaveTheRest : ∃ (c : Instr) (q p : Nat) (s : List Instr) (d t : Dev),
    (c = .queueCreate q ∨ c = .queueDestroy q ∨ c = .queueDisabled q) ∧ p ≠ q ∧ exec c ⟨s, d⟩ = .next ⟨s, t⟩ :=
  ⟨.queueCreate 3, 3, 4, [], Dev.reset, _, .inl rfl, by decide, rfl⟩

theorem wit_AirTimeCommandsLeaveTheRest : ∃ (c : Instr) (q : List Instr) (d t : Dev), (c = .sourceLost ∨ c = .sourceReturn ∨ c = .refclkLoss) ∧
    exec c ⟨q, d⟩ = .next ⟨q, t⟩ := ⟨.sourceLost, [], Dev.reset, _, .inl rfl, rfl⟩

theorem wit_SignalPathCommandsLeaveTheRest : ∃ (c : Instr) (m k : Nat) (s : List Instr) (d t : Dev),
    (c = .frameDelivery m ∨ c = .frameLaunch m ∨ c = .frameSent m ∨ c = .macTxtsPop m) ∧ k ≠ m ∧ exec c ⟨s, d⟩ = .next ⟨s, t⟩ :=
  ⟨.frameLaunch 1, 1, 2, [], Dev.reset, _, .inr (.inl rfl), by decide, rfl⟩

theorem wit_HousekeepingCommandsLeaveTheRest : ∃ (c : Instr) (q : List Instr) (d t : Dev), (c = .readRaw ∨ c = .writeData ∨ c = .writeChk ∨ c = .testOpDone) ∧
    exec c ⟨q, d⟩ = .next ⟨q, t⟩ := ⟨.readRaw, [], Dev.reset, _, .inl rfl, rfl⟩

end Sys2Proof.Tests.W1

/-! ## Witnesses: issue, bundles, exceptions, scheduler, queues -/

namespace Sys2Proof.Tests.W4
open Sys2Proof Sys2Proof.Machine Sys2Proof.Safety Sys2Proof.Claims

def D : Dev := Dev.reset
def onCore (x : Core) : Dev := setCore D 0 x
def going : Core := { Core.reset with running := true, pc := 0x400 }
def lvl (l : Nat) (d : Dev) : Dev := fset d (ccr 0 4) 1 0 l
def bun0 : Bundle := Bundle.open_ 0x400
def qd (cfg : Nat) (x : Queue) : Dev := setQ (ww D (Reg.QMG_QCFG 3) cfg) 3 x
def sl (s : Slot) : Dev := setSlot D 5 s
def later (d : Dev) : Dev := { d with air := { d.air with now := 2 ^ 40 } }
def tsyOn (d : Dev) : Dev := ww (ww (sbit (sbit d Reg.TSY_CTRL 0) Reg.SRL_BOOT 15) (Reg.TSY_POOL_CFG 0) 1) (Reg.TSY_POOL_MASK 0 0) 1
def work : Dev := tsyOn (qd 224 ⟨1, 0, 0, [.pub], 0⟩)
def kc (w a0 a1 a2 a3 : Nat) : BcpCmd := ⟨w, a0, a1, a2, a3, 0, false, [], 0, 0, none, []⟩
def DM : Dev := { D with mem := setBytes [] (ldmBase 0) [0x35#8, 0xA7#8, 0x81#8, 0x7F#8, 9, 250, 3, 4] }
def DR : Dev := { DM with mem := setBytes DM.mem (ldmBase 0 + 0x100) (toBytes 2 12 ++ toBytes 2 3 ++ toBytes 4 16 ++ toBytes 2 4 ++ toBytes 2 2 ++ toBytes 4 0) }
def qcore (k : BcpCmd) (e : BitVec 8) : Core := { going with bcp := { Bcp.reset with err := e, queue := [k] } }
def DX : Dev := setDma { D with mem := setBytes [] 0 [1, 2, 3] } 0 { Dma.reset with q := [{ Xfer.zero with src := 0, dst := 0x1000000040, rlen := 64, nrows := 1 }] }

theorem wit_SlotOrDestinationUsedTwiceIsIllegal :
    (∃ (d : Dev) (i : Iss) (slot : Nat) (x : Core) (bun : Bundle) (_legal : Bool) (reads : List Nat) (dests : List Nat) (_rs : List Inflight), i.eob = true ∧ bun.faults = [] ∧ bun.fir = false ∧ (∀ r ∈ reads ++ dests ++ [cP i.pg.toNat], awaiting x (levelOf d i.core) (phys (ctxOf i d x bun).rrb r) = false) ∧ (slot ∈ bun.slots ∨ ∃ r ∈ dests, r ∈ bun.dests)) :=
  ⟨D, ⟨0, true, 0⟩, 0, going, { bun0 with slots := [0] }, true, [1], [], [], ⟨by decide +kernel, by decide +kernel, by decide +kernel, by decide +kernel, by decide +kernel⟩⟩

theorem wit_AwaitedRegisterHoldsTheBundle :
    (∃ (d : Dev) (i : Iss) (_slot : Nat) (op : Ctx → Op) (bun : Bundle) (r : Nat), (coreOf d i.core).bun = some bun ∧ r ∈ (op (ctxOf i d (coreOf d i.core) bun)).reads ++ (op (ctxOf i d (coreOf d i.core) bun)).dests ++ [cP i.pg.toNat] ∧ awaiting (coreOf d i.core) (levelOf d i.core) (phys (ctxOf i d (coreOf d i.core) bun).rrb r) = true) :=
  ⟨onCore { going with bun := some bun0, rmt := [⟨1, 0x800000000, 4, 4, [1], 1, 0, false, [], 0⟩] }, ⟨0, true, 0⟩, 0, fun _ => Op.alu true [cS 1] [] [], bun0, 1, ⟨by decide +kernel, by decide +kernel, by decide +kernel⟩⟩

theorem wit_HeldCoreIssuesNothing :
    (∃ (ins : Instr) (i : Iss) (d : Dev), issOf ins = some i ∧ mayIssue d i.core (coreOf d i.core) = false) :=
  ⟨.addS ⟨0, true, 0⟩ ⟨1, 2, 3⟩, ⟨0, true, 0⟩, D, ⟨by decide +kernel, by decide +kernel⟩⟩

theorem wit_ResultsLandInOrder :
    (∃ (x : Core) (bank : Nat) (_n : Nat) (r : Inflight), x.flight = [r] ∧ r.bank = bank ∧ r.code < 0x20 ∧ r.val < 2 ^ 32) ∧
    (∃ (x : Core) (bank : Nat) (n : Nat) (r : Inflight) (q : Inflight), x.flight = [r, q] ∧ r.bank = bank ∧ q.bank = bank ∧ r.code = q.code ∧ r.code < 0x20 ∧ r.val < 2 ^ 32 ∧ q.val < 2 ^ 32 ∧ r.land ≤ n ∧ q.land ≤ n) :=
  ⟨⟨{ going with flight := [⟨0, 1, 5, 0, 3, 0, false⟩] }, 0, 3, ⟨0, 1, 5, 0, 3, 0, false⟩, ⟨by decide +kernel, by decide +kernel, by decide +kernel, by decide +kernel⟩⟩,
   ⟨{ going with flight := [⟨0, 1, 5, 0, 3, 0, false⟩, ⟨0, 1, 6, 0, 3, 1, false⟩] }, 0, 3, ⟨0, 1, 5, 0, 3, 0, false⟩, ⟨0, 1, 6, 0, 3, 1, false⟩, ⟨by decide +kernel, by decide +kernel, by decide +kernel, by decide +kernel, by decide +kernel, by decide +kernel, by decide +kernel, by decide +kernel, by decide +kernel⟩⟩⟩

theorem wit_PlainBundleCommits :
    (∃ (d : Dev) (c : Nat) (x : Core) (u : Bundle), PlainBundle u ∧ PlainCore d c x) :=
  ⟨D, 0, going, { bun0 with next := 0x404, ct := true, taken := true, target := 0x800 }, ⟨by constructor <;> decide +kernel, by constructor <;> decide +kernel⟩⟩

theorem wit_AccumulatorInputIsForwarded :
    (∃ (k : Ctx) (i : Nat) (older : List Inflight) (r : Inflight) (newer : List Inflight), k.x.flight = older ++ [r] ++ newer ∧ r.mac = true ∧ r.bank = k.bank ∧ r.code = cAcc i ∧ (∀ q ∈ newer, ¬(q.mac = true ∧ q.bank = k.bank ∧ q.code = cAcc i))) ∧
    (∃ (k : Ctx) (i : Nat), (∀ q ∈ k.x.flight, ¬(q.mac = true ∧ q.bank = k.bank ∧ q.code = cAcc i))) :=
  ⟨⟨⟨D, 0, { going with flight := [⟨0, cAcc 0, 2 ^ 39, 0, 9, 0, true⟩] }, 0, Bank.reset, 0, 0, 0⟩, 0, [], ⟨0, cAcc 0, 2 ^ 39, 0, 9, 0, true⟩, [], ⟨by decide +kernel, by decide +kernel, by decide +kernel, by decide +kernel, by decide +kernel⟩⟩,
   ⟨⟨D, 0, going, 0, Bank.reset, 0, 0, 0⟩, 0, by decide +kernel⟩⟩

theorem wit_LoopBackEvaluatesTheLoop :
    (∃ (d : Dev) (c : Nat) (q : LpDue), live d = true ∧ (coreOf d c).lpDue = some q ∧ q.l0 = true ∧ q.l1 = false) :=
  ⟨onCore { going with lpDue := some ⟨2, 0, 15, true, false⟩, banks := [(0, { Bank.reset with lp0 := ⟨0x400, 0x410, true, true, 1⟩ })] }, 0, ⟨2, 0, 15, true, false⟩, ⟨by decide +kernel, by decide +kernel, by decide +kernel, by decide +kernel⟩⟩

theorem wit_InterruptEntrySavesAndVectors :
    (∃ (d : Dev) (c : Nat) (l : Nat) (s : Nat), live d = true ∧ mayIssue d c (coreOf d c) = true ∧ atBoundary d c (coreOf d c) = true ∧ chooseIrq d c = some (l, s)) ∧
    (∃ (d : Dev) (c : Nat), levelOf d c < 2 ∧ rbit d (ccr c 0x010) 0 = true) ∧
    (∃ (d : Dev) (c : Nat), levelOf d c = 2) :=
  ⟨⟨sbit (onCore going) (ccr 0 0x10) 0, 0, 2, 0, ⟨by decide +kernel, by decide +kernel, by decide +kernel, by decide +kernel⟩⟩,
   ⟨sbit D (ccr 0 0x10) 0, 0, ⟨by decide +kernel, by decide +kernel⟩⟩,
   ⟨lvl 2 D, 0, by decide +kernel⟩⟩

theorem wit_PreciseExceptionEntersLevelTwo :
    (∃ (d : Dev) (c : Nat) (_code : Nat) (_slot : Nat) (f : Flt), live d = true ∧ corePresent d.grade c = true ∧ (coreOf d c).running = true ∧ (coreOf d c).fault = some f ∧ levelOf d c ≠ 2) ∧
    (∃ (d : Dev) (c : Nat) (_code : Nat) (_slot : Nat) (f : Flt), live d = true ∧ corePresent d.grade c = true ∧ (coreOf d c).running = true ∧ (coreOf d c).fault = some f ∧ levelOf d c = 2 ∧ rbit d Reg.CPN_CTRL 2 = false) :=
  ⟨⟨onCore { going with fault := some ⟨4, 1, 0, 0x123, 0, 0, 0, true⟩ }, 0, 0, 0, ⟨4, 1, 0, 0x123, 0, 0, 0, true⟩, ⟨by decide +kernel, by decide +kernel, by decide +kernel, by decide +kernel, by decide +kernel⟩⟩,
   ⟨lvl 2 (onCore { going with fault := some ⟨4, 1, 0, 0x123, 0, 0, 0, true⟩ }), 0, 0, 0, ⟨4, 1, 0, 0x123, 0, 0, 0, true⟩, ⟨by decide +kernel, by decide +kernel, by decide +kernel, by decide +kernel, by decide +kernel, by decide +kernel⟩⟩⟩

theorem wit_DeferredExceptionEntersLevelTwo :
    (∃ (d : Dev) (c : Nat) (f : Flt), live d = true ∧ atBoundary d c (coreOf d c) = true ∧ levelOf d c ≠ 2 ∧ ((coreOf d c).deferred.find? (fun f => decide (f.ctx = levelOf d c)) = some f)) :=
  ⟨onCore { going with deferred := [⟨0x10, 0, 0, 0, 0, 3, 0x1234, false⟩] }, 0, ⟨0x10, 0, 0, 0, 0, 3, 0x1234, false⟩, ⟨by decide +kernel, by decide +kernel, by decide +kernel, by decide +kernel⟩⟩

theorem wit_ReturnRestoresTheContext :
    (∃ (d : Dev) (c : Nat), live d = true ∧ (coreOf d c).running = true ∧ (coreOf d c).dly = 0 ∧ (coreOf d c).bun = none ∧ (coreOf d c).fault = none ∧ (levelOf d c = 1 ∨ levelOf d c = 2) ∧ (coreOf d c).retiDue = [levelOf d c] ∧ (coreOf d c).rmt = [] ∧ (coreOf d c).deferred = [] ∧ (coreOf d c).ccr = [] ∧ (coreOf d c).doneDue = none ∧ bits (rw d (ccr c (lvlOff (levelOf d c) 0x024))) 1 0 ≠ 3) :=
  ⟨ww (lvl 1 (onCore { going with retiDue := [1] })) (ccr 0 0x24) 0x6C, 0, ⟨by decide +kernel, by decide +kernel, by decide +kernel, by decide +kernel, by decide +kernel, by decide +kernel, by decide +kernel, by decide +kernel, by decide +kernel, by decide +kernel, by decide +kernel, by decide +kernel⟩⟩

theorem wit_RaisedCoreInterruptsBecomePending :
    (∃ (d : Dev) (c : Nat) (_v : Word), live d = true ∧ corePresent d.grade c = true) :=
  ⟨D, 0, 0xFFFFFFFF, ⟨by decide +kernel, by decide +kernel⟩⟩

theorem wit_QueueCreateDestroyAndDisable :
    (∃ (d : Dev) (q : Nat), live d = true ∧ (qOf d q).st = 0 ∧ createCause d q = 0) ∧
    (∃ (d : Dev) (q : Nat), live d = true ∧ (qOf d q).st = 0 ∧ createCause d q ≠ 0 ∧ q < 16384) ∧
    (∃ (d : Dev) (q : Nat), live d = true ∧ (qOf d q).st = 1 ∧ q < 16384) ∧
    (∃ (d : Dev) (q : Nat), live d = true ∧ (qOf d q).st = 2 ∧ (qOf d q).owed = 0) :=
  ⟨⟨qd 194 Queue.reset, 3, ⟨by decide +kernel, by decide +kernel, by decide +kernel⟩⟩,
   ⟨qd 14 Queue.reset, 3, ⟨by decide +kernel, by decide +kernel, by decide +kernel, by decide +kernel⟩⟩,
   ⟨qd 194 ⟨1, 0, 0, [.pub, .void, .rsv .spi 0], 0⟩, 3, ⟨by decide +kernel, by decide +kernel, by decide +kernel⟩⟩,
   ⟨qd 194 ⟨2, 63, 0, [], 0⟩, 3, ⟨by decide +kernel, by decide +kernel, by decide +kernel⟩⟩⟩

theorem wit_ReservationGrantsTheTail :
    (∃ (d : Dev) (_who : Who) (q : Nat), live d = true ∧ (qOf d q).st = 1 ∧ qType d q ≠ 3 ∧ pendingSlots (qOf d q).slots < 64 ∧ (qOf d q).slots.length < qLimit d q) ∧
    (∃ (d : Dev) (_who : Who) (q : Nat) (g : Nat), live d = true ∧ g ≠ (qOf d q).gen) ∧
    (∃ (d : Dev) (_who : Who) (q : Nat), live d = true ∧ (qOf d q).st ≠ 1) ∧
    (∃ (d : Dev) (_who : Who) (q : Nat), live d = true ∧ (qOf d q).st = 1 ∧ qType d q = 3) ∧
    (∃ (d : Dev) (_who : Who) (q : Nat), live d = true ∧ (qOf d q).st = 1 ∧ qType d q ≠ 3 ∧ 64 ≤ pendingSlots (qOf d q).slots) ∧
    (∃ (d : Dev) (_who : Who) (q : Nat), live d = true ∧ (qOf d q).st = 1 ∧ qType d q ≠ 3 ∧ pendingSlots (qOf d q).slots < 64 ∧ qLimit d q ≤ (qOf d q).slots.length) :=
  ⟨⟨qd 14530 ⟨1, 0, 7, [.pub], 0⟩, .core 0, 3, ⟨by decide +kernel, by decide +kernel, by decide +kernel, by decide +kernel, by decide +kernel⟩⟩,
   ⟨D, .spi, 3, 1, ⟨by decide +kernel, by decide +kernel⟩⟩,
   ⟨D, .spi, 3, ⟨by decide +kernel, by decide +kernel⟩⟩,
   ⟨qd 198 ⟨1, 0, 0, [], 0⟩, .spi, 3, ⟨by decide +kernel, by decide +kernel, by decide +kernel⟩⟩,
   ⟨qd 194 ⟨1, 0, 0, List.replicate 64 (.rsv .spi 0), 0⟩, .spi, 3, ⟨by decide +kernel, by decide +kernel, by decide +kernel, by decide +kernel⟩⟩,
   ⟨qd 194 ⟨1, 0, 0, [.pub], 0⟩, .spi, 3, ⟨by decide +kernel, by decide +kernel, by decide +kernel, by decide +kernel, by decide +kernel⟩⟩⟩

theorem wit_PublishAndConsumeMoveTheQueue :
    (∃ (d : Dev) (who : Who) (q : Nat) (idx : Nat) (at_ : Nat) (_vd : Bool), live d = true ∧ (qOf d q).st = 1 ∧ idx < qDepth d q ∧ (qOf d q).slots[(idx + qDepth d q - (qOf d q).head) % qDepth d q]? = some (.rsv who at_)) ∧
    (∃ (d : Dev) (who : Who) (w : Who) (q : Nat) (idx : Nat) (at_ : Nat) (_vd : Bool), live d = true ∧ (qOf d q).st = 1 ∧ w ≠ who ∧ (qOf d q).slots[(idx + qDepth d q - (qOf d q).head) % qDepth d q]? = some (.rsv w at_)) ∧
    (∃ (d : Dev) (_who : Who) (q : Nat) (_idx : Nat) (g : Nat) (_vd : Bool), live d = true ∧ g ≠ (qOf d q).gen) ∧
    (∃ (d : Dev) (q : Nat) (n : Nat), live d = true ∧ (qOf d q).st = 1 ∧ (qType d q = 1 ∨ qType d q = 3 ∨ qType d q = 5) ∧ n + 1 ≤ avail (qOf d q).slots) ∧
    (∃ (d : Dev), live d = true ∧ fget d Reg.QMG_CTRL 15 0 ≠ 0) ∧
    (∃ (d : Dev), live d = true ∧ fget d Reg.QMG_CTRL 15 0 = 0) :=
  ⟨⟨qd 194 ⟨1, 0, 7, [.rsv .spi 0, .pub, .void], 0⟩, .spi, 3, 7, 0, true, ⟨by decide +kernel, by decide +kernel, by decide +kernel, by decide +kernel⟩⟩,
   ⟨qd 194 ⟨1, 0, 7, [.rsv .spi 0], 0⟩, .core 1, .spi, 3, 7, 0, true, ⟨by decide +kernel, by decide +kernel, by decide +kernel, by decide +kernel⟩⟩,
   ⟨D, .spi, 3, 0, 1, false, ⟨by decide +kernel, by decide +kernel⟩⟩,
   ⟨qd 194 ⟨1, 0, 7, [.pub, .pub, .void], 0⟩, 3, 1, ⟨by decide +kernel, by decide +kernel, by decide +kernel, by decide +kernel⟩⟩,
   ⟨later (qd 194 ⟨1, 0, 7, [.rsv .spi 0], 0⟩), ⟨by decide +kernel, by decide +kernel⟩⟩,
   ⟨ww D Reg.QMG_CTRL 0, ⟨by decide +kernel, by decide +kernel⟩⟩⟩

theorem wit_HardwareProducesAndNotifies :
    (∃ (d : Dev) (q : Nat) (h : Nat) (bs : List Byte) (rest : List Note), live d = true ∧ d.owed = .record h bs :: rest ∧ h % 2 ^ 14 = q ∧ h / 2 ^ 14 = (qOf d q).gen ∧ (qOf d q).st = 1 ∧ (qType d q = 1 ∨ qType d q = 3) ∧ bs.length ≤ qEsz d q ∧ (qOf d q).slots.length < qDepth d q ∧ (∀ s ∈ (qOf d q).slots, s ≠ .void) ∧ inMem d.grade (qBase d q + qTail d q * qEsz d q) (bs ++ List.replicate (qEsz d q - bs.length) 0).length = true ∧ writeShut d.grade (qBase d q + qTail d q * qEsz d q) = false) ∧
    (∃ (d : Dev) (q : Nat) (h : Nat) (bs : List Byte) (rest : List Note), live d = true ∧ d.owed = .record h bs :: rest ∧ h % 2 ^ 14 = q ∧ h / 2 ^ 14 = (qOf d q).gen ∧ (qOf d q).st = 1 ∧ (qType d q = 1 ∨ qType d q = 3) ∧ bs.length ≤ qEsz d q ∧ qDepth d q ≤ (qOf d q).slots.length) ∧
    (∃ (d : Dev) (q : Nat), live d = true ∧ (qOf d q).owed ≠ 0) :=
  ⟨⟨{ qd 194 ⟨1, 0, 0, [], 0⟩ with owed := [.record 3 [1#8]] }, 3, 3, [1#8], [], ⟨by decide +kernel, by decide +kernel, by decide +kernel, by decide +kernel, by decide +kernel, by decide +kernel, by decide +kernel, by decide +kernel, by decide +kernel, by decide +kernel, by decide +kernel⟩⟩,
   ⟨{ qd 194 ⟨1, 0, 0, List.replicate 8 .pub, 0⟩ with owed := [.record 3 [1#8]] }, 3, 3, [1#8], [], ⟨by decide +kernel, by decide +kernel, by decide +kernel, by decide +kernel, by decide +kernel, by decide +kernel, by decide +kernel, by decide +kernel⟩⟩,
   ⟨qd (194 + 0) ⟨1, 0, 0, [], 2⟩, 3, ⟨by decide +kernel, by decide +kernel⟩⟩⟩

theorem wit_SignalsReachItems :
    (∃ (d : Dev) (v : Word), live d = true ∧ bits v.toNat 31 24 = 0) ∧
    (∃ (d : Dev) (v : Word), live d = true ∧ bits v.toNat 31 24 ≠ 0 ∧ (131072 ≤ refId (bits v.toNat 23 0) ∨ (slotOf d (refId (bits v.toNat 23 0))).gen ≠ refGen (bits v.toNat 23 0))) ∧
    (∃ (d : Dev) (v : Word) (id : Nat), live d = true ∧ bits v.toNat 31 24 ≠ 0 ∧ id = refId (bits v.toNat 23 0) ∧ id < 131072 ∧ (slotOf d id).gen = refGen (bits v.toNat 23 0) ∧ (slotOf d id).st = .free) ∧
    (∃ (d : Dev) (v : Word) (id : Nat), live d = true ∧ bits v.toNat 31 24 ≠ 0 ∧ id = refId (bits v.toNat 23 0) ∧ id < 131072 ∧ (slotOf d id).gen = refGen (bits v.toNat 23 0) ∧ (slotOf d id).st = .blocked ∧ (slotOf d id).released = true ∧ bits v.toNat 31 24 < (slotOf d id).dep) ∧
    (∃ (d : Dev) (v : Word) (id : Nat), live d = true ∧ bits v.toNat 31 24 ≠ 0 ∧ id = refId (bits v.toNat 23 0) ∧ id < 131072 ∧ (slotOf d id).gen = refGen (bits v.toNat 23 0) ∧ (slotOf d id).st = .blocked ∧ (slotOf d id).released = true ∧ (slotOf d id).dep ≤ bits v.toNat 31 24 ∧ (slotOf d id).d.wait = false ∧ (slotOf d id).failedIn = false) ∧
    (∃ (d : Dev) (i : Nat) (c : Nat) (f : Bool) (rest : List Note), live d = true ∧ d.owed = .signal i c f :: rest) :=
  ⟨⟨D, 5, ⟨by decide +kernel, by decide +kernel⟩⟩,
   ⟨D, 0x01100005, ⟨by decide +kernel, by decide +kernel, by decide +kernel⟩⟩,
   ⟨D, 0x01000005, 5, ⟨by decide +kernel, by decide +kernel, by decide +kernel, by decide +kernel, by decide +kernel, by decide +kernel⟩⟩,
   ⟨sl { Slot.reset with st := .blocked, released := true, dep := 2 }, 0x01000005, 5, ⟨by decide +kernel, by decide +kernel, by decide +kernel, by decide +kernel, by decide +kernel, by decide +kernel, by decide +kernel, by decide +kernel⟩⟩,
   ⟨sl { Slot.reset with st := .blocked, released := true, dep := 1 }, 0x02000005, 5, ⟨by decide +kernel, by decide +kernel, by decide +kernel, by decide +kernel, by decide +kernel, by decide +kernel, by decide +kernel, by decide +kernel, by decide +kernel, by decide +kernel⟩⟩,
   ⟨{ D with owed := [.signal 5 1 true] }, 5, 1, true, [], ⟨by decide +kernel, by decide +kernel⟩⟩⟩

theorem wit_EventsAndTimeoutsEndWaits :
    (∃ (d : Dev) (v : Word), live d = true ∧ (∀ x ∈ d.tsy.slots, ¬(x.2.st = .waiting ∧ x.2.d.event = bits v.toNat 11 0))) ∧
    (∃ (d : Dev) (v : Word) (id : Nat) (s : Slot), live d = true ∧ d.tsy.slots = [(id, s)] ∧ s.st = .waiting ∧ s.d.event = bits v.toNat 11 0 ∧ s.released = true ∧ s.dep = 0 ∧ s.failedIn = false ∧ ((fget d (Reg.TSY_EVENT_CNT (bits v.toNat 11 0)) 15 0 + bits v.toNat 31 16) % 2 ^ 16 + 2 ^ 16 - s.d.target) % 2 ^ 16 < 2 ^ 15) ∧
    (∃ (d : Dev) (e : Nat) (c : Nat) (rest : List Note), live d = true ∧ d.owed = .event e c :: rest) ∧
    (∃ (d : Dev) (id : Nat) (at_ : Nat), live d = true ∧ (slotOf d id).tmoAt = some at_ ∧ at_ ≤ d.air.now ∧ (slotOf d id).st = .waiting ∧ (slotOf d id).d.wait = true ∧ (slotOf d id).timeout = false ∧ (slotOf d id).waitDone = false ∧ (slotOf d id).released = true ∧ (slotOf d id).dep = 0 ∧ (slotOf d id).failedIn = false ∧ eventReached d (slotOf d id).d = false) :=
  ⟨⟨D, 0x10005, ⟨by decide +kernel, by decide +kernel⟩⟩,
   ⟨sl { Slot.reset with st := .waiting, d := { Desc.zero with wait := true, event := 5, target := 1 }, released := true, tmoAt := some 0 }, 0x10005, 5, { Slot.reset with st := .waiting, d := { Desc.zero with wait := true, event := 5, target := 1 }, released := true, tmoAt := some 0 }, ⟨by decide +kernel, by decide +kernel, by decide +kernel, by decide +kernel, by decide +kernel, by decide +kernel, by decide +kernel, by decide +kernel⟩⟩,
   ⟨{ D with owed := [.event 5 1] }, 5, 1, [], ⟨by decide +kernel, by decide +kernel⟩⟩,
   ⟨sl { Slot.reset with st := .waiting, d := { Desc.zero with wait := true, event := 5, target := 1 }, released := true, tmoAt := some 0 }, 5, 0, ⟨by decide +kernel, by decide +kernel, by decide +kernel, by decide +kernel, by decide +kernel, by decide +kernel, by decide +kernel, by decide +kernel, by decide +kernel, by decide +kernel, by decide +kernel⟩⟩⟩

theorem wit_DescriptorsAreAcceptedAndReleased :
    (∃ (d : Dev) (e : Dev) (q : Nat) (bs : List Byte), live d = true ∧ tsyRuns d = true ∧ nextWork d = some q ∧ hwTake d q = (e, .entry bs) ∧ refuseCause { e with tsy := { e.tsy with rot := q + 1 } } (parseDesc bs) = 0 ∧ (parseDesc bs).rel = false ∧ (parseDesc bs).dep = 0 ∧ (parseDesc bs).wait = false ∧ (slotOf e (parseDesc bs).id).preFail = false) ∧
    (∃ (d : Dev) (e : Dev) (q : Nat) (c : Nat) (bs : List Byte), live d = true ∧ tsyRuns d = true ∧ nextWork d = some q ∧ hwTake d q = (e, .entry bs) ∧ refuseCause { e with tsy := { e.tsy with rot := q + 1 } } (parseDesc bs) = c ∧ c ≠ 0) ∧
    (∃ (d : Dev) (id : Nat), live d = true ∧ firstDelayed d = some (id, slotOf d id) ∧ (slotOf d id).st = .delayed ∧ (slotOf d id).relTick * 64 ≤ d.air.now ∧ (slotOf d id).dep = 0 ∧ (slotOf d id).d.wait = false ∧ (slotOf d id).failedIn = false) :=
  ⟨⟨work, (hwTake work 3).1, 3, List.replicate 64 0, ⟨by decide +kernel, by decide +kernel, by decide +kernel, by decide +kernel, by decide +kernel, by decide +kernel, by decide +kernel, by decide +kernel, by decide +kernel⟩⟩,
   ⟨ww work (Reg.TSY_POOL_CFG 0) 0, (hwTake (ww work (Reg.TSY_POOL_CFG 0) 0) 3).1, 3, 4, List.replicate 64 0, ⟨by decide +kernel, by decide +kernel, by decide +kernel, by decide +kernel, by decide +kernel, by decide +kernel⟩⟩,
   ⟨sl { Slot.reset with st := .delayed }, 5, ⟨by decide +kernel, by decide +kernel, by decide +kernel, by decide +kernel, by decide +kernel, by decide +kernel, by decide +kernel⟩⟩⟩

theorem wit_DispatchStartsTheItem :
    (∃ (d : Dev) (id : Nat) (c : Nat) (s : Slot), live d = true ∧ tsyRuns d = true ∧ nextItem d = some (id, s, c)) ∧
    (∃ (d : Dev) (id : Nat), live d = true ∧ (slotOf d id).st = .running ∧ (slotOf d id).dlRaised = none ∧ (slotOf d id).rc = false ∧ (slotOf d id).d.dl = true ∧ (slotOf d id).dlTick * 64 ≤ d.air.now) :=
  ⟨⟨tsyOn (sl { Slot.reset with st := .ready, d := { Desc.zero with arg := 2 ^ 33 + 7, argi := 9, entry := 0x400 } }), 5, 0, { Slot.reset with st := .ready, d := { Desc.zero with arg := 2 ^ 33 + 7, argi := 9, entry := 0x400 } }, ⟨by decide +kernel, by decide +kernel, by decide +kernel⟩⟩,
   ⟨sl { Slot.reset with st := .running, d := { Desc.zero with dl := true } }, 5, ⟨by decide +kernel, by decide +kernel, by decide +kernel, by decide +kernel, by decide +kernel, by decide +kernel⟩⟩⟩

theorem wit_DoneReportEndsTheItem :
    (∃ (d : Dev) (c : Nat) (st : Nat) (id : Nat) (rest : List Report), live d = true ∧ d.tsy.reports = .done c st :: rest ∧ (tcoreOf d c).st = 1 ∧ refId (tcoreOf d c).item = id ∧ refGen (tcoreOf d c).item = (slotOf d id).gen ∧ (slotOf d id).st = .running ∧ (slotOf d id).core = c ∧ (slotOf d id).rc = false ∧ (slotOf d id).d.lin = false ∧ st ≠ 0x81) :=
  ⟨setTcore { sl { Slot.reset with st := .running, d := { Desc.zero with s0en := true, succ0 := 6 } } with tsy := { (sl { Slot.reset with st := .running, d := { Desc.zero with s0en := true, succ0 := 6 } }).tsy with reports := [.done 0 0xF9] } } 0 ⟨1, 5, 0⟩, 0, 0xF9, 5, [], ⟨by decide +kernel, by decide +kernel, by decide +kernel, by decide +kernel, by decide +kernel, by decide +kernel, by decide +kernel, by decide +kernel, by decide +kernel, by decide +kernel⟩⟩

theorem wit_CancelAndMessageReachTheItem :
    (∃ (d : Dev) (v : Word) (id : Nat), live d = true ∧ id = refId (bits v.toNat 23 0) ∧ id < 131072 ∧ (slotOf d id).gen = refGen (bits v.toNat 23 0) ∧ ((slotOf d id).st = .delayed ∨ (slotOf d id).st = .blocked ∨ (slotOf d id).st = .waiting ∨ ((slotOf d id).st = .ready ∧ (slotOf d id).rc = false))) ∧
    (∃ (d : Dev) (v : Word) (id : Nat), live d = true ∧ id = refId (bits v.toNat 23 0) ∧ id < 131072 ∧ (slotOf d id).gen = refGen (bits v.toNat 23 0) ∧ (slotOf d id).st = .running) ∧
    (∃ (d : Dev) (v : Word), live d = true ∧ (slotOf d (refId (bits v.toNat 23 0))).gen ≠ refGen (bits v.toNat 23 0)) ∧
    (∃ (d : Dev) (v : BitVec 64) (id : Nat), live d = true ∧ id = refId (bits v.toNat 23 0) ∧ (slotOf d id).gen = refGen (bits v.toNat 23 0) ∧ (slotOf d id).st = .running) ∧
    (∃ (d : Dev) (v : BitVec 64), live d = true ∧ (slotOf d (refId (bits v.toNat 23 0))).st ≠ .running) :=
  ⟨⟨sl { Slot.reset with st := .delayed }, 5, 5, ⟨by decide +kernel, by decide +kernel, by decide +kernel, by decide +kernel, by decide +kernel⟩⟩,
   ⟨sl { Slot.reset with st := .running }, 5, 5, ⟨by decide +kernel, by decide +kernel, by decide +kernel, by decide +kernel, by decide +kernel⟩⟩,
   ⟨D, 0x100005, ⟨by decide +kernel, by decide +kernel⟩⟩,
   ⟨sl { Slot.reset with st := .running }, 0x1234567800000005, 5, ⟨by decide +kernel, by decide +kernel, by decide +kernel, by decide +kernel⟩⟩,
   ⟨D, 5, ⟨by decide +kernel, by decide +kernel⟩⟩⟩

theorem wit_KilledAndHaltedCoresAreReset :
    (∃ (d : Dev) (id : Nat) (at_ : Nat), live d = true ∧ (slotOf d id).dlRaised = some at_ ∧ (slotOf d id).st = .running ∧ at_ + fget d Reg.TSY_WDOG_GRACE 23 0 * 64 ≤ d.air.now ∧ rbit d (Reg.CPN_DBG_CTL (slotOf d id).core) 0 = false) ∧
    (∃ (d : Dev) (c : Nat), live d = true ∧ (tcoreOf d c).st = 2) ∧
    (∃ (d : Dev) (c : Nat), live d = true ∧ (tcoreOf d c).st = 2 ∧ (tcoreOf d c).holdEnd ≤ d.air.now) ∧
    (∃ (d : Dev) (c : Nat), live d = true ∧ (tcoreOf d c).st = 2 ∧ d.air.now < (tcoreOf d c).holdEnd) :=
  ⟨⟨later (sl { Slot.reset with st := .running, dlRaised := some 0 }), 5, 0, ⟨by decide +kernel, by decide +kernel, by decide +kernel, by decide +kernel, by decide +kernel⟩⟩,
   ⟨setTcore D 0 ⟨2, 0, 0⟩, 0, ⟨by decide +kernel, by decide +kernel⟩⟩,
   ⟨setTcore D 0 ⟨2, 0, 0⟩, 0, ⟨by decide +kernel, by decide +kernel, by decide +kernel⟩⟩,
   ⟨setTcore D 0 ⟨2, 0, 5⟩, 0, ⟨by decide +kernel, by decide +kernel, by decide +kernel⟩⟩⟩

theorem wit_RetentionAndRecompute :
    (∃ (d : Dev) (v : Word) (id : Nat), live d = true ∧ id = refId (bits v.toNat 23 0) ∧ (slotOf d id).gen = refGen (bits v.toNat 23 0) ∧ (slotOf d id).st = .running ∧ (slotOf d id).d.lin = true ∧ (slotOf d id).consDone < (slotOf d id).d.ncons) ∧
    (∃ (d : Dev) (v : Word), live d = true ∧ (slotOf d (refId (bits v.toNat 23 0))).d.lin = false) ∧
    (∃ (d : Dev) (line : Nat) (scrub : Bool) (rest : List Report), live d = true ∧ d.tsy.reports = .lineage line scrub :: rest ∧ d.integ.pass.running = false ∧ retainedOwner d line = none) ∧
    (∃ (d : Dev) (line : Nat) (id : Nat) (scrub : Bool) (rest : List Report), live d = true ∧ d.tsy.reports = .lineage line scrub :: rest ∧ d.integ.pass.running = false ∧ retainedOwner d line = some id ∧ (slotOf d id).rc = false ∧ succs (slotOf d id).d = [] ∧ (slotOf d id).reruns < fget d Reg.TSY_CTRL 9 8 ∧ d.integ.recs.length < 1024) :=
  ⟨⟨sl { Slot.reset with st := .running, d := { Desc.zero with lin := true, ncons := 1 } }, 5, 5, ⟨by decide +kernel, by decide +kernel, by decide +kernel, by decide +kernel, by decide +kernel, by decide +kernel⟩⟩,
   ⟨D, 5, ⟨by decide +kernel, by decide +kernel⟩⟩,
   ⟨{ D with tsy := { D.tsy with reports := [.lineage 0x40 false] } }, 0x40, false, [], ⟨by decide +kernel, by decide +kernel, by decide +kernel, by decide +kernel⟩⟩,
   ⟨{ D with tsy := { D.tsy with reports := [.lineage 0x40 false], slots := [(5, { Slot.reset with st := .retained, d := { Desc.zero with lin := true, outlen := 64, outbase := 0x40 } })] } }, 0x40, 5, false, [], ⟨by decide +kernel, by decide +kernel, by decide +kernel, by decide +kernel, by decide +kernel, by decide +kernel, by decide +kernel, by decide +kernel⟩⟩⟩

theorem wit_BcpCommandsRun :
    (∃ (_d : Dev) (_c : Nat) (_x : Core) (k : BcpCmd), bcpKnown (bits k.w 7 0) = true ∧ bcpFieldsOk k = false) ∧
    (∃ (_d : Dev) (_c : Nat) (_x : Core) (k : BcpCmd), bits k.w 7 0 = 0x01 ∧ bcpFieldsOk k = true) ∧
    (∃ (_d : Dev) (_c : Nat) (_x : Core) (k : BcpCmd), bits k.w 7 0 = 0x02 ∧ bcpFieldsOk k = true) ∧
    (∃ (_d : Dev) (_c : Nat) (_x : Core) (k : BcpCmd), bits k.w 7 0 = 0x03 ∧ bcpFieldsOk k = true) ∧
    (∃ (_d : Dev) (_c : Nat) (_x : Core) (k : BcpCmd), bits k.w 7 0 = 0x04 ∧ bcpFieldsOk k = true) ∧
    (∃ (d : Dev) (e : Dev) (c : Nat) (_x : Core) (k : BcpCmd), bits k.w 7 0 = 0x11 ∧ bcpFieldsOk k = true ∧ k.arg0 + ceilDiv k.arg2 8 ≤ 0x40000 ∧ scanLdm d c k.arg0 (ceilDiv k.arg2 8) = (e, none)) ∧
    (∃ (_d : Dev) (_c : Nat) (_x : Core) (k : BcpCmd), bits k.w 7 0 = 0x20 ∧ bcpFieldsOk k = true) :=
  ⟨⟨D, 0, going, kc 0x80000001 0 0 0 0, ⟨by decide +kernel, by decide +kernel⟩⟩,
   ⟨D, 0, going, kc 0x101 5 3 0 0, ⟨by decide +kernel, by decide +kernel⟩⟩,
   ⟨D, 0, { going with c := [(1, packGold (5, 9) 3)] }, kc 0x10002 0 0 0 0, ⟨by decide +kernel, by decide +kernel⟩⟩,
   ⟨D, 0, { going with c := [(1, packGold (5, 9) 3), (2, 0xFFFF)] }, kc (0x12003 + 6 * 2 ^ 20) 0 0 0 0, ⟨by decide +kernel, by decide +kernel⟩⟩,
   ⟨D, 0, { going with c := [(0, 1), (2, 0xABCD)] }, kc (0x2004 + 15 * 2 ^ 20 + 2 * 2 ^ 27) 0 0 0 0, ⟨by decide +kernel, by decide +kernel⟩⟩,
   ⟨D, (scanLdm D 0 0 2).1, 0, going, kc 0x011 0 0 9 0, ⟨by decide +kernel, by decide +kernel, by decide +kernel, by decide +kernel⟩⟩,
   ⟨D, 0, going, kc 0x20 0 0 0 0, ⟨by decide +kernel, by decide +kernel⟩⟩⟩

theorem wit_BcpStreamsHoldTheirResults :
    (∃ (d : Dev) (e : Dev) (c : Nat) (_x : Core) (k : BcpCmd) (p : Nat), bits k.w 7 0 = 0x10 ∧ bSEL k.w = 0 ∧ Moves d e c k (ceilDiv k.arg2 8) (ceilDiv k.arg2 8) true ∧ Free e (ldmBase c + k.arg1) (ceilDiv k.arg2 8) ∧ p < k.arg2) ∧
    (∃ (d : Dev) (e : Dev) (c : Nat) (_x : Core) (k : BcpCmd) (p : Nat), bits k.w 7 0 = 0x10 ∧ bSEL k.w = 1 ∧ Moves d e c k k.arg2 k.arg2 true ∧ Free e (ldmBase c + k.arg1) k.arg2 ∧ p < k.arg2) ∧
    (∃ (d : Dev) (e : Dev) (c : Nat) (_x : Core) (k : BcpCmd) (i : Nat) (j : Nat), bits k.w 7 0 = 0x12 ∧ bSEL k.w = 0 ∧ Moves d e c k (ceilDiv k.arg2 8) (ceilDiv k.arg2 8) false ∧ Free e (ldmBase c + k.arg1) (ceilDiv k.arg2 8) ∧ i < k.arg3 ∧ j < k.arg2 / k.arg3) ∧
    (∃ (d : Dev) (e : Dev) (c : Nat) (_x : Core) (k : BcpCmd) (i : Nat) (j : Nat), bits k.w 7 0 = 0x12 ∧ bSEL k.w = 3 ∧ Moves d e c k k.arg2 k.arg2 false ∧ Free e (ldmBase c + k.arg1) k.arg2 ∧ i < k.arg3 ∧ j < k.arg2 / k.arg3) ∧
    (∃ (d : Dev) (e : Dev) (f : Dev) (c : Nat) (_x : Core) (k : BcpCmd) (ncb : Nat) (k0 : Nat) (en : Nat) (fs : Nat) (fl : Nat) (p : Nat), bits k.w 7 0 = 0x13 ∧ bcpFieldsOk k = true ∧ k.arg2 + 16 ≤ 0x40000 ∧ k.arg2 % 16 = 0 ∧ scanLdm d c k.arg2 16 = (e, none) ∧ rmRecord (getBytes e.mem (ldmBase c + k.arg2) 16) = ((ncb, k0, en, fs, fl), true) ∧ moveErr k.arg0 (ceilDiv ncb 8) k.arg1 (ceilDiv en 8) false = none ∧ scanLdm e c k.arg0 (ceilDiv ncb 8) = (f, none) ∧ Free f (ldmBase c + k.arg1) (ceilDiv en 8) ∧ p < en) ∧
    (∃ (d : Dev) (e : Dev) (f : Dev) (c : Nat) (_x : Core) (k : BcpCmd) (ncb : Nat) (k0 : Nat) (en : Nat) (fs : Nat) (fl : Nat) (p : Nat), bits k.w 7 0 = 0x14 ∧ bcpFieldsOk k = true ∧ k.arg2 + 16 ≤ 0x40000 ∧ k.arg2 % 16 = 0 ∧ scanLdm d c k.arg2 16 = (e, none) ∧ rmRecord (getBytes e.mem (ldmBase c + k.arg2) 16) = ((ncb, k0, en, fs, fl), true) ∧ moveErr k.arg0 en k.arg1 ncb false = none ∧ scanLdm e c k.arg0 en = (f, none) ∧ Free f (ldmBase c + k.arg1) ncb ∧ p < ncb) ∧
    (∃ (d : Dev) (e : Dev) (c : Nat) (_x : Core) (k : BcpCmd) (p : Nat), bits k.w 7 0 = 0x15 ∧ bSEL k.w = 0 ∧ Moves d e c k k.arg2 k.arg2 true ∧ Free e (ldmBase c + k.arg1) k.arg2 ∧ p < k.arg2) ∧
    (∃ (d : Dev) (e : Dev) (c : Nat) (_x : Core) (k : BcpCmd) (p : Nat), bits k.w 7 0 = 0x15 ∧ bSEL k.w = 1 ∧ Moves d e c k (ceilDiv k.arg2 8) k.arg2 false ∧ Free e (ldmBase c + k.arg1) k.arg2 ∧ p < k.arg2) ∧
    (∃ (d : Dev) (e : Dev) (c : Nat) (_x : Core) (k : BcpCmd) (p : Nat), bits k.w 7 0 = 0x15 ∧ bSEL k.w = 2 ∧ Moves d e c k k.arg2 (ceilDiv k.arg2 8) false ∧ Free e (ldmBase c + k.arg1) (ceilDiv k.arg2 8) ∧ p < k.arg2) :=
  ⟨⟨DM, (scanLdm DM 0 0 2).1, 0, { going with c := [(1, packGold (5, 9) 3)] }, kc 0x10010 0 0 10 0, 0, ⟨by decide +kernel, by decide +kernel, by unfold Claims.Moves; decide +kernel, by unfold Claims.Free; decide +kernel, by decide +kernel⟩⟩,
   ⟨DM, (scanLdm DM 0 0 10).1, 0, { going with c := [(1, packGold (5, 9) 3)] }, kc (0x10010 + 2 ^ 27) 0 64 10 0, 0, ⟨by decide +kernel, by decide +kernel, by unfold Claims.Moves; decide +kernel, by unfold Claims.Free; decide +kernel, by decide +kernel⟩⟩,
   ⟨DM, (scanLdm DM 0 0 2).1, 0, going, kc 0x12 0 64 12 2, 0, 0, ⟨by decide +kernel, by decide +kernel, by unfold Claims.Moves; decide +kernel, by unfold Claims.Free; decide +kernel, by decide +kernel, by decide +kernel⟩⟩,
   ⟨DM, (scanLdm DM 0 0 12).1, 0, going, kc (0x12 + 3 * 2 ^ 27) 0 64 12 2, 0, 0, ⟨by decide +kernel, by decide +kernel, by unfold Claims.Moves; decide +kernel, by unfold Claims.Free; decide +kernel, by decide +kernel, by decide +kernel⟩⟩,
   ⟨DR, (scanLdm DR 0 0x100 16).1, (scanLdm (scanLdm DR 0 0x100 16).1 0 0 2).1, 0, going, kc 0x13 0 64 0x100 0, 12, 3, 16, 4, 2, 0, ⟨by decide +kernel, by decide +kernel, by decide +kernel, by decide +kernel, by decide +kernel, by decide +kernel, by decide +kernel, by decide +kernel, by unfold Claims.Free; decide +kernel, by decide +kernel⟩⟩,
   ⟨DR, (scanLdm DR 0 0x100 16).1, (scanLdm (scanLdm DR 0 0x100 16).1 0 0 16).1, 0, going, kc 0x14 0 64 0x100 0, 12, 3, 16, 4, 2, 0, ⟨by decide +kernel, by decide +kernel, by decide +kernel, by decide +kernel, by decide +kernel, by decide +kernel, by decide +kernel, by decide +kernel, by unfold Claims.Free; decide +kernel, by decide +kernel⟩⟩,
   ⟨DM, (scanLdm DM 0 0 10).1, 0, going, kc 0x15 0 0 10 0, 3, ⟨by decide +kernel, by decide +kernel, by unfold Claims.Moves; decide +kernel, by unfold Claims.Free; decide +kernel, by decide +kernel⟩⟩,
   ⟨DM, (scanLdm DM 0 0 2).1, 0, going, kc (0x15 + 2 ^ 27) 0 64 10 0, 0, ⟨by decide +kernel, by decide +kernel, by unfold Claims.Moves; decide +kernel, by unfold Claims.Free; decide +kernel, by decide +kernel⟩⟩,
   ⟨DM, (scanLdm DM 0 0 10).1, 0, going, kc (0x15 + 2 * 2 ^ 27) 0 64 10 0, 0, ⟨by decide +kernel, by decide +kernel, by unfold Claims.Moves; decide +kernel, by unfold Claims.Free; decide +kernel, by decide +kernel⟩⟩⟩

theorem wit_BcpCompletionShowsItsOutcome :
    (∃ (d : Dev) (c : Nat) (k : BcpCmd) (ks : List BcpCmd), live d = true ∧ (coreOf d c).bcp.queue = k :: ks ∧ k.begun = true ∧ (coreOf d c).doneDue = none) ∧
    (∃ (d : Dev) (c : Nat) (k : BcpCmd) (ks : List BcpCmd), live d = true ∧ (coreOf d c).bcp.queue = k :: ks ∧ k.begun = false ∧ bcpDiscards (coreOf d c) k = false ∧ bcpKnown (bits k.w 7 0) = false ∧ (coreOf d c).doneDue = none) ∧
    (∃ (_x : Core) (k : BcpCmd), (bits k.w 7 0 = 0x20 ∨ bits k.w 7 0 = 0x21) ∧ k.rst = none) ∧
    (∃ (_x : Core) (k : BcpCmd) (v : Nat) (i : Nat), k.res = [(i, v)]) ∧
    (∃ (_x : Core) (k : BcpCmd) (a0 : Nat) (a1 : Nat) (a2 : Nat) (a3 : Nat) (e : Nat) (ec : Nat), k.rst = some [a0, a1, a2, a3, e, ec]) :=
  ⟨⟨onCore (qcore { kc 0x101 0 0 0 0 with begun := true, res := [(1, 7)] } 0), 0, { kc 0x101 0 0 0 0 with begun := true, res := [(1, 7)] }, [], ⟨by decide +kernel, by decide +kernel, by decide +kernel, by decide +kernel⟩⟩,
   ⟨onCore (qcore (kc 0xFF 0 0 0 0) 0), 0, kc 0xFF 0 0 0 0, [], ⟨by decide +kernel, by decide +kernel, by decide +kernel, by decide +kernel, by decide +kernel, by decide +kernel⟩⟩,
   ⟨qcore (kc 0x20 0 0 0 0) 5, kc 0x20 0 0 0 0, ⟨by decide +kernel, by decide +kernel⟩⟩,
   ⟨going, { kc 0x101 0 0 0 0 with res := [(1, 2 ^ 128 + 7)] }, 2 ^ 128 + 7, 1, by decide +kernel⟩,
   ⟨going, { kc 0x22 0 0 0 0 with rst := some [1, 2, 3, 4, 5, 6] }, 1, 2, 3, 4, 5, 6, by decide +kernel⟩⟩

theorem wit_GoldSequenceFollowsItsRecurrences :
    (∃ (s : Nat × Nat) (_n : Nat) (i : Nat), i < 31 ∧ s.1 < 2 ^ 31 ∧ s.2 < 2 ^ 31) ∧
    (∃ (s : Nat × Nat) (_n : Nat), s.1 < 2 ^ 31 ∧ s.2 < 2 ^ 31) ∧
    (∃ (c0 : Nat) (_k : Nat) (n : Nat) (j : Nat), c0 < 2 ^ 31 ∧ j < n) ∧
    (∃ (c0 : Nat) (_k : Nat) (_n : Nat), c0 < 2 ^ 31) :=
  ⟨⟨(0x7FFFFFFF, 0x12345678), 0, 0, ⟨by decide +kernel, by decide +kernel, by decide +kernel⟩⟩,
   ⟨(0x7FFFFFFF, 0x12345678), 0, ⟨by decide +kernel, by decide +kernel⟩⟩,
   ⟨0, 0, 1, 0, ⟨by decide +kernel, by decide +kernel⟩⟩,
   ⟨0, 0, 1, by decide +kernel⟩⟩

theorem wit_CrcPassesExactlyTheRightParity :
    (∃ (sel : Nat) (_block : List Bool) (parity : List Bool), sel ≤ 5 ∧ parity.length = crcLen sel) ∧
    (∃ (sel : Nat) (_cd : Nat) (_as : List Bool) (_bs : List Bool), sel ≤ 5) ∧
    (∃ (sel : Nat) (_cd : Nat) (_as : List Bool), sel ≤ 5) :=
  ⟨⟨0, ((List.range 37).map (fun i => (0x1B3D5F7913 : Nat).testBit i)), ((List.range (crcLen 0)).map (fun j => (crcState 0 0 ((List.range 37).map (fun i => (0x1B3D5F7913 : Nat).testBit i))).testBit j)), ⟨by decide +kernel, by decide +kernel⟩⟩,
   ⟨0, 2 ^ 40 + 12345, [true, false, true], [false, true], by decide +kernel⟩,
   ⟨0, 2 ^ 40 + 12345, [], by decide +kernel⟩⟩

/-- A FILL of an event count of Tansy. -/
def XR : Xfer := { Xfer.zero with fill := true, sstr := 0x1234, dst := Reg.TSY_EVENT_CNT 9, rlen := 4, nrows := 1 }
def DXR : Dev := setDma D 0 { Dma.reset with q := [XR] }

theorem wit_DmaMovesAndReportsTransfers :
    (∃ (d : Dev) (c : Nat) (_v : BitVec 64), live d = true ∧ corePresent d.grade c = true ∧ (dmaOf d c).q.length < 16) ∧
    (∃ (d : Dev) (c : Nat) (_v : BitVec 64), live d = true ∧ corePresent d.grade c = true ∧ 16 ≤ (dmaOf d c).q.length) ∧
    (∃ (d : Dev) (_c : Nat), live d = true) ∧
    (∃ (d : Dev) (c : Nat) (t : Xfer) (ts : List Xfer), live d = true ∧ dmaOf d c = { Dma.reset with q := t :: ts } ∧ t.abort = false ∧ dmaBad d.grade t = true) ∧
    (∃ (d : Dev) (e : Dev) (f : Dev) (c : Nat) (t : Xfer) (ts : List Xfer), live d = true ∧ dmaOf d c = { Dma.reset with q := t :: ts } ∧ t.abort = false ∧ dmaBad d.grade t = false ∧ t.fill = false ∧ t.nrows = 1 ∧ t.src % 64 = 0 ∧ t.dst % 64 = 0 ∧ t.rlen = 64 ∧ t.src < 2 ^ 48 ∧ t.dst < 2 ^ 48 ∧ asleep d t.src = none ∧ asleep d t.dst = none ∧ dmaShut d t.src 64 false = false ∧ isReg t.src = false ∧ dmaShut e t.dst 64 true = false ∧ isReg t.dst = false ∧ decideLine d t.src false = (e, .ok) ∧ cohHeld e t.dst = false ∧ memWrite e t.dst (getBytes e.mem t.src 64) [] [synOf e t.src] = some f) ∧
    (∃ (d e : Dev) (c : Nat) (t : Xfer) (ts : List Xfer), live d = true ∧ dmaOf d c = { Dma.reset with q := t :: ts } ∧ t.abort = false ∧ dmaBad d.grade t = false ∧ t.fill = true ∧ t.nrows = 1 ∧ t.rlen = 4 ∧ t.dst % 4 = 0 ∧ t.dst < 2 ^ 48 ∧ isReg t.dst = true ∧ asleep d t.dst = none ∧ dmaShut d t.dst 4 true = false ∧ serveWrite d (.dma (c / 8)) t.dst (toBytes 4 t.sstr) [] [] = (e, some 0) ∧ (dmaOf e c).q = t :: ts) ∧
    (∃ (d : Dev) (c : Nat) (t : Xfer) (ts : List Xfer), live d = true ∧ (dmaOf d c).q = t :: ts ∧ (dmaOf d c).run = true ∧ (dmaOf d c).ended = true ∧ c < 256 ∧ t.tag < 2 ^ 16 ∧ (dmaOf d c).status < 6) :=
  ⟨⟨D, 0, 0x12345, ⟨by decide +kernel, by decide +kernel, by decide +kernel⟩⟩,
   ⟨setDma D 0 { Dma.reset with q := List.replicate 16 Xfer.zero }, 0, 5, ⟨by decide +kernel, by decide +kernel, by decide +kernel⟩⟩,
   ⟨setDma D 0 { Dma.reset with q := [Xfer.zero] }, 0, by decide +kernel⟩,
   ⟨setDma D 0 { Dma.reset with q := [Xfer.zero] }, 0, Xfer.zero, [], ⟨by decide +kernel, by decide +kernel, by decide +kernel, by decide +kernel⟩⟩,
   ⟨DX, (decideLine DX 0 false).1, (memWrite (decideLine DX 0 false).1 0x1000000040 (getBytes (decideLine DX 0 false).1.mem 0 64) [] [synOf (decideLine DX 0 false).1 0]).getD D, 0, { Xfer.zero with src := 0, dst := 0x1000000040, rlen := 64, nrows := 1 }, [], ⟨by decide +kernel, by decide +kernel, by decide +kernel, by decide +kernel, by decide +kernel, by decide +kernel, by decide +kernel, by decide +kernel, by decide +kernel, by decide +kernel, by decide +kernel, by decide +kernel, by decide +kernel, by decide +kernel, by decide +kernel, by decide +kernel, by decide +kernel, by decide +kernel, by decide +kernel, by decide +kernel⟩⟩,
   ⟨DXR, (serveWrite DXR (.dma 0) (Reg.TSY_EVENT_CNT 9) (toBytes 4 0x1234) [] []).1, 0, XR, [], ⟨by decide +kernel, by decide +kernel, by decide +kernel, by decide +kernel, by decide +kernel, by decide +kernel, by decide +kernel, by decide +kernel, by decide +kernel, by decide +kernel, by decide +kernel, by decide +kernel, by decide +kernel, by decide +kernel⟩⟩,
   ⟨setDma D 0 { Dma.reset with q := [{ Xfer.zero with irq := true, ntEn := true, ntEv := false, notify := 0xFFFFFF, tag := 65535 }], run := true, ended := true, status := 0, npois := 3 }, 0, { Xfer.zero with irq := true, ntEn := true, ntEv := false, notify := 0xFFFFFF, tag := 65535 }, [], ⟨by decide +kernel, by decide +kernel, by decide +kernel, by decide +kernel, by decide +kernel, by decide +kernel, by decide +kernel⟩⟩⟩

end Sys2Proof.Tests.W4

/-! ## Witnesses: DMA -/

namespace Sys2Proof.Tests.W7
open Sys2Proof Sys2Proof.Machine Sys2Proof.Safety Sys2Proof.Claims

def D : Dev := Dev.reset
def pll (src st : Nat) : Dev := fset (fset D Reg.AIR_CTRL 1 0 src) Reg.AIR_STATUS 1 0 st
def com (st b now : Nat) : Dev := let d := wr64 (fset D Reg.AIR_COMMIT_STATUS 1 0 st) Reg.AIR_COMMIT_AT b; { d with air := { d.air with now := now } }
def snp (st b now : Nat) (taken : Bool) : Dev := let d := wr64 (fset D Reg.AIR_SNAP_STATUS 1 0 st) Reg.AIR_SNAP_AT b; { d with air := { d.air with now := now, snTaken := taken, sn := ⟨b, true, some false, none⟩ } }

theorem wit_AirTimeFollowsItsSource :
    (∃ (d : Dev), live d = true ∧ pllState d = 1) ∧
    (∃ (d : Dev), live d = true ∧ (airSrc d = 1 ∨ airSrc d = 2) ∧ pllState d = 2) ∧
    (∃ (d : Dev), live d = true ∧ (airSrc d = 1 ∨ airSrc d = 2)) ∧
    (∃ (d : Dev), live d = true) ∧
    (∃ (d : Dev), live d = true) ∧
    (∃ (d : Dev) (_v : Word), live d = true) ∧
    (∃ (d : Dev) (odd : Bool) (t : Nat), live d = true ∧ rbit d Reg.AIR_CTRL 8 = true ∧ t = d.air.now + (if odd then 1 else 0) ∧ t < 2 ^ 64 ∧ 2 * (t % 1966080000) ≠ 1966080000) ∧
    (∃ (d : Dev) (_v : BitVec 64), live d = true ∧ rbit d Reg.AIR_CTRL 10 = false) ∧
    (∃ (d : Dev) (_v : BitVec 64), live d = true ∧ rbit d Reg.AIR_CTRL 10 = true ∧ (comState d = 2 ∨ snState d = 2) ∧ d.air.pendStep = none) ∧
    (∃ (d : Dev) (v : BitVec 64), live d = true ∧ rbit d Reg.AIR_CTRL 10 = true ∧ comState d ≠ 2 ∧ snState d ≠ 2 ∧ d.air.pendStep = none ∧ v.toInt ≤ 0 ∧ v.toInt % 2 = 0 ∧ -v.toInt ≤ d.air.now ∧ d.air.now < 2 ^ 64) ∧
    (∃ (d : Dev) (n : Nat), live d = true ∧ n < 8 ∧ (toutOf d n).holdEnd = none ∧ (toutOf d n).notBefore = 0 ∧ 0 < rw d (Reg.AIR_TOUT_PERIOD n)) ∧
    (∃ (d : Dev), live d = true ∧ (toutOf d 8).holdEnd = none ∧ (toutOf d 8).notBefore = 0 ∧ 2 * 1966080000 ≤ d.air.now) :=
  ⟨⟨pll 1 1, ⟨by decide +kernel, by decide +kernel⟩⟩,
   ⟨pll 1 2, ⟨by decide +kernel, by decide +kernel, by decide +kernel⟩⟩,
   ⟨pll 2 3, ⟨by decide +kernel, by decide +kernel⟩⟩,
   ⟨D, by decide +kernel⟩,
   ⟨{ D with pwr := { D.pwr with refLost := true } }, by decide +kernel⟩,
   ⟨D, 0xFFFFFFFF, by decide +kernel⟩,
   ⟨{ ww D Reg.AIR_CTRL 256 with air := { D.air with now := 100 } }, true, 101, ⟨by decide +kernel, by decide +kernel, by decide +kernel, by decide +kernel, by decide +kernel⟩⟩,
   ⟨D, 5, ⟨by decide +kernel, by decide +kernel⟩⟩,
   ⟨{ sbit (com 2 0 0) Reg.AIR_CTRL 10 with air := { (com 2 0 0).air with pendStep := none } }, 7, ⟨by decide +kernel, by decide +kernel, by decide +kernel, by decide +kernel⟩⟩,
   ⟨{ sbit (com 1 0 0) Reg.AIR_CTRL 10 with air := { (com 1 0 0).air with now := 4 } }, -4, ⟨by decide +kernel, by decide +kernel, by decide +kernel, by decide +kernel, by decide +kernel, by decide +kernel, by decide +kernel, by decide +kernel, by decide +kernel⟩⟩,
   ⟨let d := ww (ww (ww (ww D (Reg.AIR_TOUT_CTRL 7) 1) (Reg.AIR_TOUT_PERIOD 7) 8) (Reg.AIR_TOUT_OFFSET 7) 4) (Reg.AIR_TOUT_WIDTH 7) 4; { d with air := { d.air with now := 0 } }, 7, ⟨by decide +kernel, by decide +kernel, by decide +kernel, by decide +kernel, by decide +kernel⟩⟩,
   ⟨let d := ww D Reg.AIR_PPSO_CFG 0xFFFFFA03; { d with air := { d.air with now := 3932160000 } }, ⟨by decide +kernel, by decide +kernel, by decide +kernel, by decide +kernel⟩⟩⟩

theorem wit_CommitRequestsAreSettled :
    (∃ (d : Dev) (v : Word), live d = true ∧ comState d = 0 ∧ snState d = 0 ∧ v.toNat % 4 ≠ 3) ∧
    (∃ (d : Dev) (_v : Word), live d = true ∧ (comState d ≠ 0 ∨ snState d ≠ 0)) ∧
    (∃ (d : Dev) (_persist : Bool) (_clr : Bool), live d = true ∧ comState d = 0 ∧ d.air.now < 2 ^ 63) ∧
    (∃ (d : Dev) (_persist : Bool) (_clr : Bool), live d = true ∧ comState d = 1) ∧
    (∃ (d : Dev) (_persist : Bool) (_clr : Bool), live d = true ∧ comState d = 2 ∧ d.air.comQueued = none) ∧
    (∃ (d : Dev) (_persist : Bool) (_clr : Bool), live d = true ∧ comState d = 0 ∧ snState d = 0 ∧ d.air.now < 2 ^ 63) ∧
    (∃ (d : Dev) (_persist : Bool) (_clr : Bool), live d = true ∧ isBoundary (gridOf d) (rd64 d Reg.AIR_COMMIT_TARGET) = false) ∧
    (∃ (d : Dev) (_persist : Bool) (_clr : Bool), live d = true ∧ isBoundary (gridOf d) (rd64 d Reg.AIR_COMMIT_TARGET) = true ∧ rd64 d Reg.AIR_COMMIT_TARGET ≤ d.air.now + 4096) ∧
    (∃ (d : Dev) (_persist : Bool) (_clr : Bool), live d = true ∧ isBoundary (gridOf d) (rd64 d Reg.AIR_COMMIT_TARGET) = true ∧ d.air.now + 4096 < rd64 d Reg.AIR_COMMIT_TARGET ∧ comState d = 0) ∧
    (∃ (d : Dev) (_persist : Bool) (_clr : Bool), live d = true ∧ isBoundary (gridOf d) (rd64 d Reg.AIR_COMMIT_TARGET) = true ∧ d.air.now + 4096 < rd64 d Reg.AIR_COMMIT_TARGET ∧ comState d = 1 ∧ comB d ≠ rd64 d Reg.AIR_COMMIT_TARGET) ∧
    (∃ (d : Dev), live d = true ∧ comState d = 0) ∧
    (∃ (d : Dev), live d = true ∧ comState d = 1 ∧ d.air.sn.com = none ∧ d.air.snQueued = none) ∧
    (∃ (d : Dev), live d = true ∧ comState d = 2 ∧ d.air.comQueued = none) :=
  ⟨⟨D, 0, ⟨by decide +kernel, by decide +kernel, by decide +kernel, by decide +kernel⟩⟩,
   ⟨com 1 0 0, 1, ⟨by decide +kernel, by decide +kernel⟩⟩,
   ⟨{ fset D Reg.AIR_COMMIT_GRID 1 0 0 with air := { D.air with now := 983040*5 + 492032 - 4096 } }, true, true, ⟨by decide +kernel, by decide +kernel, by decide +kernel⟩⟩,
   ⟨com 1 0 0, true, true, ⟨by decide +kernel, by decide +kernel⟩⟩,
   ⟨com 2 (10 * 1966080) 5, true, false, ⟨by decide +kernel, by decide +kernel, by decide +kernel⟩⟩,
   ⟨D, true, true, ⟨by decide +kernel, by decide +kernel, by decide +kernel, by decide +kernel⟩⟩,
   ⟨wr64 D Reg.AIR_COMMIT_TARGET 7, true, false, ⟨by decide +kernel, by decide +kernel⟩⟩,
   ⟨D, false, false, ⟨by decide +kernel, by decide +kernel, by decide +kernel⟩⟩,
   ⟨wr64 D Reg.AIR_COMMIT_TARGET (2^40 * 1966080), true, false, ⟨by decide +kernel, by decide +kernel, by decide +kernel, by decide +kernel⟩⟩,
   ⟨wr64 (com 1 0 0) Reg.AIR_COMMIT_TARGET 1966080, true, true, ⟨by decide +kernel, by decide +kernel, by decide +kernel, by decide +kernel, by decide +kernel⟩⟩,
   ⟨{ D with staged := [(Reg.AIR_TOUT_PERIOD 0, 8)] }, ⟨by decide +kernel, by decide +kernel⟩⟩,
   ⟨{ com 1 0 0 with staged := [(Reg.AIR_TOUT_PERIOD 0, 8)] }, ⟨by decide +kernel, by decide +kernel, by decide +kernel, by decide +kernel⟩⟩,
   ⟨{ com 2 0 0 with staged := [(Reg.AIR_TOUT_PERIOD 0, 8)] }, ⟨by decide +kernel, by decide +kernel, by decide +kernel⟩⟩⟩

theorem wit_CommitsApplyWhollyOrNotAtAll :
    (∃ (d : Dev), live d = true ∧ comState d = 1 ∧ comB d ≤ d.air.now + 4096) ∧
    (∃ (d : Dev), live d = true ∧ comState d = 2 ∧ d.air.decided = none ∧ comB d ≤ d.air.now + 1024 ∧ d.air.armFail = []) ∧
    (∃ (d : Dev) (missing : List Nat), live d = true ∧ comState d = 2 ∧ d.air.decided = none ∧ comB d ≤ d.air.now + 1024 ∧ missing ++ d.air.armFail ≠ [] ∧ (∀ m ∈ missing ++ d.air.armFail, m < 64)) ∧
    (∃ (d : Dev) (n : Nat) (v : Word), live d = true ∧ comState d = 2 ∧ d.air.decided = some true ∧ d.air.applied = false ∧ comB d ≤ d.air.now ∧ d.air.sn.b ≠ comB d ∧ n < 8 ∧ d.latch = [(Reg.AIR_TOUT_PERIOD n, v.toNat)]) ∧
    (∃ (d : Dev), live d = true ∧ comState d = 2 ∧ d.air.decided = some true ∧ d.air.applied = true ∧ comB d + 1024 ≤ d.air.now ∧ d.air.comQueued = none ∧ d.air.comPersist = false ∧ d.fw.waits = [] ∧ d.air.pendStep = none) ∧
    (∃ (d : Dev), live d = true ∧ comState d = 2 ∧ d.air.decided = some false ∧ comB d + 1024 ≤ d.air.now ∧ d.staged = [] ∧ d.air.comQueued = none ∧ d.fw.waits = [] ∧ d.air.pendStep = none) ∧
    (∃ (d : Dev) (q : ComReq), live d = true ∧ comState d = 2 ∧ d.air.decided = some true ∧ d.air.applied = true ∧ comB d + 1024 ≤ d.air.now ∧ d.air.comQueued = some q ∧ d.air.comPersist = false ∧ d.fw.waits = [] ∧ d.air.pendStep = none ∧ q.b < 2 ^ 64) :=
  ⟨⟨{ com 1 4096 0 with staged := [(Reg.AIR_TOUT_PERIOD 0, 7), (Reg.AIR_TOUT_CTRL 0, 1)] }, ⟨by decide +kernel, by decide +kernel, by decide +kernel⟩⟩,
   ⟨com 2 1024 0, ⟨by decide +kernel, by decide +kernel, by decide +kernel, by decide +kernel, by decide +kernel⟩⟩,
   ⟨{ com 2 1024 0 with air := { (com 2 1024 0).air with armFail := [61] } }, [63, 5], ⟨by decide +kernel, by decide +kernel, by decide +kernel, by decide +kernel, by decide +kernel, by decide +kernel⟩⟩,
   ⟨{ com 2 100 100 with latch := [(Reg.AIR_TOUT_PERIOD 7, 8)], air := { (com 2 100 100).air with decided := some true } }, 7, 8, ⟨by decide +kernel, by decide +kernel, by decide +kernel, by decide +kernel, by decide +kernel, by decide +kernel, by decide +kernel, by decide +kernel⟩⟩,
   ⟨{ sbit (com 2 0 1024) Reg.AIR_CTRL 11 with air := { (com 2 0 1024).air with decided := some true, applied := true } }, ⟨by decide +kernel, by decide +kernel, by decide +kernel, by decide +kernel, by decide +kernel, by decide +kernel, by decide +kernel, by decide +kernel, by decide +kernel⟩⟩,
   ⟨{ com 2 0 1024 with latch := [(Reg.AIR_TOUT_PERIOD 7, 8)], air := { (com 2 0 1024).air with decided := some false } }, ⟨by decide +kernel, by decide +kernel, by decide +kernel, by decide +kernel, by decide +kernel, by decide +kernel, by decide +kernel, by decide +kernel⟩⟩,
   ⟨{ com 2 0 1024 with air := { (com 2 0 1024).air with decided := some true, applied := true, comQueued := some ⟨2 ^ 63, true, true⟩ } }, ⟨2 ^ 63, true, true⟩, ⟨by decide +kernel, by decide +kernel, by decide +kernel, by decide +kernel, by decide +kernel, by decide +kernel, by decide +kernel, by decide +kernel, by decide +kernel, by decide +kernel⟩⟩⟩

theorem wit_SnapshotsCopyAtTheBoundary :
    (∃ (d : Dev) (_clr : Bool), live d = true ∧ snState d = 0 ∧ d.air.now < 2 ^ 63) ∧
    (∃ (d : Dev) (_clr : Bool), live d = true ∧ snState d = 0 ∧ isBoundary (gridOf d) (rd64 d Reg.AIR_SNAP_TARGET) = true ∧ d.air.now + 4096 < rd64 d Reg.AIR_SNAP_TARGET) ∧
    (∃ (d : Dev) (_clr : Bool), live d = true ∧ isBoundary (gridOf d) (rd64 d Reg.AIR_SNAP_TARGET) = false) ∧
    (∃ (d : Dev), live d = true ∧ snState d = 1 ∧ d.air.sn.b ≤ d.air.now + 4096) ∧
    (∃ (d : Dev), live d = true ∧ snState d = 2 ∧ d.air.snTaken = false ∧ d.air.sn.b ≤ d.air.now ∧ d.air.sn.own ≠ some true ∧ d.air.sn.com ≠ some true) ∧
    (∃ (d : Dev), live d = true ∧ snState d = 2 ∧ d.air.snTaken = false ∧ d.air.sn.b ≤ d.air.now ∧ (d.air.sn.own = some true ∨ d.air.sn.com = some true)) ∧
    (∃ (d : Dev), live d = true ∧ snState d = 2 ∧ d.air.snTaken = true ∧ d.air.sn.b + 1024 ≤ d.air.now ∧ d.air.snQueued = none ∧ d.air.pendStep = none) :=
  ⟨⟨D, true, ⟨by decide +kernel, by decide +kernel, by decide +kernel⟩⟩,
   ⟨wr64 D Reg.AIR_SNAP_TARGET 1966080, true, ⟨by decide +kernel, by decide +kernel, by decide +kernel, by decide +kernel⟩⟩,
   ⟨wr64 D Reg.AIR_SNAP_TARGET 7, false, ⟨by decide +kernel, by decide +kernel⟩⟩,
   ⟨snp 1 4096 0 false, ⟨by decide +kernel, by decide +kernel, by decide +kernel⟩⟩,
   ⟨ww (snp 2 0 0 false) Reg.QMG_CNT_VOID 9, ⟨by decide +kernel, by decide +kernel, by decide +kernel, by decide +kernel, by decide +kernel, by decide +kernel⟩⟩,
   ⟨let d := ww (snp 2 0 0 false) Reg.QMG_CNT_VOID 9; { d with air := { d.air with sn := ⟨0, true, some true, none⟩ } }, ⟨by decide +kernel, by decide +kernel, by decide +kernel, by decide +kernel, by decide +kernel⟩⟩,
   ⟨snp 2 0 1024 true, ⟨by decide +kernel, by decide +kernel, by decide +kernel, by decide +kernel, by decide +kernel, by decide +kernel⟩⟩⟩

end Sys2Proof.Tests.W7

/-! ## Witnesses: engines and front end -/

namespace Sys2Proof.Tests.W8
open Sys2Proof Sys2Proof.Machine Sys2Proof.Safety Sys2Proof.Claims

def D : Dev := Dev.reset
def words (l : List Nat) : List Byte := l.flatMap (toBytes 8)
def job (kind j : Nat) (x : List Byte) (r : Option JobRes) (d : Dev) : Dev := setEng d (engKey kind j) { engOf d (engKey kind j) with job := some ⟨x, r⟩ }
def polX : List Byte := words [0, 0, 0x1000000000, 0x1000000100, 18 + 18 * 2 ^ 32, 0, 0, 0]
def turX : List Byte := words [0, 0, 0x1000000000, 0x1000000100, 0x1000000200, 0x1000000300, 40 + 2 ^ 21 + 8 * 2 ^ 32, 1 + 2 ^ 20]
def ifftX : List Byte := words [2, 0, 0x1000000000 + 1 * 2 ^ 48, 0x1000010000 + 8 * 2 ^ 48, 128, 0, 2 ^ 45, 0]
def scanX : List Byte := words [0x20, 0, 0x1000000000, 8, 64, 0, 0, 0]
def fen (l : List (Nat × Nat)) : Dev := (l.foldl (fun d e => ww d e.1 e.2) D)
def gl (x : Gl) : Dev := setGl (fen [(Reg.FEN_CTRL, 3), (Reg.FEN_GL_CFG 5, 1)]) 5 x
def wt (b w ctl : Nat) (y : Win) (now : Nat) : Dev :=
  let d := fen [(Reg.FEN_CTRL, 3), (Reg.FEN_BF_CTL b w, 1 + ctl + 5 * 16), (Reg.FEN_BF_WLEN b w, 10), (Reg.FEN_BF_WPERIOD b w, 20), (Reg.FEN_BF_REGION b w, 100 * 65536), (Reg.FEN_BF_FREEZE b w, 7), (Reg.FEN_BF_P0 b w, if bit ctl 1 then 0xFF else 1), (Reg.FEN_BF_P1 b w, if bit ctl 1 then 0 else 4), (Reg.FEN_BF_P2 b w, if bit ctl 1 then 7 + 65536 else 65536 + 1)]
  { setWatch d b w ⟨0, 0, [(0, y)]⟩ with air := { d.air with now := now } }
def ss : List Smp := (List.range 9).map (fun i => ⟨i, -100, 3⟩)
def y0 : Win := { Win.reset with seqs := [(0, ss)] }

theorem pair_none {x : Dev × Option Nat} (h : x.2 = none) : x = (x.1, none) := Prod.ext rfl h

theorem fftPart_small (x y : List Byte) (i : Nat) : (fftPart x y i 0 0).2 = false := by
  have h0 : convQ 0 (2 ^ (40 + 0)) = 0 := by decide +kernel
  have h2 : (((2 : Nat) ^ (16 - 1) : Nat) : Int) = 32768 := by decide
  unfold fftPart sat
  rw [h0, h2]
  generalize hz : Config.job x y i % 7 = z
  have h1 : 0 ≤ z ∧ z < 7 := by rw [← hz]; omega
  simp only [decide_eq_false_iff_not, Classical.not_not]
  repeat' split
  all_goals omega

theorem isEngRow_fft : IsEngRow ⟨.fft, 0, some 1, fftPlan⟩ := List.mem_cons_self
theorem isEngRow_polarEncode : IsEngRow ⟨.polarEncode, 4, none, polarEncPlan⟩ := by
  unfold IsEngRow; repeat' (first | exact List.mem_cons_self | apply List.mem_cons_of_mem)
theorem isHarqRow_turboDecode : IsHarqRow ⟨.turboDecode, 5, turboPlan⟩ := List.mem_cons_of_mem _ List.mem_cons_self

def badX : List Byte := toBytes 2 1 ++ List.replicate 62 1

theorem wit_EngineJobsRun_bad : ∃ (r : EngRow) (d : Dev) (j : Nat) (x : List Byte), IsEngRow r ∧ r.waits d j x ∧ (r.plan x).1 ≠ 0 :=
  ⟨_, job 0 2 badX none D, 2, badX, isEngRow_fft, ⟨by decide +kernel, by decide +kernel, by intro o h; cases h; decide +kernel⟩,
   by decide +kernel⟩

theorem wit_EngineJobsRun_inErr : ∃ (r : EngRow) (d e : Dev) (j a : Nat) (x : List Byte), IsEngRow r ∧ r.waits d j x ∧
    (r.plan x).1 = 0 ∧ readAll d (r.plan x).2.1 = (e, .err a) :=
  ⟨_, job 4 2 polX none (poison D 0x1000000000), (readAll (job 4 2 polX none (poison D 0x1000000000)) (polarEncPlan polX).2.1).1, 2,
    0x1000000000, polX, isEngRow_polarEncode, ⟨by decide +kernel, by decide +kernel, by intro o h; cases h⟩, by decide +kernel,
    by decide +kernel⟩

theorem done_of (r : EngRow) (d : Dev) (j : Nat) (x bs : List Byte) (hr : IsEngRow r) (hw : r.waits d j x) (h0 : (r.plan x).1 = 0)
    (hb : (readAll d (r.plan x).2.1).2 = .bytes bs)
    (ho : (writeOut (readAll d (r.plan x).2.1).1 (engKey r.kind j) (((r.plan x).2.2 bs).outs.flatMap (fun o => outLines o.1 o.2))).2 = none) :
    ∃ (r : EngRow) (d e f : Dev) (j : Nat) (x bs : List Byte), IsEngRow r ∧ r.waits d j x ∧
    (r.plan x).1 = 0 ∧ readAll d (r.plan x).2.1 = (e, .bytes bs) ∧
    writeOut e (engKey r.kind j) (((r.plan x).2.2 bs).outs.flatMap (fun o => outLines o.1 o.2)) = (f, none) :=
  ⟨r, d, _, _, j, x, bs, hr, hw, h0, Prod.ext rfl hb, pair_none ho⟩

theorem wit_EngineJobsRun_done : ∃ (r : EngRow) (d e f : Dev) (j : Nat) (x bs : List Byte), IsEngRow r ∧ r.waits d j x ∧
    (r.plan x).1 = 0 ∧ readAll d (r.plan x).2.1 = (e, .bytes bs) ∧
    writeOut e (engKey r.kind j) (((r.plan x).2.2 bs).outs.flatMap (fun o => outLines o.1 o.2)) = (f, none) :=
  done_of _ (job 4 2 polX none D) 2 polX [0, 0, 0] isEngRow_polarEncode
     ⟨by decide +kernel, by decide +kernel, by intro o h; cases h⟩ (by decide +kernel) (by decide +kernel) (by decide +kernel)

theorem wit_EngineJobsRun_harqBad : ∃ (r : HarqRow) (d : Dev) (j : Nat) (x : List Byte), IsHarqRow r ∧ live d = true ∧
      (engOf d (engKey r.kind j)).job = some ⟨x, none⟩ ∧ (r.plan d.grade x).1 ≠ 0 :=
  ⟨_, job 5 2 badX none D, 2, badX, isHarqRow_turboDecode, by decide +kernel, by decide +kernel, by decide +kernel⟩

theorem harq_of (r : HarqRow) (d : Dev) (j : Nat) (x bs hb : List Byte) (hr : IsHarqRow r) (hl : live d = true)
    (hj : (engOf d (engKey r.kind j)).job = some ⟨x, none⟩) (h0 : (r.plan d.grade x).1 = 0)
    (h1 : (readIn d (r.plan d.grade x).2.1.inA (r.plan d.grade x).2.1.nIn).2 = .bytes bs)
    (h2 : (readHq (readIn d (r.plan d.grade x).2.1.inA (r.plan d.grade x).2.1.nIn).1 (r.plan d.grade x).2.1.skip
      (if (r.plan d.grade x).2.1.rd then hqLines (r.plan d.grade x).2.1.hin (r.plan d.grade x).2.1.ncb else [])).2 = .got hb false)
    (h3 : let h := (r.plan d.grade x).2.1
       let c := combine ((r.plan d.grade x).2.2.1 bs) (hb.map softIn) h.rd
       let o := (r.plan d.grade x).2.2.2 c.1
       (writeOut (readHq (readIn d h.inA h.nIn).1 h.skip (if h.rd then hqLines h.hin h.ncb else [])).1 (engKey r.kind j)
         (outLines h.outA (packBits o.1) ++ (if h.wr then outLines h.hout (putSoft c.1) else []))).2 = none) :
    ∃ (r : HarqRow) (d e f g : Dev) (j : Nat) (x bs hb : List Byte) (lost : Bool), IsHarqRow r ∧
    live d = true ∧ (engOf d (engKey r.kind j)).job = some ⟨x, none⟩ ∧ (r.plan d.grade x).1 = 0 ∧
      (let h := (r.plan d.grade x).2.1
       let c := combine ((r.plan d.grade x).2.2.1 bs) (hb.map softIn) h.rd
       let o := (r.plan d.grade x).2.2.2 c.1
       readIn d h.inA h.nIn = (e, .bytes bs) ∧ readHq e h.skip (if h.rd then hqLines h.hin h.ncb else []) = (f, .got hb lost) ∧
       writeOut f (engKey r.kind j) (outLines h.outA (packBits o.1) ++ (if h.wr then outLines h.hout (putSoft c.1) else [])) = (g, none)) :=
  ⟨r, d, _, _, _, j, x, bs, hb, false, hr, hl, hj, h0, Prod.ext rfl h1, Prod.ext rfl h2, pair_none h3⟩

theorem wit_EngineJobsRun_harqDone : ∃ (r : HarqRow) (d e f g : Dev) (j : Nat) (x bs hb : List Byte) (lost : Bool), IsHarqRow r ∧
    live d = true ∧ (engOf d (engKey r.kind j)).job = some ⟨x, none⟩ ∧ (r.plan d.grade x).1 = 0 ∧
      (let h := (r.plan d.grade x).2.1
       let c := combine ((r.plan d.grade x).2.2.1 bs) (hb.map softIn) h.rd
       let o := (r.plan d.grade x).2.2.2 c.1
       readIn d h.inA h.nIn = (e, .bytes bs) ∧ readHq e h.skip (if h.rd then hqLines h.hin h.ncb else []) = (f, .got hb lost) ∧
       writeOut f (engKey r.kind j) (outLines h.outA (packBits o.1) ++ (if h.wr then outLines h.hout (putSoft c.1) else [])) = (g, none)) :=
  harq_of _ (job 5 2 turX none D) 2 turX ([0]) [] isHarqRow_turboDecode (by decide +kernel) (by decide +kernel)
    (by decide +kernel) (by decide +kernel) (by decide +kernel) (by decide +kernel)

theorem wit_EngineJobsRun :
    (∃ (d : Dev) (e : Dev) (f : Dev) (j : Nat) (x : List Byte) (bs : List Byte), live d = true ∧ (engOf d (engKey 0 j)).job = some ⟨x, none⟩ ∧ dbits x 0 7 0 = 2 ∧ (fftD x).cause x = 0 ∧ (fftD x).wlen = 0 ∧ (fftD x).tin = false ∧ (fftD x).tout = false ∧ (readAll d (ifftPlan x j [] (fun _ => 0) (fun _ => [])).2.1 = (e, .bytes bs)) ∧ (writeOut e (engKey 0 j) (((ifftPlan x j [] (fun _ => 0) (fun _ => [])).2.2 bs).outs.flatMap (fun o => outLines o.1 o.2)) = (f, none))) :=
  ⟨job 0 3 ifftX none D, (readAll (job 0 3 ifftX none D) (ifftPlan ifftX 3 [] (fun _ => 0) (fun _ => [])).2.1).1, (writeOut (readAll (job 0 3 ifftX none D) (ifftPlan ifftX 3 [] (fun _ => 0) (fun _ => [])).2.1).1 (engKey 0 3) (((ifftPlan ifftX 3 [] (fun _ => 0) (fun _ => [])).2.2 (List.replicate 64 0)).outs.flatMap (fun o => outLines o.1 o.2))).1, 3, ifftX, List.replicate 64 0, ⟨by decide +kernel, by decide +kernel, by decide +kernel, by decide +kernel, by decide +kernel, by decide +kernel, by decide +kernel, by decide +kernel, by exact pair_none (by decide +kernel)⟩⟩

theorem wit_EngineNumbersKeepTheirBounds :
    (∃ (desc : List Byte) (inp : List Byte) (i : Nat) (v : Int) (sh : Nat), (fftPart desc inp i v sh).2 = false) ∧
    (∃ (_n : Int) (m : Nat), 0 < m) ∧
    (∃ (inp : List Int) (_hq : List Int) (i : Nat), i < inp.length) ∧
    (∃ (_d : Dev) (kind : Nat) (_j : Nat) (_x : List Byte) (r : JobRes), r.status < 256 ∧ kind < 8) :=
  ⟨⟨[1#8], [2#8], 7, 0, 0, fftPart_small _ _ _⟩,
   ⟨7, 2, by decide +kernel⟩,
   ⟨[100, -100], [100, -100], 0, by decide +kernel⟩,
   ⟨D, 7, 3, scanX, ⟨255, 3, 4, 5, 6, 7⟩, ⟨by decide +kernel, by decide +kernel⟩⟩⟩

theorem wit_JobsCompleteAndScansReport :
    (∃ (d : Dev) (kind : Nat) (j : Nat) (x : List Byte) (r : JobRes), live d = true ∧ kind < 7 ∧ j < 32 ∧ (engOf d (engKey kind j)).job = some ⟨x, some r⟩ ∧ dbits x 0 8 8 = 0 ∧ r.status < 3) ∧
    (∃ (d : Dev) (e : Dev) (kind : Nat) (j : Nat) (x : List Byte) (r : JobRes), live d = true ∧ (engOf d (engKey kind j)).job = some ⟨x, some r⟩ ∧ dbits x 0 8 8 = 1 ∧ produce d (dbits x 8 19 0) (jobRecord d kind j x r) = (e, .done)) ∧
    (∃ (d : Dev) (kind : Nat) (j : Nat) (x : List Byte), live d = true ∧ kind < 2 ∧ j < 32 ∧ (engOf d (engKey kind j)).job = some ⟨x, none⟩ ∧ opListed kind (dbits x 0 7 0) = false ∧ dbits x 0 8 8 = 0) ∧
    (∃ (d : Dev) (e : Dev) (b : Nat) (x : List Byte) (bs : List Byte), live d = true ∧ (engOf d (engKey 7 b)).job = some ⟨x, none⟩ ∧ dbits x 0 7 0 = 0x20 ∧ scanCause (scanEntry d b x) x = 0 ∧ (scanEntry d b x).modeS = true ∧ readAll d (scanIns x) = (e, .bytes bs)) :=
  ⟨⟨job 0 0 (toBytes 4 0 ++ toBytes 8 0 ++ toBytes 4 0x123456 ++ List.replicate 48 0) (some ⟨0, 0, 99, 0, 0xFFFFFFFF, 8⟩) D, 0, 0, (toBytes 4 0 ++ toBytes 8 0 ++ toBytes 4 0x123456 ++ List.replicate 48 0), ⟨0, 0, 99, 0, 0xFFFFFFFF, 8⟩, ⟨by decide +kernel, by decide +kernel, by decide +kernel, by decide +kernel, by decide +kernel, by decide +kernel⟩⟩,
   ⟨job 2 1 (toBytes 4 0x700 ++ toBytes 4 0 ++ toBytes 4 3 ++ toBytes 4 0x123 ++ List.replicate 48 0) (some ⟨3, 0, 99, 0, 0xFFFFFFFF, 8⟩) (setQ (ww D (Reg.QMG_QCFG 3) 194) 3 ⟨1, 0, 0, [], 0⟩), (produce (job 2 1 (toBytes 4 0x700 ++ toBytes 4 0 ++ toBytes 4 3 ++ toBytes 4 0x123 ++ List.replicate 48 0) (some ⟨3, 0, 99, 0, 0xFFFFFFFF, 8⟩) (setQ (ww D (Reg.QMG_QCFG 3) 194) 3 ⟨1, 0, 0, [], 0⟩)) 3 (jobRecord (job 2 1 (toBytes 4 0x700 ++ toBytes 4 0 ++ toBytes 4 3 ++ toBytes 4 0x123 ++ List.replicate 48 0) (some ⟨3, 0, 99, 0, 0xFFFFFFFF, 8⟩) (setQ (ww D (Reg.QMG_QCFG 3) 194) 3 ⟨1, 0, 0, [], 0⟩)) 2 1 (toBytes 4 0x700 ++ toBytes 4 0 ++ toBytes 4 3 ++ toBytes 4 0x123 ++ List.replicate 48 0) ⟨3, 0, 99, 0, 0xFFFFFFFF, 8⟩)).1, 2, 1, (toBytes 4 0x700 ++ toBytes 4 0 ++ toBytes 4 3 ++ toBytes 4 0x123 ++ List.replicate 48 0), ⟨3, 0, 99, 0, 0xFFFFFFFF, 8⟩, ⟨by decide +kernel, by decide +kernel, by decide +kernel, by decide +kernel⟩⟩,
   ⟨job 0 0 (List.replicate 64 0) none D, 0, 0, List.replicate 64 0, ⟨by decide +kernel, by decide +kernel, by decide +kernel, by decide +kernel, by decide +kernel, by decide +kernel⟩⟩,
   ⟨job 7 2 scanX none (fen [(Reg.FEN_BF_P2 2 0, 7 + 65536), (Reg.FEN_BF_CTL 2 0, 2)]), (readAll (job 7 2 scanX none (fen [(Reg.FEN_BF_P2 2 0, 7 + 65536), (Reg.FEN_BF_CTL 2 0, 2)])) (scanIns scanX)).1, 2, scanX, (List.replicate 32 0), ⟨by decide +kernel, by decide +kernel, by decide +kernel, by decide +kernel, by decide +kernel, by decide +kernel⟩⟩⟩

theorem wit_GainLoopsAndTheirFreezes :
    (∃ (d : Dev) (st : Nat), live d = true ∧ st < 1536 ∧ (glOf d st).symEnd ≤ d.air.now ∧ (glOf d st).n ≠ 0 ∧ glAuto d st = true ∧ rbit d Reg.FEN_CTRL 0 = true ∧ frozenIn (glOf d st) = false) ∧
    (∃ (d : Dev) (st : Nat), live d = true ∧ st < 1536 ∧ (glOf d st).symEnd ≤ d.air.now ∧ (glOf d st).n ≠ 0 ∧ (frozenIn (glOf d st) = true ∨ glAuto d st = false)) ∧
    (∃ (_d : Dev) (_st : Nat) (g : Nat) (_clips : Nat) (_l : Int), g ≤ 120) ∧
    (∃ (d : Dev) (st : Nat), live d = true ∧ st < 1536) ∧
    (∃ (d : Dev) (v : Word), live d = true ∧ v.toNat % 2 ^ 11 < 1536) :=
  ⟨⟨{ gl ⟨70, 60, 0, 100, 5, 5000000000, 3, [⟨200, 300, none⟩, ⟨100, 300, none⟩], 9⟩ with air := { D.air with now := 150 } }, 5, ⟨by decide +kernel, by decide +kernel, by decide +kernel, by decide +kernel, by decide +kernel, by decide +kernel, by decide +kernel⟩⟩,
   ⟨{ ww (gl ⟨70, 60, 0, 100, 5, 5000000000, 3, [⟨200, 300, none⟩, ⟨50, 100, none⟩], 9⟩) (Reg.FEN_GL_CFG 5) 3 with air := { D.air with now := 150 } }, 5, ⟨by decide +kernel, by decide +kernel, by decide +kernel, by decide +kernel, by decide +kernel⟩⟩,
   ⟨D, 5, 120, 0, -100, by decide +kernel⟩,
   ⟨{ gl ⟨70, 60, 0, 100, 5, 5000000000, 3, [⟨200, 300, none⟩, ⟨50, 100, none⟩], 9⟩ with air := { D.air with now := 250 } }, 5, ⟨by decide +kernel, by decide +kernel⟩⟩,
   ⟨{ gl ⟨70, 60, 0, 100, 5, 5000000000, 3, [⟨200, 300, none⟩, ⟨50, 100, none⟩], 9⟩ with air := { D.air with now := 250 } }, 0xFFFFF805, ⟨by decide +kernel, by decide +kernel⟩⟩⟩

theorem wit_WatchEntriesDetectAndReport :
    (∃ (d : Dev) (b : Nat) (w : Nat) (p : Nat), live d = true ∧ bfRuns d b w = true ∧ (bfOf d b w).modeS = false ∧ (winOf (watchOf d b w) (watchOf d b w).next).qual = none ∧ (bfOf d b w).trigger (seqsOf (bfOf d b w) (winOf (watchOf d b w) (watchOf d b w).next)) (winOf (watchOf d b w) (watchOf d b w).next).pos = some p) ∧
    (∃ (d : Dev) (_f : Dev) (b : Nat) (w : Nat) (_p : Nat) (_refs : List (Int × Int)), live d = true ∧ bfRuns d b w = true) ∧
    (∃ (d : Dev) (b : Nat) (w : Nat) (m : WMatch), live d = true ∧ bfRuns d b w = true ∧ (bfOf d b w).modeS = true ∧ nextMatch (bfOf d b w) (winOf (watchOf d b w) (watchOf d b w).next) = some m) ∧
    (∃ (d : Dev) (b : Nat) (w : Nat), live d = true ∧ bfRuns d b w = true) ∧
    (∃ (d : Dev) (b : Nat) (_n : Nat), live d = true ∧ b < 4 ∧ bfRuns d b 15 = true ∧ (bfOf d b 15).hasWin (watchOf d b 15).next = true ∧ (bfOf d b 15).winStart (watchOf d b 15) (watchOf d b 15).next * 64 ≤ d.air.now) ∧
    (∃ (d : Dev) (b : Nat) (w : Nat) (v : Word), live d = true ∧ b < 4 ∧ w < 16 ∧ v.toNat % 65536 = fget d (Reg.FEN_BF_RES0 b w) 31 16) ∧
    (∃ (d : Dev) (b : Nat) (w : Nat) (v : Word), live d = true ∧ b < 4 ∧ w < 16 ∧ v.toNat % 65536 ≠ fget d (Reg.FEN_BF_RES0 b w) 31 16) :=
  ⟨⟨wt 1 3 4 y0 5, 1, 3, 3, ⟨by decide +kernel, by decide +kernel, by decide +kernel, by decide +kernel, by decide +kernel⟩⟩,
   ⟨wt 1 3 4 { y0 with qual := some 4 } 5, ((refMem (wt 1 3 4 { y0 with qual := some 4 } 5) 1 (bfOf (wt 1 3 4 { y0 with qual := some 4 } 5) 1 3))).1, 1, 3, 4, ((refMem (wt 1 3 4 { y0 with qual := some 4 } 5) 1 (bfOf (wt 1 3 4 { y0 with qual := some 4 } 5) 1 3))).2, ⟨by decide +kernel, by decide +kernel⟩⟩,
   ⟨wt 1 3 6 y0 5, 1, 3, ⟨7, 0, 0, 0, 7⟩, ⟨by decide +kernel, by decide +kernel, by decide +kernel, by decide +kernel⟩⟩,
   ⟨setGl (wt 1 3 10 { y0 with ndet := 300, first := 5, peak := 2 ^ 65 } 10000000000) 5 { Gl.reset with last := 640 }, 1, 3, ⟨by decide +kernel, by decide +kernel⟩⟩,
   ⟨wt 2 15 4 y0 5, 2, 3, ⟨by decide +kernel, by decide +kernel, by decide +kernel, by decide +kernel, by decide +kernel⟩⟩,
   ⟨ww D (Reg.FEN_BF_RES0 3 15) 0x71, 3, 15, 0, ⟨by decide +kernel, by decide +kernel, by decide +kernel, by decide +kernel⟩⟩,
   ⟨D, 3, 15, 0xFFFFFFFF, ⟨by decide +kernel, by decide +kernel, by decide +kernel, by decide +kernel⟩⟩⟩

end Sys2Proof.Tests.W8

/-! ## Witnesses: supervision -/

namespace Sys2Proof.Tests.W9
open Sys2Proof Sys2Proof.Machine Sys2Proof.Safety Sys2Proof.Claims

def D : Dev := Dev.reset
def tx (c : Nat) : Dev := setDom (ww (ww (sbit D Reg.SRL_BOOT 15) Reg.TXS_CTRL 1) (Reg.TXS_PAEN_CFG 5) c) 38 0
def yr (x : YSeq) (w0 : Nat) : Dev := let d := setYseq (ww (ww (ww D Reg.YRW_CTRL 1) (Reg.YRW_BANK 0 96) w0) (Reg.YRW_BANK 0 97) 0xFFFF0007) 3 x; { d with air := { d.air with now := 1000 } }
def yw (w : Option YWork) (inj : Option YInj) (cal : Option (Nat × Nat × Nat)) (d : Dev) : Dev := { d with yrw := { d.yrw with work := w, inj := inj, cal := cal } }
def W9 : List Nat := [0x7201, 0, 0, 0, 0x00800800, 0, 0, 0, 3, 0x123]

theorem wit_PaEnablesFollowTheirRules :
    (∃ (d : Dev) (n : Nat), live d = true ∧ n < 32) ∧
    (∃ (d : Dev) (n : Nat) (_t : Int), (rbit d Reg.SRL_BOOT 15 = false ∨ rbit d Reg.TXS_CTRL 0 = false ∨ paLatch d n = true)) ∧
    (∃ (d : Dev) (n : Nat) (_t : Int), fget d (Reg.TXS_PAEN_CFG n) 7 6 = 1) ∧
    (∃ (d : Dev) (n : Nat) (_t : Int), rbit d Reg.SRL_BOOT 15 = true ∧ domServes d 38 = true ∧ rbit d Reg.TXS_CTRL 0 = true ∧ d.pkg.tripped = false ∧ paLatch d n = false ∧ mget 0 d.txs.wait n = 0 ∧ fget d (Reg.TXS_PAEN_CFG n) 7 6 = 2) ∧
    (∃ (d : Dev) (_v : Word), live d = true) :=
  ⟨⟨tx 0, 5, ⟨by decide +kernel, by decide +kernel⟩⟩,
   ⟨D, 5, 7, by decide +kernel⟩,
   ⟨tx 0x40, 5, 7, by decide +kernel⟩,
   ⟨tx 0x80, 5, 7, ⟨by decide +kernel, by decide +kernel, by decide +kernel, by decide +kernel, by decide +kernel, by decide +kernel, by decide +kernel⟩⟩,
   ⟨ww (tx 0) Reg.TXS_PAEN_DROP 0xFF, 0xF, by decide +kernel⟩⟩

theorem wit_SequencesAreTriggeredAndSampled :
    (∃ (d : Dev) (q : Nat), live d = true ∧ q < 8 ∧ rbit d Reg.YRW_CTRL 0 = true ∧ (yseq d q).armed = none) ∧
    (∃ (d : Dev) (q : Nat), live d = true ∧ q < 8 ∧ rbit d Reg.YRW_CTRL 0 = true ∧ (yseq d q).armed ≠ none) ∧
    (∃ (d : Dev) (_v : Word), live d = true ∧ rbit d Reg.YRW_CTRL 0 = false) ∧
    (∃ (d : Dev) (q : Nat) (e : Nat) (es : List Nat), live d = true ∧ q < 8 ∧ rbit d Reg.YRW_CTRL 0 = true ∧ (yseq d q).armed = none ∧ (yseq d q).edges = e :: es) ∧
    (∃ (d : Dev) (q : Nat), live d = true ∧ q < 8 ∧ rbit d Reg.YRW_CTRL 0 = true ∧ (yseq d q).armed = none ∧ (yseq d q).edges = [] ∧ fget d (Reg.YRW_BANK (yrwBank d) (32 * q)) 2 1 = 1 ∧ rw d (Reg.YRW_BANK (yrwBank d) (32 * q + 3)) ≠ 0) ∧
    (∃ (d : Dev) (q : Nat) (t0 : Nat) (i : Nat), live d = true ∧ q < 8 ∧ (yseq d q).armed = some (t0, i) ∧ i ≤ d.air.now * 100000 ∧ d.yrw.work = none ∧ rbit d (Reg.YRW_BANK (yrwBank d) (32 * q)) 0 = true) ∧
    (∃ (d : Dev) (q : Nat) (t0 : Nat) (i : Nat) (w : YWork), live d = true ∧ q < 8 ∧ (yseq d q).armed = some (t0, i) ∧ i ≤ d.air.now * 100000 ∧ d.yrw.work = some w ∧ i < w.ends ∧ rbit d (Reg.YRW_BANK (yrwBank d) (32 * q)) 8 = true ∧ (yseq d q).pend = none) ∧
    (∃ (d : Dev) (q : Nat) (t0 : Nat) (i : Nat) (w : YWork), live d = true ∧ q < 8 ∧ (yseq d q).armed = some (t0, i) ∧ i ≤ d.air.now * 100000 ∧ d.yrw.work = some w ∧ i < w.ends ∧ (yseq d q).pend ≠ none) :=
  ⟨⟨yr YSeq.reset 0, 3, ⟨by decide +kernel, by decide +kernel, by decide +kernel, by decide +kernel⟩⟩,
   ⟨yr { YSeq.reset with armed := some (7, 8) } 0, 3, ⟨by decide +kernel, by decide +kernel, by decide +kernel, by decide +kernel⟩⟩,
   ⟨D, 0xFF, ⟨by decide +kernel, by decide +kernel⟩⟩,
   ⟨yr { YSeq.reset with edges := [9, 10] } 0, 3, 9, [10], ⟨by decide +kernel, by decide +kernel, by decide +kernel, by decide +kernel, by decide +kernel⟩⟩,
   ⟨ww (yr { YSeq.reset with base := 2, k := 3 } 2) (Reg.YRW_BANK 0 99) 2, 3, ⟨by decide +kernel, by decide +kernel, by decide +kernel, by decide +kernel, by decide +kernel, by decide +kernel, by decide +kernel⟩⟩,
   ⟨yr { YSeq.reset with armed := some (7, 8) } 1, 3, 7, 8, ⟨by decide +kernel, by decide +kernel, by decide +kernel, by decide +kernel, by decide +kernel, by decide +kernel⟩⟩,
   ⟨yw (some (.inj 0 9)) none none (yr { YSeq.reset with armed := some (7, 8) } 0x100), 3, 7, 8, .inj 0 9, ⟨by decide +kernel, by decide +kernel, by decide +kernel, by decide +kernel, by decide +kernel, by decide +kernel, by decide +kernel, by decide +kernel⟩⟩,
   ⟨yw (some (.inj 0 9)) none none (yr { YSeq.reset with armed := some (7, 8), pend := some 2 } 0x100), 3, 7, 8, .inj 0 9, ⟨by decide +kernel, by decide +kernel, by decide +kernel, by decide +kernel, by decide +kernel, by decide +kernel, by decide +kernel⟩⟩⟩

theorem wit_ResultsAreCalibratedComparedAndShown :
    (∃ (d : Dev) (_raws : List Word) (q : Nat) (first : Nat) (ends : Nat) (late : Bool) (shift : Bool) (w : List Nat), live d = true ∧ d.yrw.work = some (.seq q first ends late shift w) ∧ ends ≤ d.air.now * 100000 ∧ d.yrw.inj = none ∧ d.yrw.cal = none ∧ q < 8) ∧
    (∃ (d : Dev) (c : Nat) (y : Nat), c < 32 ∧ fget d (Reg.YRW_WIN_LIM c) 11 0 ≤ y ∧ y ≤ fget d (Reg.YRW_WIN_LIM c) 27 16) ∧
    (∃ (d : Dev) (c : Nat) (y : Nat) (n : Nat), c < 32 ∧ (y < fget d (Reg.YRW_WIN_LIM c) 11 0 ∨ fget d (Reg.YRW_WIN_LIM c) 27 16 < y) ∧ rbit d (Reg.YRW_WIN_LIM c) 31 = true ∧ mget 0 d.yrw.cons c = fget d (Reg.YRW_WIN_LIM c) 29 28 ∧ n < 32 ∧ rbit d (Reg.YRW_WIN_DROP c) n = true) ∧
    (∃ (d : Dev) (r : Nat) (v : Word), live d = true ∧ r < 9 ∧ v.toNat % 65536 = fget d (Reg.YRW_RES0 r) 31 16) ∧
    (∃ (d : Dev) (r : Nat) (v : Word), live d = true ∧ r < 9 ∧ v.toNat % 65536 ≠ fget d (Reg.YRW_RES0 r) 31 16) :=
  ⟨⟨sbit (yw (some (.seq 3 5 600 true false W9)) none none (ww (ww (ww (yr { YSeq.reset with ovr := true } 0) (Reg.YRW_CAL_CH 0) 0x40000005) (Reg.YRW_WIN_LIM 0) 0x80010000) (Reg.YRW_WIN_DROP 0) 3)) (Reg.YRW_RES0 3) 0, [0x123#32, 0x456#32, 0x789#32, 5#32, 6#32, 7#32, 8#32], 3, 5, 600, true, false, W9, ⟨by decide +kernel, by decide +kernel, by decide +kernel, by decide +kernel, by decide +kernel, by decide +kernel⟩⟩,
   ⟨ww D (Reg.YRW_WIN_LIM 31) 0x32000100, 31, 0x200, ⟨by decide +kernel, by decide +kernel, by decide +kernel⟩⟩,
   ⟨{ ww (ww (tx 0x80) (Reg.YRW_WIN_LIM 31) 0xB2000100) (Reg.YRW_WIN_DROP 31) 0x80000000 with yrw := { D.yrw with cons := [(31, 3)] } }, 31, 0x201, 31, ⟨by decide +kernel, by decide +kernel, by decide +kernel, by decide +kernel, by decide +kernel, by decide +kernel⟩⟩,
   ⟨ww D (Reg.YRW_RES0 8) 0x70001, 8, 0xF0007, ⟨by decide +kernel, by decide +kernel, by decide +kernel⟩⟩,
   ⟨ww D (Reg.YRW_RES0 8) 0x70001, 8, 0xF0008, ⟨by decide +kernel, by decide +kernel, by decide +kernel⟩⟩⟩

theorem wit_InjectedRequestsAndCalibration :
    (∃ (d : Dev), live d = true ∧ d.yrw.inj ≠ none) ∧
    (∃ (d : Dev), live d = true ∧ d.yrw.inj = none ∧ fget d Reg.YRW_INJ_CFG 17 16 = 0 ∧ rbit d Reg.YRW_INJ_CFG 3 = true) ∧
    (∃ (d : Dev) (x : YInj), live d = true ∧ d.yrw.inj = some x ∧ x.start = none) ∧
    (∃ (d : Dev) (x : YInj) (a : Nat), live d = true ∧ d.yrw.inj = some x ∧ x.start = none ∧ x.trigAt = some a ∧ d.yrw.work = none ∧ a * 100000 + x.delay * 786432 ≤ d.air.now * 100000) ∧
    (∃ (d : Dev) (_raws : List Word) (x : YInj) (st : Nat) (e : Nat), live d = true ∧ d.yrw.inj = some x ∧ x.start = some st ∧ st + 39321600 ≤ d.air.now * 100000 ∧ d.yrw.work = some (.inj st e) ∧ d.yrw.cal = none) ∧
    (∃ (d : Dev) (ch : Nat), live d = true ∧ ch < 32 ∧ d.yrw.cal = none ∧ d.yrw.work = none) ∧
    (∃ (d : Dev) (ch : Nat) (target : Nat), live d = true ∧ ch < 32 ∧ target < 4096 ∧ d.yrw.cal = none ∧ d.yrw.work = none) ∧
    (∃ (d : Dev) (_ch : Nat), live d = true ∧ d.yrw.cal ≠ none) ∧
    (∃ (d : Dev) (ch : Nat) (ph : Nat) (tgt : Nat), live d = true ∧ d.yrw.cal = some (ch, ph, tgt) ∧ d.yrw.inj = none ∧ d.yrw.work = none) ∧
    (∃ (d : Dev) (_raws : List Word) (ch : Nat) (tgt : Nat) (ends : Nat), live d = true ∧ d.yrw.work = some (.cal ch 0 tgt ends) ∧ ends ≤ d.air.now * 100000 ∧ d.yrw.cal = none) ∧
    (∃ (d : Dev) (raws : List Word) (ch : Nat) (tgt : Nat) (ends : Nat) (ofs : Nat) (g : Nat), live d = true ∧ d.yrw.work = some (.cal ch 1 tgt ends) ∧ ends ≤ d.air.now * 100000 ∧ d.yrw.cal = none ∧ ch < 32 ∧ mget 0 d.yrw.m0 ch ≠ 0 ∧ (calValues (mget 0 d.yrw.m0 ch - 1) ((List.range 64).foldl (fun s i => s + (raws.getD i 0).toNat % 4096) 0) tgt = some (ofs, g))) :=
  ⟨⟨yw none (some ⟨0x9, 0, 4, 3, some 5, none⟩) none D, ⟨by decide +kernel, by decide +kernel⟩⟩,
   ⟨ww (ww D Reg.YRW_INJ_CFG 0x7C0008) (Reg.YRW_INJ_CFG + 4) 0xFFFFF, ⟨by decide +kernel, by decide +kernel, by decide +kernel, by decide +kernel⟩⟩,
   ⟨yw (some (.seq 1 2 3 true true [4])) (some ⟨0x9, 0, 4, 3, some 5, none⟩) none D, ⟨0x9, 0, 4, 3, some 5, none⟩, ⟨by decide +kernel, by decide +kernel, by decide +kernel⟩⟩,
   ⟨yw none (some ⟨0x9, 0, 4, 3, some 5, none⟩) none (yr YSeq.reset 0), ⟨0x9, 0, 4, 3, some 5, none⟩, 5, ⟨by decide +kernel, by decide +kernel, by decide +kernel, by decide +kernel, by decide +kernel, by decide +kernel⟩⟩,
   ⟨yw (some (.inj 600 900)) (some ⟨0x9, 0, 4, 3, some 5, some 600⟩) none (yr { YSeq.reset with armed := some (7, 8) } 1), [0x123#32], ⟨0x9, 0, 4, 3, some 5, some 600⟩, 600, 900, ⟨by decide +kernel, by decide +kernel, by decide +kernel, by decide +kernel, by decide +kernel, by decide +kernel⟩⟩,
   ⟨yw none none none D, 31, ⟨by decide +kernel, by decide +kernel, by decide +kernel, by decide +kernel⟩⟩,
   ⟨D, 31, 4095, ⟨by decide +kernel, by decide +kernel, by decide +kernel, by decide +kernel, by decide +kernel⟩⟩,
   ⟨yw none none (some (1, 2, 3)) D, 5, ⟨by decide +kernel, by decide +kernel⟩⟩,
   ⟨yw none none (some (1, 0, 3)) D, 1, 0, 3, ⟨by decide +kernel, by decide +kernel, by decide +kernel, by decide +kernel⟩⟩,
   ⟨yw (some (.cal 31 0 0 600)) none none (yr YSeq.reset 0), List.replicate 70 0xFFF00010, 31, 0, 600, ⟨by decide +kernel, by decide +kernel, by decide +kernel, by decide +kernel⟩⟩,
   ⟨{ yr YSeq.reset 0 with yrw := { D.yrw with work := some (.cal 31 1 0x400 600), m0 := [(31, 641)] } }, List.replicate 64 0x40A, 31, 0x400, 600, 160, 16384, ⟨by decide +kernel, by decide +kernel, by decide +kernel, by decide +kernel, by decide +kernel, by decide +kernel, by decide +kernel⟩⟩⟩

end Sys2Proof.Tests.W9

/-! ## Witnesses: Ethernet -/

namespace Sys2Proof.Tests.W10
open Sys2Proof Sys2Proof.Machine Sys2Proof.Safety Sys2Proof.Claims

def D : Dev := Dev.reset
def mac (cfg : Nat) (x : MacSt) : Dev := setMac (ww (ww (setDom (ww D (Reg.MACG_CTRL 0) 5) 39 0) (Reg.MAC_CFG 0 1) (1 + 1518 * 32 + cfg)) (Reg.MAC_LINK 0 1) 1) 1 x
def rxf (bs : List Byte) (n q : Nat) : RxFrame := ⟨bs, n, n, 0, 0, 0, 0, 0, 0, 0, 0, q, 0, 2, none⟩
def rxm (f : RxFrame) : Dev := setQ (ww (ww (ww (mac 0 { MacSt.reset with rx := [f] }) (Reg.QMG_QCFG 3) (7 + 16 + 64 * 4)) (Reg.QMG_QBIND 3) 1) (Reg.MAC_BR_CFG 0 0) 9) 3 ⟨1, 0, 0, [], 0⟩
def ring (p : Nat) (d : Dev) : Dev := wr64 (ww d (Reg.MAC_BR_PROD 0 0) p) (Reg.MAC_BR_BASE 0 0) 0x1000000000
def full (d : Dev) : Dev := memPut d 0x1000000000 (toBytes 8 0x1000000400)
def frame : List Byte := List.replicate 12 1#8 ++ [0x12#8, 0x34#8] ++ List.replicate 46 7#8
def txd (len f tag : Nat) : List Byte := toBytes 8 (0x1000000000 + len * 2 ^ 48) ++ toBytes 4 0 ++ toBytes 4 f ++ toBytes 8 0 ++ toBytes 4 0 ++ toBytes 4 tag
def flow (w4 w5 : Nat) (d : Dev) : Dev := ww (ww (ww d (Reg.MAC_FLOW 0 0 4) (2 ^ 28 + 5 * 2 ^ 20 + 3 + w4)) (Reg.MAC_FLOW 0 0 5) w5) (Reg.MAC_FLOW 0 0 6) 0x1000123
def ptp : List Byte := List.replicate 12 1#8 ++ [0x88#8, 0xF7#8] ++ List.replicate 20 0 ++ List.replicate 30 9#8
def D' : Dev := { D with air := { D.air with now := 12345678901 } }

theorem hit_past (r : RegRow) (a n s : Nat) (hr : r.reps = [(12, 0x100000), (n, s)]) (h : r.base ≤ a) (h1 : a - r.base < 0x100000)
    (h2 : n * s ≤ a - r.base) (hn : 0 < n) (hs : 0 < s) (hk : r.size ≤ s) : r.hit a = none := by
  have e1 : (a - r.base) / 0x100000 = 0 := Nat.div_eq_of_lt h1
  have e2 : (a - r.base) % 0x100000 = a - r.base := Nat.mod_eq_of_lt h1
  have e3 : ¬ (a - r.base) / s < n := by rw [Nat.not_lt, Nat.le_div_iff_mul_le hs]; exact h2
  have e4 : ¬ (a - r.base - (n - 1) * s) < r.size := by
    have : (n - 1) * s + s = n * s := by obtain ⟨m, rfl⟩ : ∃ m, n = m + 1 := ⟨n - 1, by omega⟩; rw [Nat.add_sub_cancel, Nat.succ_mul]
    omega
  unfold RegRow.hit
  simp only [hr, stripReps, e1, e2, e3, e4, Nat.not_lt.mpr h, if_false, if_true, (by decide : (0 : Nat) < 12)]

theorem hit_before (r : RegRow) (a : Nat) (h : a < r.base) : r.hit a = none := by unfold RegRow.hit; rw [if_pos h]

theorem hit_small (r : RegRow) (a o : Nat) (h : r.hit a = some o) : o < r.size := by
  unfold RegRow.hit at h
  split at h
  · cases h
  · split at h
    · split at h
      · cases h; assumption
      · cases h
    · cases h

/-- No word of the flow tables is other than zero at reset. -/
theorem flow_reset (a : Nat) (h0 : 0x3002010000 ≤ a) (h1 : a < 0x3002020000) : regReset a = 0 := by
  have hc : ∀ r ∈ rowsMAC, (resetOf r.flds 0 = 0 ∧ resetOf r.flds 4 = 0 ∧ r.size ≤ 8) ∨ 0x3002020000 ≤ r.base ∨
      (r.base < 0x3002000800 ∧ 0x3002000000 ≤ r.base ∧ ∃ q ∈ [(4, 4), (16, 8), (64, 32)], r.reps = [(12, 0x100000), q] ∧ r.size ≤ 4) := by decide +kernel
  have hr : rowsOf a = rowsMAC := by
    unfold rowsOf
    have : (a - 0x3000000000) / 0x100000 = 0x20 := by omega
    simp only [this]
    rw [if_neg (by omega), if_neg (by omega)]
    rfl
  unfold regReset
  rw [if_neg (by unfold Reg.HLK_SRC_VEC; omega)]
  unfold findReg
  rw [hr]
  cases hf : rowsMAC.findSome? (fun r => (r.hit a).map (fun o => (r, o))) with
  | none => rfl
  | some p =>
    obtain ⟨r, hm, hp⟩ := List.exists_of_findSome?_eq_some hf
    obtain ⟨o, ho, rfl⟩ := Option.map_eq_some_iff.mp hp
    have hn : r.hit a ≠ none := by rw [ho]; exact Option.some_ne_none o
    rcases hc r hm with ⟨z0, z4, hs⟩ | h | ⟨hb, hb', q, hq, hrep, hk⟩
    · have h8 := hit_small r a o ho
      have : o / 4 * 4 = 0 ∨ o / 4 * 4 = 4 := by omega
      show word (resetOf r.flds (o / 4 * 4)) = 0
      rcases this with e | e <;> rw [e] <;> simp only [z0, z4] <;> rfl
    · exact absurd (hit_before r a (by omega)) hn
    · simp only [List.mem_cons, List.not_mem_nil, or_false] at hq
      rcases hq with rfl | rfl | rfl <;> exact absurd (hit_past r a _ _ hrep (by omega) (by omega) (by omega) (by omega) (by omega) (by omega)) hn

theorem mget_absent {α : Type} (x : α) (m : Map α) (k : Nat) (h : ∀ p ∈ m, p.1 ≠ k) : mget x m k = x := by
  induction m with
  | nil => rfl
  | cons p m ih => 
    obtain ⟨j, v⟩ := p
    simp only [mget]
    rw [if_neg (h _ List.mem_cons_self)]; exact ih (fun q hq => h q (List.mem_cons_of_mem _ hq))

/-- With no flow written, no key matches. -/
theorem classify_none (d : Dev) (g bank : Nat) (key : Nat × Nat) (hg : g = 0) (hb : bank = 0)
    (h : ∀ p ∈ d.regs, p.1 < 0x3002010000) : classify d g bank key = none := by
  subst hg hb
  unfold classify
  rw [List.find?_eq_none]
  intro e he
  have h2 : e < 2048 := List.mem_range.mp he
  have hz : flowWord d 0 0 e 4 = 0 := by
    unfold flowWord rw Reg.MAC_FLOW
    rw [flow_reset _ (by omega) (by omega), mget_absent _ _ _ (fun p hp => by have := h p hp; omega)]
    rfl
  simp only [hz]
  simp [bit]

set_option maxRecDepth 20000 in
theorem wit_ReceivedFramesAreClassified_1 :
    (∃ (d : Dev) (m : Nat) (fr : List Byte) (_pcs : Bool) (_corr : Nat) (_uncorr : Nat) (_per : Nat), live d = true ∧ macRuns d m = true ∧ bits (macCfg d m) 4 3 = 0 ∧ 2 ^ 20 < fifoUsed d (m / 4) + min fr.length (macMaxLen d m)) :=
  ⟨mac 0 { MacSt.reset with rx := [rxf [] (2 ^ 20) 3] }, 1, [1#8], false, 1, 2, 3, ⟨by decide +kernel, by decide +kernel, by decide +kernel, by decide +kernel⟩⟩

set_option maxRecDepth 20000 in
theorem wit_ReceivedFramesAreClassified_2 :
    (∃ (d : Dev) (m : Nat) (fr : List Byte) (_pcs : Bool) (_corr : Nat) (_uncorr : Nat) (_per : Nat), live d = true ∧ macRuns d m = true ∧ bits (macCfg d m) 4 3 = 0 ∧ fifoUsed d (m / 4) + min fr.length (macMaxLen d m) ≤ 2 ^ 20 ∧ fr.length < 64) :=
  ⟨mac 0 MacSt.reset, 1, [1#8], false, 1, 2, 3, ⟨by decide +kernel, by decide +kernel, by decide +kernel, by decide +kernel, by decide +kernel⟩⟩

set_option maxRecDepth 20000 in
theorem wit_ReceivedFramesAreClassified_3 :
    (∃ (d : Dev) (m : Nat) (fr : List Byte) (pcs : Bool) (_corr : Nat) (_uncorr : Nat) (_per : Nat), live d = true ∧ macRuns d m = true ∧ bits (macCfg d m) 4 3 = 0 ∧ fifoUsed d (m / 4) + fr.length ≤ 2 ^ 20 ∧ 64 ≤ fr.length ∧ fr.length ≤ macMaxLen d m ∧ (pcs = true ∨ fcsGood fr = false)) :=
  ⟨mac 0 MacSt.reset, 1, List.replicate 70 0, false, 1, 2, 3, ⟨by decide +kernel, by decide +kernel, by decide +kernel, by decide +kernel, by decide +kernel, by decide +kernel, by decide +kernel⟩⟩

set_option maxRecDepth 20000 in
theorem wit_ReceivedFramesAreClassified_4 :
    (∃ (d : Dev) (m : Nat) (bs : List Byte) (_corr : Nat) (_uncorr : Nat) (_per : Nat) (e : Nat), Accepted d m bs ∧ classify d (m / 4) (ftSel d (m / 4)) (flowKey (m % 4) (parseFrame bs false)) = some e ∧ bit (flowWord d (m / 4) (ftSel d (m / 4)) e 5) 15 = false ∧ bits (flowWord d (m / 4) (ftSel d (m / 4)) e 4) 27 26 ≠ 2) :=
  ⟨flow (0) 0 (mac 0 { MacSt.reset with rx := [rxf [] 5 3] }), 1, frame, 1, 2, 3, 0, ⟨by constructor <;> decide +kernel, by decide +kernel, by decide +kernel, by decide +kernel⟩⟩

set_option maxRecDepth 20000 in
theorem wit_ReceivedFramesAreClassified_5 :
    (∃ (d : Dev) (m : Nat) (bs : List Byte) (_corr : Nat) (_uncorr : Nat) (_per : Nat), Accepted d m bs ∧ classify d (m / 4) (ftSel d (m / 4)) (flowKey (m % 4) (parseFrame bs false)) = none ∧ bit (macCfg d m) 19 = true) :=
  ⟨mac (2 ^ 19) MacSt.reset, 1, frame, 1, 2, 3, ⟨by constructor <;> decide +kernel, by exact classify_none _ _ _ _ (by decide) (by decide +kernel) (by decide +kernel), by decide +kernel⟩⟩

set_option maxRecDepth 20000 in
theorem wit_ReceivedFramesAreClassified_6 :
    (∃ (d : Dev) (m : Nat) (bs : List Byte) (_corr : Nat) (_uncorr : Nat) (_per : Nat), Accepted d m bs ∧ classify d (m / 4) (ftSel d (m / 4)) (flowKey (m % 4) (parseFrame bs false)) = none ∧ bit (macCfg d m) 19 = false) :=
  ⟨mac 0 MacSt.reset, 1, frame, 1, 2, 3, ⟨by constructor <;> decide +kernel, by exact classify_none _ _ _ _ (by decide) (by decide +kernel) (by decide +kernel), by decide +kernel⟩⟩

set_option maxRecDepth 20000 in
theorem wit_ReceivedFramesAreClassified_7 :
    (∃ (_d : Dev) (m : Nat) (_bs : List Byte) (_p : Parsed) (_trunc : Bool) (_frmlen : Nat) (_ts : Nat) (_per : Nat) (_e : Nat) (_t0 : Nat) (_tEnd : Nat), m < 48) :=
  ⟨({ ww (ww (flow (2 ^ 29) (2 ^ 15 + 3 * 2 ^ 11) (mac 0 MacSt.reset)) (Reg.MAC_WIN_CFG 0 3) 4) (Reg.MAC_WIN_TIM 0 3) 2097168 with air := { D.air with now := 5 } }), 1, frame, parseFrame frame false, false, 64, 5, 3, 0, (frameTime ({ ww (ww (flow (2 ^ 29) (2 ^ 15 + 3 * 2 ^ 11) (mac 0 MacSt.reset)) (Reg.MAC_WIN_CFG 0 3) 4) (Reg.MAC_WIN_TIM 0 3) 2097168 with air := { D.air with now := 5 } }) 0 0 0 frame (parseFrame frame false) 5).2.1, (frameTime ({ ww (ww (flow (2 ^ 29) (2 ^ 15 + 3 * 2 ^ 11) (mac 0 MacSt.reset)) (Reg.MAC_WIN_CFG 0 3) 4) (Reg.MAC_WIN_TIM 0 3) 2097168 with air := { D.air with now := 5 } }) 0 0 0 frame (parseFrame frame false) 5).2.2, by decide +kernel⟩

theorem wit_FramesAreDeliveredToTheirRings :
    (∃ (d : Dev) (m : Nat) (f : RxFrame) (fs : List RxFrame), live d = true ∧ macPort d m = true ∧ (macOf d m).rx = f :: fs ∧ rxQueueOk d m f.queue = false) ∧
    (∃ (d : Dev) (m : Nat) (f : RxFrame) (fs : List RxFrame), live d = true ∧ macPort d m = true ∧ (macOf d m).rx = f :: fs ∧ rxQueueOk d m f.queue = true ∧ rxReady d m f = false) ∧
    (∃ (d : Dev) (e : Dev) (m : Nat) (a : Nat) (n : Nat) (f : RxFrame) (fs : List RxFrame), live d = true ∧ macPort d m = true ∧ (macOf d m).rx = f :: fs ∧ rxQueueOk d m f.queue = true ∧ rxReady d m f = true ∧ f.flags.testBit 7 = false ∧ f.notify = none ∧ fillBufs d m f.ring (max 1 (ceilDiv f.data.length (brBufsz d (m / 4) f.ring))) f.data = some (e, [(a, n)], false)) ∧
    (∃ (d : Dev) (e : Dev) (m : Nat) (r : Nat) (a : Nat) (_n : Nat) (bs : List Byte), brTake d m r (brAvail d (m / 4) r) = (e, .at a) ∧ bs ≠ [] ∧ writeShut e.grade a = false ∧ bs.length ≤ brBufsz e (m / 4) r) ∧
    (∃ (d : Dev) (m : Nat) (f : RxFrame) (fs : List RxFrame), live d = true ∧ macPort d m = true ∧ (macOf d m).rx = f :: fs ∧ rxQueueOk d m f.queue = true ∧ rxReady d m f = false ∧ f.hold * 64 * 196608 ≤ (d.air.now - (macOf d m).since) * 100000) ∧
    (∃ (d : Dev) (g : Nat) (r : Nat) (v : Word), live d = true ∧ g < 12 ∧ r < 64 ∧ grpPresent d.grade g = true ∧ (v.toNat % 2 ^ 17 + 2 ^ 17 - rw d (Reg.MAC_BR_CONS g r)) % 2 ^ 17 ≤ brDepth d g r) ∧
    (∃ (d : Dev) (g : Nat) (r : Nat) (v : Word), live d = true ∧ g < 12 ∧ r < 64 ∧ grpPresent d.grade g = true ∧ brDepth d g r < (v.toNat % 2 ^ 17 + 2 ^ 17 - rw d (Reg.MAC_BR_CONS g r)) % 2 ^ 17) ∧
    (∃ (d : Dev) (g : Nat) (r : Nat) (v : Word), live d = true ∧ g < 12 ∧ r < 64 ∧ grpPresent d.grade g = true ∧ v.toNat.testBit 0 = true ∧ (rbit d (Reg.MAC_BR_CFG g r) 0 = false ∨ v.toNat % 2 ^ 14 / 2 = rw d (Reg.MAC_BR_CFG g r) / 2)) :=
  ⟨⟨rxm (rxf [1#8] 5 4), 1, rxf [1#8] 5 4, [], ⟨by decide +kernel, by decide +kernel, by decide +kernel, by decide +kernel⟩⟩,
   ⟨rxm (rxf [1#8] 5 3), 1, rxf [1#8] 5 3, [], ⟨by decide +kernel, by decide +kernel, by decide +kernel, by decide +kernel, by decide +kernel⟩⟩,
   ⟨(full (ring 2 (rxm (rxf [1#8] 5 3)))), ((fillBufs (full (ring 2 (rxm (rxf [1#8] 5 3)))) 1 0 1 [1#8]).map (fun r => r.1)).getD D, 1, 0x1000000400, 1, rxf [1#8] 5 3, [], ⟨by decide +kernel, by decide +kernel, by decide +kernel, by decide +kernel, by decide +kernel, by decide +kernel, by decide +kernel, by decide +kernel⟩⟩,
   ⟨(full (ring 2 (rxm (rxf [1#8] 5 3)))), (brTake (full (ring 2 (rxm (rxf [1#8] 5 3)))) 1 0 (brAvail (full (ring 2 (rxm (rxf [1#8] 5 3)))) 0 0)).1, 1, 0, 0x1000000400, 4, [1#8], ⟨by decide +kernel, by decide +kernel, by decide +kernel, by decide +kernel⟩⟩,
   ⟨{ rxm (rxf [1#8] 5 3) with air := { D.air with now := 10000 } }, 1, rxf [1#8] 5 3, [], ⟨by decide +kernel, by decide +kernel, by decide +kernel, by decide +kernel, by decide +kernel, by decide +kernel⟩⟩,
   ⟨ring 1 (rxm (rxf [1#8] 5 3)), 0, 0, 0xFFF40010, ⟨by decide +kernel, by decide +kernel, by decide +kernel, by decide +kernel, by decide +kernel⟩⟩,
   ⟨ring 1 (rxm (rxf [1#8] 5 3)), 0, 0, 0x00011, ⟨by decide +kernel, by decide +kernel, by decide +kernel, by decide +kernel, by decide +kernel⟩⟩,
   ⟨ring 1 (rxm (rxf [1#8] 5 3)), 0, 0, 0xFFFFC009, ⟨by decide +kernel, by decide +kernel, by decide +kernel, by decide +kernel, by decide +kernel, by decide +kernel⟩⟩⟩

theorem wit_FramesAreLaunchedAndSent :
    (∃ (d : Dev) (e : Dev) (m : Nat) (h : TxHead) (bs : List Byte), live d = true ∧ macRuns d m = true ∧ (macOf d m).on = none ∧ dueHead d m = some h ∧ txCause d m h = 0 ∧ readIn d (dbits h.desc 0 47 0) (dbits h.desc 0 63 48) = (e, .bytes bs) ∧ bit (dbits h.desc 12 31 0) 2 = false ∧ bit (dbits h.desc 12 31 0) 3 = false) ∧
    (∃ (d : Dev) (m : Nat) (h : TxHead), live d = true ∧ macRuns d m = true ∧ (macOf d m).on = none ∧ dueHead d m = some h ∧ txCause d m h ≠ 0 ∧ h.q < 16384 ∧ dbits h.desc 12 13 13 = 0) ∧
    (∃ (d : Dev) (m : Nat), live d = true ∧ macRuns d m = true ∧ (macOf d m).on = none ∧ dueHead d m = none) ∧
    (∃ (d : Dev) (m : Nat) (bs : List Byte) (x : List Byte), live d = true ∧ m < 48 ∧ (macOf d m).on = some (bs, x) ∧ bit (dbits x 12 31 0) 1 = false ∧ bit (dbits x 12 31 0) 2 = false ∧ dbits x 12 13 13 = 0) ∧
    (∃ (d : Dev) (m : Nat) (bs : List Byte) (x : List Byte), live d = true ∧ m < 48 ∧ (macOf d m).on = some (bs, x) ∧ bit (dbits x 12 31 0) 1 = true ∧ dbits x 12 13 13 = 0 ∧ (macOf d m).txts.length < 16) ∧
    (∃ (d : Dev) (m : Nat) (bs : List Byte) (x : List Byte), live d = true ∧ m < 48 ∧ (macOf d m).on = some (bs, x) ∧ bit (dbits x 12 31 0) 1 = true ∧ dbits x 12 13 13 = 0 ∧ 16 ≤ (macOf d m).txts.length) ∧
    (∃ (_d : Dev) (t : Nat) (bs : List Byte) (o : Nat), ptpOffset bs = some o ∧ t < 2 ^ 64) ∧
    (∃ (d : Dev) (m : Nat) (ts : Nat) (tag : Nat) (ts2 : Nat) (tag2 : Nat) (l : List (Nat × Nat)), live d = true ∧ m < 48 ∧ (macOf d m).txts = (ts, tag) :: (ts2, tag2) :: l ∧ ts2 < 2 ^ 64 ∧ tag2 < 2 ^ 16 ∧ l.length < 16) ∧
    (∃ (d : Dev) (m : Nat), live d = true ∧ (macOf d m).txts = []) ∧
    (∃ (d : Dev) (m : Nat), live d = true ∧ macPort d m = true ∧ bit (macCfg d m) 0 = true ∧ rbit d (Reg.MAC_LINK (m / 4) (m % 4)) 0 = false ∧ d.pwr.listen = false) ∧
    (∃ (d : Dev) (m : Nat) (_los : Bool), live d = true ∧ m < 48 ∧ rbit d (Reg.MAC_LINK (m / 4) (m % 4)) 0 = true) :=
  ⟨⟨({ mac 0 { MacSt.reset with heads := [⟨10, [], 80⟩, ⟨9, (txd 20 0 5), 7⟩], rx := [] } with air := { D.air with now := 7 } }), (readIn ({ mac 0 { MacSt.reset with heads := [⟨10, [], 80⟩, ⟨9, (txd 20 0 5), 7⟩], rx := [] } with air := { D.air with now := 7 } }) 0x1000000000 20).1, 1, ⟨9, (txd 20 0 5), 7⟩, List.replicate 20 0, ⟨by decide +kernel, by decide +kernel, by decide +kernel, by decide +kernel, by decide +kernel, by decide +kernel, by decide +kernel, by decide +kernel⟩⟩,
   ⟨({ mac 0 { MacSt.reset with heads := [⟨10, [], 800⟩, ⟨9, (txd 0 0 5), 7⟩], rx := [] } with air := { D.air with now := 7 } }), 1, ⟨9, (txd 0 0 5), 7⟩, ⟨by decide +kernel, by decide +kernel, by decide +kernel, by decide +kernel, by decide +kernel, by decide +kernel, by decide +kernel⟩⟩,
   ⟨({ mac 0 { MacSt.reset with heads := [⟨10, [], 80⟩, ⟨9, (txd 20 0 5), 7⟩], rx := [] } with air := { D.air with now := 6 } }), 1, ⟨by decide +kernel, by decide +kernel, by decide +kernel, by decide +kernel⟩⟩,
   ⟨mac 0 { MacSt.reset with on := some (frame, txd 60 0 5), txts := [(1, 2)] }, 1, frame, txd 60 0 5, ⟨by decide +kernel, by decide +kernel, by decide +kernel, by decide +kernel, by decide +kernel, by decide +kernel⟩⟩,
   ⟨mac 0 { MacSt.reset with on := some (frame, txd 60 2 5), txts := [(1, 2)] }, 1, frame, txd 60 2 5, ⟨by decide +kernel, by decide +kernel, by decide +kernel, by decide +kernel, by decide +kernel, by decide +kernel⟩⟩,
   ⟨mac 0 { MacSt.reset with on := some (frame, txd 60 2 5), txts := List.replicate 16 (1, 2) }, 1, frame, txd 60 2 5, ⟨by decide +kernel, by decide +kernel, by decide +kernel, by decide +kernel, by decide +kernel, by decide +kernel⟩⟩,
   ⟨D, 0, ptp, 14, ⟨by decide +kernel, by decide +kernel⟩⟩,
   ⟨mac 0 { MacSt.reset with txts := (1, 2) :: (2 ^ 64 - 1, 65535) :: List.replicate 14 (3, 4) }, 1, 1, 2, 2^64-1, 65535, List.replicate 14 (3, 4), ⟨by decide +kernel, by decide +kernel, by decide +kernel, by decide +kernel, by decide +kernel, by decide +kernel⟩⟩,
   ⟨D, 1, ⟨by decide +kernel, by decide +kernel⟩⟩,
   ⟨ww (mac 0x18 MacSt.reset) (Reg.MAC_LINK 0 1) 0xA, 1, ⟨by decide +kernel, by decide +kernel, by decide +kernel, by decide +kernel, by decide +kernel⟩⟩,
   ⟨mac 0 MacSt.reset, 1, true, ⟨by decide +kernel, by decide +kernel, by decide +kernel⟩⟩⟩

end Sys2Proof.Tests.W10

/-! ## Witnesses: fabric -/

namespace Sys2Proof.Tests.W11
open Sys2Proof Sys2Proof.Machine Sys2Proof.Safety Sys2Proof.Claims

def D : Dev := setDom Dev.reset 0 0
def pk (op n a : Nat) : Pkt := sealed ⟨.core 9, opVn op, 1, 0, false, 1, stopOf a, 1, op, 7, n - 1, 0, a, 0, 0, if op = 1 then [] else List.replicate n 5#8, if op = 1 then [] else List.replicate n true, []⟩
def fl (l : List Pkt) (d : Dev) : Dev := { d with fab := { d.fab with flight := l } }
def os (l : List Pkt) (d : Dev) : Dev := { d with fab := { d.fab with outst := l } }
def aged (n : Nat) (d : Dev) : Dev := { d with fab := { d.fab with age := n } }
def D32 (st : Nat) : Dev := setDom D 0 st
def rmtr (st : Bool) (k : Nat) : Rmt := ⟨7, 0x1234, 4, k, if st then [] else [cS 5], 5, 0, st, [], 1⟩
def cor (st : Bool) (k : Nat) (d : Dev) : Dev := setCore d 9 { Core.reset with rmt := [{ rmtr (!st) k with tag := 7 }, rmtr st k] }
def ans (op : Nat) (st : Nat) (local_ : Bool) : Pkt := let p := answerTo (pk (if op = 0x10 then 1 else 2) 4 0x1000000040) st (if op = 0x10 then [1, 2, 3, 4] else []) []; if local_ then { p with src := p.dst } else p

theorem isReq_read : IsReq (Instr.read, 0x01) := List.mem_cons_self
theorem isReq_doorbell : IsReq (Instr.doorbell, 0x20) := List.mem_cons_of_mem _ (List.mem_cons_of_mem _ List.mem_cons_self)

theorem wit_RequestsReachTheirStops_sent :
    (∃ (e : (Pkt → Instr) × Nat) (d : Dev) (p : Pkt), IsReq e ∧ Sound d p e.2 ∧ p ∉ d.fab.flight ∧ expired d p = false ∧ Served d p.addr) ∧
    (∃ (e : (Pkt → Instr) × Nat) (d : Dev) (p : Pkt), IsReq e ∧ Sound d p e.2 ∧ p ∈ d.fab.flight ∧ firstOf d p = true ∧
      expired d p = false ∧ Served d p.addr) ∧
    (∃ (e : (Pkt → Instr) × Nat) (d : Dev) (p : Pkt), IsReq e ∧ Sound d p e.2 ∧ p ∈ d.fab.flight ∧ firstOf d p = false) ∧
    (∃ (e : (Pkt → Instr) × Nat) (d : Dev) (p : Pkt), IsReq e ∧ Sound d p e.2 ∧ p ∉ d.fab.flight ∧ expired d p = true) ∧
    (∃ (e : (Pkt → Instr) × Nat) (d : Dev) (p : Pkt), IsReq e ∧ live d = true ∧ pktOk p e.2 = true ∧ p.hcrc ≠ hcrcOf p) :=
  ⟨⟨_, D, pk 1 4 0x40, isReq_read, by unfold Sound; decide +kernel, by decide +kernel, by decide +kernel,
     .inr (by intro p h; rw [(by decide +kernel : domainOf (pk 1 4 0x40).addr = none)] at h; cases h)⟩,
   ⟨_, fl [pk 0x20 4 0x40] D, pk 0x20 4 0x40, isReq_doorbell, by unfold Sound; decide +kernel, by decide +kernel, by decide +kernel, by decide +kernel,
     .inr (by intro p h; rw [(by decide +kernel : domainOf (pk 0x20 4 0x40).addr = none)] at h; cases h)⟩,
   ⟨_, fl [{ pk 1 4 0x40 with tag := 8 }, pk 1 4 0x40] D, pk 1 4 0x40, isReq_read, by unfold Sound; decide +kernel, by decide +kernel, by decide +kernel⟩,
   ⟨_, aged (2 ^ 17) D, pk 1 4 0x40, isReq_read, by unfold Sound; decide +kernel, by decide +kernel, by decide +kernel⟩,
   ⟨_, D, { pk 1 4 0x40 with hcrc := 5 }, isReq_read, by decide +kernel, by decide +kernel, by decide +kernel⟩⟩

theorem wit_RequestsReachTheirStops_domain :
    (∃ (e : (Pkt → Instr) × Nat) (d : Dev) (p : Pkt) (dom : Nat), IsReq e ∧ Sound d p e.2 ∧ p ∉ d.fab.flight ∧ expired d p = false ∧
      absentReg d.grade p.addr = false ∧ domainOf p.addr = some dom ∧ domPresent d.grade dom = true ∧ domState d dom = 3 ∧
      (heldFor d.fab.heldPk dom p.vn).length < 32 ∧ heldFor d.fab.circ dom p.vn = []) ∧
    (∃ (e : (Pkt → Instr) × Nat) (d : Dev) (p : Pkt) (dom : Nat), IsReq e ∧ Sound d p e.2 ∧ p ∉ d.fab.flight ∧ expired d p = false ∧
      absentReg d.grade p.addr = false ∧ domainOf p.addr = some dom ∧ domState d dom = 1) :=
  ⟨⟨_, D32 3, pk 1 4 0x1000000040, 0, isReq_read, by unfold Sound; decide +kernel, by decide +kernel, by decide +kernel, by decide +kernel,
     by decide +kernel, by decide +kernel, by decide +kernel, by decide +kernel, by decide +kernel⟩,
   ⟨_, D32 1, pk 1 4 0x1000000040, 0, isReq_read, by unfold Sound; decide +kernel, by decide +kernel, by decide +kernel, by decide +kernel,
     by decide +kernel, by decide +kernel⟩⟩

theorem wit_RequestsReachTheirStops :
    (∃ (d : Dev) (e : Dev) (p : Pkt) (r : Reply), p.op = 0x01 ∧ serveRead d p.who p.addr (p.lenm1 + 1) = (e, some r)) ∧
    (∃ (d : Dev) (e : Dev) (p : Pkt) (st : Nat), (p.op = 0x02 ∨ p.op = 0x20) ∧ serveWrite d p.who p.addr p.data p.mask p.syn = (e, some st)) ∧
    (∃ (d : Dev) (e : Dev) (_who : Who) (a : Nat) (n : Nat) (bs : List Byte), unitDown d a = false ∧ coreGone d a = false ∧ isReg a = false ∧ presentRange d.grade a n = true ∧ inMem d.grade a n = true ∧ memRead d a n = (e, .ok, bs)) ∧
    (∃ (d : Dev) (e : Dev) (f : Dev) (_who : Who) (a : Nat) (bs : List Byte) (mask : List Bool) (syn : List Nat), unitDown d a = false ∧ coreGone d a = false ∧ isReg a = false ∧ presentRange d.grade a bs.length = true ∧ inMem d.grade a bs.length = true ∧ writeShut d.grade a = false ∧ cohWrite d a bs.length = (e, true) ∧ memWrite e a bs mask syn = some f) ∧
    (∃ (d : Dev) (_who : Who) (a : Nat) (n : Nat), unitDown d a = false ∧ coreGone d a = false ∧ isReg a = false ∧ inMem d.grade a n = false ∧ (a < 0x1000000000 ∨ 0x1020000000 ≤ a)) ∧
    (∃ (d : Dev) (_who : Who) (a : Nat) (_n : Nat), unitDown d a = true) :=
  ⟨⟨D, (serveRead D (.core 9) (0x1000000040) 4).1, pk 1 4 (0x1000000040), ((serveRead D (.core 9) (0x1000000040) 4).2).getD ⟨9, [], []⟩, ⟨by decide +kernel, by decide +kernel⟩⟩,
   ⟨D, (serveWrite D (.core 9) (0x1000000040) (List.replicate 4 5) (List.replicate 4 true) []).1, pk 2 4 (0x1000000040), ((serveWrite D (.core 9) (0x1000000040) (List.replicate 4 5) (List.replicate 4 true) []).2).getD 99, ⟨by decide +kernel, by decide +kernel⟩⟩,
   ⟨memPut D 0x1000000040 [7, 8], (memRead (memPut D 0x1000000040 [7, 8]) (0x1000000040) 4).1, .spi, 0x1000000040, 4, (memRead (memPut D 0x1000000040 [7, 8]) (0x1000000040) 4).2.2, ⟨by decide +kernel, by decide +kernel, by decide +kernel, by decide +kernel, by decide +kernel, by decide +kernel⟩⟩,
   ⟨D, (cohWrite D (0x1000000040) 2).1, (memWrite (cohWrite D (0x1000000040) 2).1 (0x1000000040) [7, 8] [true, false] []).getD D, .spi, 0x1000000040, [7, 8], [true, false], [], ⟨by decide +kernel, by decide +kernel, by decide +kernel, by decide +kernel, by decide +kernel, by decide +kernel, by decide +kernel, by decide +kernel⟩⟩,
   ⟨D, .spi, 0x900000000, 4, ⟨by decide +kernel, by decide +kernel, by decide +kernel, by decide +kernel, by decide +kernel⟩⟩,
   ⟨fset (sbit D Reg.SRL_BOOT 10) Reg.SRL_BOOT 14 11 0, .spi, 0x100, 4, by decide +kernel⟩⟩

theorem wit_AnswersReachTheirInitiators :
    (∃ (d : Dev) (c : Nat) (tag : Nat) (p : Pkt), live d = true ∧ (d.fab.flight.find? (fun q => q.op = 0x10 ∧ q.who = .core c ∧ q.tag = tag) = some p) ∧ firstOf d p = true ∧ (p.src = p.dst ∨ (expired d p = false ∧ ∃ q ∈ d.fab.outst, q.who = .core c ∧ q.tag = tag))) ∧
    (∃ (d : Dev) (c : Nat) (tag : Nat) (p : Pkt), live d = true ∧ (d.fab.flight.find? (fun q => q.op = 0x11 ∧ q.who = .core c ∧ q.tag = tag) = some p) ∧ firstOf d p = true ∧ (p.src = p.dst ∨ (expired d p = false ∧ ∃ q ∈ d.fab.outst, q.who = .core c ∧ q.tag = tag))) ∧
    (∃ (d : Dev) (who : Who) (tag : Nat) (p : Pkt), live d = true ∧ (d.fab.flight.find? (fun q => q.op = 0x10 ∧ q.who = who ∧ q.tag = tag) = some p) ∧ firstOf d p = true ∧ p.src ≠ p.dst ∧ expired d p = true) ∧
    (∃ (d : Dev) (who : Who) (tag : Nat) (p : Pkt), live d = true ∧ (d.fab.flight.find? (fun q => q.op = 0x11 ∧ q.who = who ∧ q.tag = tag) = some p) ∧ firstOf d p = true ∧ p.src ≠ p.dst ∧ expired d p = true) ∧
    (∃ (d : Dev) (c : Nat) (tag : Nat) (kind : Nat) (dest : Nat) (v : Nat) (data : List Byte) (r : Rmt), (coreOf d c).doneDue = none ∧ ((coreOf d c).rmt.find? (fun r => decide (r.tag = tag) && !r.isSt) = some r) ∧ r.kind = kind ∧ r.dests = [dest] ∧ loadVals kind (ofBytes data) = [v]) ∧
    (∃ (d : Dev) (c : Nat) (tag : Nat) (st : Nat) (_data : List Byte) (r : Rmt), (coreOf d c).doneDue = none ∧ st ≠ 0 ∧ ((coreOf d c).rmt.find? (fun r => decide (r.tag = tag) && !r.isSt) = some r)) ∧
    (∃ (d : Dev) (c : Nat) (tag : Nat) (_st : Nat) (r : Rmt), (coreOf d c).doneDue = none ∧ ((coreOf d c).rmt.find? (fun r => decide (r.tag = tag) && r.isSt) = some r)) ∧
    (∃ (d : Dev) (who : Who) (tag : Nat) (p : Pkt), live d = true ∧ (d.fab.outst.find? (fun p => p.who = who ∧ p.tag = tag) = some p) ∧ expired d p = true) ∧
    (∃ (d : Dev) (who : Who) (tag : Nat) (p : Pkt), live d = true ∧ (d.fab.outst.find? (fun p => p.who = who ∧ p.tag = tag) = some p) ∧ expired d p = false) :=
  ⟨⟨cor false 4 (os [pk 1 4 0x40, pk 1 4 0x1000000040] (fl [ans 16 0 true] D)), 9, 7, ans 16 0 true, ⟨by decide +kernel, by decide +kernel, by decide +kernel, by decide +kernel⟩⟩,
   ⟨cor true 4 (os [pk 1 4 0x40, pk 1 4 0x1000000040] (fl [ans 17 0 true] D)), 9, 7, ans 17 0 true, ⟨by decide +kernel, by decide +kernel, by decide +kernel, by decide +kernel⟩⟩,
   ⟨aged (2 ^ 17) (fl [ans 0x10 0 false] D), .core 9, 7, ans 0x10 0 false, ⟨by decide +kernel, by decide +kernel, by decide +kernel, by decide +kernel, by decide +kernel⟩⟩,
   ⟨aged (2 ^ 17) (fl [ans 0x11 0 false] D), .core 9, 7, ans 0x11 0 false, ⟨by decide +kernel, by decide +kernel, by decide +kernel, by decide +kernel, by decide +kernel⟩⟩,
   ⟨cor false 0 D, 9, 7, 0, cS 5, 0xFFFFFF80, [0x80, 1, 2, 3], rmtr false 0, ⟨by decide +kernel, by decide +kernel, by decide +kernel, by decide +kernel, by decide +kernel⟩⟩,
   ⟨cor false 4 D, 9, 7, 3, [], rmtr false 4, ⟨by decide +kernel, by decide +kernel, by decide +kernel⟩⟩,
   ⟨cor true 4 D, 9, 7, 0, rmtr true 4, ⟨by decide +kernel, by decide +kernel⟩⟩,
   ⟨aged (2 ^ 17) (os [pk 1 4 0x4000000008] D), .core 9, 7, pk 1 4 0x4000000008, ⟨by decide +kernel, by decide +kernel, by decide +kernel⟩⟩,
   ⟨os [pk 1 4 0x4000000008] D, .core 9, 7, pk 1 4 0x4000000008, ⟨by decide +kernel, by decide +kernel, by decide +kernel⟩⟩⟩

theorem wit_LinksFailAndEpochsChange :
    (∃ (d : Dev) (c : Nat) (i : Nat), live d = true ∧ corePresent d.grade c = true ∧ domState d (c / 8) = 0 ∧ (d.owed.find? (fun n => match n with | .irq k _ => decide (k = c) | _ => false) = some (.irq c i))) ∧
    (∃ (d : Dev) (kind : Nat) (id : Nat), live d = true ∧ (kind = 0 ∨ kind = 2) ∧ id < linkIds kind ∧ d.fab.winAt = d.fab.age / 1966080 ∧ mget 0 d.fab.replays (kind * 128 + id) < fget d Reg.FAB_CTRL 15 8) ∧
    (∃ (d : Dev) (kind : Nat) (id : Nat), live d = true ∧ (kind = 0 ∨ kind = 2) ∧ id < linkIds kind ∧ rbit d Reg.FAB_CTRL 0 = true) ∧
    (∃ (d : Dev) (kind : Nat) (id : Nat), live d = true ∧ id < linkIds kind ∧ rbit d Reg.FAB_CTRL 0 = true) ∧
    (∃ (d : Dev) (kind : Nat) (id : Nat), live d = true ∧ id < linkIds kind ∧ rbit d Reg.FAB_CTRL 0 = false ∧ isFailed d kind id = false) ∧
    (∃ (d : Dev) (kind : Nat) (id : Nat), live d = true ∧ id < linkIds kind ∧ isFailed d kind id = false ∧ rbit d Reg.FAB_STATUS 0 = false) ∧
    (∃ (d : Dev) (kind : Nat) (id : Nat), live d = true ∧ id < linkIds kind ∧ isFailed d kind id = true) ∧
    (∃ (d : Dev) (kind : Nat) (id : Nat), live d = true ∧ id < linkIds kind) ∧
    (∃ (d : Dev) (kind : Nat) (id : Nat) (since : Nat), live d = true ∧ id < linkIds kind ∧ rbit d Reg.FAB_STATUS 0 = false ∧ (d.fab.rts.find? (fun t => t.kind = kind ∧ t.id = id) = some ⟨kind, id, since, false⟩) ∧ usPassed d since 1000 = true) ∧
    (∃ (d : Dev) (kind : Nat) (id : Nat) (since : Nat), live d = true ∧ (d.fab.rts.find? (fun t => t.kind = kind ∧ t.id = id) = some ⟨kind, id, since, true⟩) ∧ usPassed d since 1000 = true) ∧
    (∃ (d : Dev) (s : Nat), live d = true ∧ s < 56 ∧ d.fab.step = 1) ∧
    (∃ (d : Dev), live d = true ∧ d.fab.step = 1 ∧ d.fab.tables = 2 ^ 56 - 1) ∧
    (∃ (d : Dev), live d = true ∧ d.fab.tables ≠ 2 ^ 56 - 1) ∧
    (∃ (d : Dev) (s : Nat), live d = true ∧ s < 56 ∧ d.fab.step = 2) ∧
    (∃ (d : Dev), live d = true ∧ d.fab.step = 2 ∧ d.fab.flipped = 2 ^ 56 - 1 ∧ rbit d Reg.FAB_STATUS 2 = false ∧ d.fab.circ = [] ∧ (∀ p ∈ d.fab.flight, p.src = p.dst ∨ p.epoch ≠ b2n (rbit d Reg.FAB_STATUS 1))) ∧
    (∃ (d : Dev) (p : Pkt), live d = true ∧ d.fab.step = 2 ∧ p ∈ d.fab.flight ∧ p.src ≠ p.dst ∧ p.epoch = b2n (rbit d Reg.FAB_STATUS 1)) ∧
    (∃ (_s : State) (n : Nat), n < 56) :=
  ⟨⟨{ D with owed := [.irq 4 5, .irq 3 7] }, 3, 7, ⟨by decide +kernel, by decide +kernel, by decide +kernel, by decide +kernel⟩⟩,
   ⟨{ D with fab := { D.fab with replays := [(256 + 111, 6)] } }, 2, 111, ⟨by decide +kernel, by decide +kernel, by decide +kernel, by decide +kernel, by decide +kernel⟩⟩,
   ⟨(sbit (sbit (fl [pk 1 4 0x100, { pk 1 4 0x40 with src := 30 }] D) Reg.FAB_CTRL 0) Reg.FAB_CTRL 1), 0, 59, ⟨by decide +kernel, by decide +kernel, by decide +kernel, by decide +kernel⟩⟩,
   ⟨(sbit (sbit (fl [pk 1 4 0x100, { pk 1 4 0x40 with src := 30 }] D) Reg.FAB_CTRL 0) Reg.FAB_CTRL 1), 0, 59, ⟨by decide +kernel, by decide +kernel, by decide +kernel⟩⟩,
   ⟨cbit D Reg.FAB_CTRL 0, 0, 59, ⟨by decide +kernel, by decide +kernel, by decide +kernel, by decide +kernel⟩⟩,
   ⟨(sbit (sbit (fl [pk 1 4 0x100, { pk 1 4 0x40 with src := 30 }] D) Reg.FAB_CTRL 0) Reg.FAB_CTRL 1), 0, 59, ⟨by decide +kernel, by decide +kernel, by decide +kernel, by decide +kernel⟩⟩,
   ⟨sbit D (failBit 0 59).1 (failBit 0 59).2, 0, 59, ⟨by decide +kernel, by decide +kernel, by decide +kernel⟩⟩,
   ⟨D, 0, 59, ⟨by decide +kernel, by decide +kernel⟩⟩,
   ⟨let d := aged (10 ^ 8) (sbit D (failBit 0 59).1 (failBit 0 59).2); { d with fab := { d.fab with rts := [⟨0, 7, 1, true⟩, ⟨0, 59, 5, false⟩] } }, 0, 59, 5, ⟨by decide +kernel, by decide +kernel, by decide +kernel, by decide +kernel, by decide +kernel⟩⟩,
   ⟨let d := aged (10 ^ 8) D; { d with fab := { d.fab with rts := [⟨0, 7, 1, true⟩, ⟨0, 59, 5, true⟩] } }, 0, 59, 5, ⟨by decide +kernel, by decide +kernel, by decide +kernel⟩⟩,
   ⟨{ D with fab := { D.fab with step := 1, tables := 5 } }, 55, ⟨by decide +kernel, by decide +kernel, by decide +kernel⟩⟩,
   ⟨{ D with fab := { D.fab with step := 1, tables := 2 ^ 56 - 1 } }, ⟨by decide +kernel, by decide +kernel, by decide +kernel⟩⟩,
   ⟨D, ⟨by decide +kernel, by decide +kernel⟩⟩,
   ⟨{ D with fab := { D.fab with step := 2, tables := 5 } }, 55, ⟨by decide +kernel, by decide +kernel, by decide +kernel⟩⟩,
   ⟨{ D with fab := { D.fab with step := 2, flipped := 2 ^ 56 - 1, flight := [{ pk 1 4 0x40 with epoch := 1 }] } }, ⟨by decide +kernel, by decide +kernel, by decide +kernel, by decide +kernel, by decide +kernel, by decide +kernel⟩⟩,
   ⟨{ D with fab := { D.fab with step := 2, flipped := 2 ^ 56 - 1, flight := [{ pk 1 4 0x40 with epoch := 0 }] } }, { pk 1 4 0x40 with epoch := 0 }, ⟨by decide +kernel, by decide +kernel, by decide +kernel, by decide +kernel, by decide +kernel⟩⟩,
   ⟨⟨[], D⟩, 3, by decide +kernel⟩⟩

end Sys2Proof.Tests.W11

/-! ## Witnesses: access codes, consumers, power domains -/

namespace Sys2Proof.Tests.W12
open Sys2Proof Sys2Proof.Machine Sys2Proof.Safety Sys2Proof.Claims

def D : Dev := Dev.reset
def qq (cfg bind : Nat) (x : Queue) (d : Dev) : Dev := setQ (wr64 (ww (ww d (Reg.QMG_QCFG 3) cfg) (Reg.QMG_QBIND 3) bind) (Reg.QMG_QBASE 3) 0x40) 3 x
def fftq : Dev := qq 0xE4 5 ⟨1, 0, 0, [.pub, .pub, .void], 7⟩ (setDom (sbit D (0x3000C00000 + 0x100 + 4 * 5) 0) 32 0)
def macq : Dev := qq 0xE8 1 ⟨1, 0, 0, [.pub, .void, .pub], 0⟩ (memPut (ww (setDom (ww D (Reg.MACG_CTRL 0) 5) 39 0) (Reg.MAC_CFG 0 1) 1) 0x40 ((List.replicate 12 0) ++ [1]))
def dm (p st : Nat) : Dev := setDom D p st
def dp (p st : Nat) (f : Pwr → Pwr) : Dev := { dm p st with pwr := f D.pwr }
def P0 : Pkt := ⟨.spi, 0, 0, 0, false, 0, 0, 0, 0, 0, 0, 0, 0, 0, 0, [], [], []⟩
def aged (n : Nat) (d : Dev) : Dev := { d with fab := { d.fab with age := n } }

theorem run_next {f : Dev → Dev} {d : Dev} (h : live d = true) (q : List Instr) : run ⟨q, d⟩ f = .next ⟨q, f d⟩ := by
  unfold run; rw [if_pos h]

def tq : Dev := (fun d => ww (ww (ww d (Reg.TSY_POOL_CFG 0) 1) (Reg.TSY_POOL_MASK 0 0) 1) (Reg.QMG_QCFG 3) 224) (sbit (sbit (setQ D 3 ⟨1, 0, 0, [.pub], 0⟩) Reg.TSY_CTRL 0) Reg.SRL_BOOT 15)

theorem wit_HardwareConsumersTakeTheHead :
    (∃ (d : Dev) (t : Dev) (q : Nat), live d = true ∧ qType d q = 0 ∧ nextWork d = some q ∧ Does .descriptorAccept d t) ∧
    (∃ (d : Dev) (e : Dev) (q : Nat) (kind : Nat) (j : Nat) (bs : List Byte), live d = true ∧ qType d q = 2 ∧ kind = qUnit d q / 32 ∧ j = qUnit d q % 32 ∧ engNext d kind j = some q ∧ domState d (engDomain kind) = 0 ∧ engEn d kind j = true ∧ (engOf d (engKey kind j)).job = none ∧ hwTake d q = (e, .entry bs)) ∧
    (∃ (d : Dev) (e : Dev) (q : Nat) (m : Nat) (bs : List Byte), live d = true ∧ qType d q = 4 ∧ m = qUnit d q ∧ macPort d m = true ∧ (∀ h ∈ (macOf d m).heads, h.q ≠ q) ∧ hwTake d q = (e, .entry bs)) ∧
    (∃ (d : Dev) (e : Dev) (q : Nat) (bs : List Byte), (qOf d q).st = 1 ∧ 0 < avail (qOf d q).slots ∧ memRead d (qBase d q + (qOf d q).head * qEsz d q) (qEsz d q) = (e, .ok, bs)) :=
  ⟨⟨tq, descriptorAccept tq, 3, ⟨by decide +kernel, by decide +kernel, by decide +kernel, by exact fun q => run_next (f := descriptorAccept) (d := tq) (by decide +kernel) q⟩⟩,
   ⟨fftq, (hwTake fftq 3).1, 3, 0, 5, List.replicate 64 0, ⟨by decide +kernel, by decide +kernel, by decide +kernel, by decide +kernel, by decide +kernel, by decide +kernel, by decide +kernel, by decide +kernel, by decide +kernel⟩⟩,
   ⟨macq, (hwTake macq 3).1, 3, 1, (match (hwTake macq 3).2 with | .entry b => b | _ => []), ⟨by decide +kernel, by decide +kernel, by decide +kernel, by decide +kernel, by decide +kernel, by decide +kernel⟩⟩,
   ⟨fftq, (memRead fftq 0x40 64).1, 3, List.replicate 64 0, ⟨by decide +kernel, by decide +kernel, by decide +kernel⟩⟩⟩

theorem wit_AccessCodesDecideWritesAndReads :
    (∃ (_d : Dev) (a : Nat) (_v : Nat) (i : Nat), i < 32 ∧ ((accMask a (fun x => decide (x = .rw))).testBit i = true) ∧ ((accMask a (fun x => decide (x = .w1c))).testBit i = false) ∧ ((accMask a (fun x => decide (x = .w1s))).testBit i = false)) ∧
    (∃ (_d : Dev) (a : Nat) (_v : Nat) (i : Nat), i < 32 ∧ ((accMask a (fun x => decide (x = .rw))).testBit i = false) ∧ ((accMask a (fun x => decide (x = .w1c))).testBit i = true) ∧ ((accMask a (fun x => decide (x = .w1s))).testBit i = false)) ∧
    (∃ (_d : Dev) (a : Nat) (_v : Nat) (i : Nat), i < 32 ∧ ((accMask a (fun x => decide (x = .rw))).testBit i = false) ∧ ((accMask a (fun x => decide (x = .w1c))).testBit i = false) ∧ ((accMask a (fun x => decide (x = .w1s))).testBit i = false)) ∧
    (∃ (_d : Dev) (a : Nat) (b : Nat) (_v : Nat), b ≠ a) ∧
    (∃ (_d : Dev) (a : Nat) (_v : Nat) (i : Nat), i < 32 ∧ (stgMask a).testBit i = true) ∧
    (∃ (d : Dev) (_who : Who) (a : Nat), viewOf a = (0, a) ∧ absentReg d.grade a = false ∧ regFits a 4 = true ∧ a < 0x4000000000) ∧
    (∃ (_d : Dev) (_a : Nat) (i : Nat), i < 32) ∧
    (∃ (d : Dev) (_who : Who) (a : Nat) (b : Nat), viewOf a = (1, b) ∧ a % 4 = 0 ∧ absentReg d.grade a = false ∧ regFits b 4 = true) ∧
    (∃ (d : Dev) (_who : Who) (a : Nat) (b : Nat), viewOf a = (2, b) ∧ a % 4 = 0 ∧ absentReg d.grade a = false ∧ regFits b 4 = true ∧ snapMask b ≠ 0) ∧
    (∃ (_d : Dev) (_who : Who) (a : Nat) (n : Nat) (_v : Nat), ((n ≠ 4 ∧ n ≠ 8) ∨ a % n ≠ 0)) ∧
    (∃ (d : Dev) (_who : Who) (a : Nat) (n : Nat) (_v : Nat), (n = 4 ∨ n = 8) ∧ a % n = 0 ∧ absentReg d.grade a = true) ∧
    (∃ (d : Dev) (_who : Who) (a : Nat) (_n : Nat) (_v : Nat), absentReg d.grade a = false ∧ (viewOf a).1 ≠ 0) ∧
    (∃ (d : Dev) (_who : Who) (a : Nat) (_n : Nat) (_v : BitVec 64), live d = true ∧ 0x3000000000 ≤ a ∧ a < 0x3010000000 ∧ blockListed a = true ∧ unitDown d a = false ∧ addrServes d a = true) ∧
    (∃ (d : Dev) (_who : Who) (a : Nat) (_n : Nat) (_v : BitVec 64), live d = true ∧ 0x3000000000 ≤ a ∧ a < 0x3010000000 ∧ blockListed a = false) ∧
    (∃ (d : Dev) (_who : Who) (_v : BitVec 64), live d = true ∧ unitDown d (Reg.FEN_GL_CFG 0) = false ∧ domState d 37 = 0) :=
  ⟨⟨ww D 206158430216 0xFFFFFFFF, 206158430216, 0, 0, ⟨by decide +kernel, by decide +kernel, by decide +kernel, by decide +kernel⟩⟩,
   ⟨ww D 206158430244 0xFFFFFFFF, 206158430244, 0, 2, ⟨by decide +kernel, by decide +kernel, by decide +kernel, by decide +kernel⟩⟩,
   ⟨ww D 206158430212 0xFFFFFFFF, 206158430212, 0, 0, ⟨by decide +kernel, by decide +kernel, by decide +kernel, by decide +kernel⟩⟩,
   ⟨D, 206158430464, 206158430468, 5, by decide +kernel⟩,
   ⟨D, 206158430464, 0xFFFFFFFF, 0, ⟨by decide +kernel, by decide +kernel⟩⟩,
   ⟨ww D 206158430464 0xFFFFFFFF, .spi, 206158430464, ⟨by decide +kernel, by decide +kernel, by decide +kernel, by decide +kernel⟩⟩,
   ⟨ww D 206225539084 0xFFFFFFFF, 206225539084, 0, by decide +kernel⟩,
   ⟨ww D 206158430464 0xFFFFFFFF, .spi, 206158692608, 206158430464, ⟨by decide +kernel, by decide +kernel, by decide +kernel, by decide +kernel⟩⟩,
   ⟨ww D 206225539084 5, .spi, 206226063372, 206225539084, ⟨by decide +kernel, by decide +kernel, by decide +kernel, by decide +kernel, by decide +kernel⟩⟩,
   ⟨D, .spi, 0x3000000002, 4, 5, by decide +kernel⟩,
   ⟨{ D with grade := .am }, .spi, 0x3005F10000, 8, 5, ⟨by decide +kernel, by decide +kernel, by decide +kernel⟩⟩,
   ⟨D, .spi, 0x3000040000, 4, 5, ⟨by decide +kernel, by decide +kernel⟩⟩,
   ⟨D, .spi, Reg.FAB_TMO, 4, 0x101010, ⟨by decide +kernel, by decide +kernel, by decide +kernel, by decide +kernel, by decide +kernel, by decide +kernel⟩⟩,
   ⟨D, .spi, 0x3001400000, 4, 5, ⟨by decide +kernel, by decide +kernel, by decide +kernel, by decide +kernel⟩⟩,
   ⟨setDom D 37 0, .spi, 0xFFFFFFFFFFFFFFFF, ⟨by decide +kernel, by decide +kernel, by decide +kernel⟩⟩⟩

theorem wit_PowerDomainsFollowTheirStates :
    (∃ (d : Dev) (p : Nat), live d = true ∧ domState d p = 0) ∧
    (∃ (d : Dev) (p : Nat), live d = true ∧ domPresent d.grade p = false) ∧
    (∃ (d : Dev) (p : Nat), live d = true ∧ (domState d p = 4 ∨ domState d p = 5)) ∧
    (∃ (d : Dev) (p : Nat), live d = true ∧ domState d p = 1 ∧ domQuiet d p = true) ∧
    (∃ (d : Dev) (p : Nat), live d = true ∧ domQuiet d p = false) ∧
    (∃ (d : Dev) (p : Nat), live d = true ∧ domState d p = 2 ∧ (∀ x ∈ d.fab.heldPk, x.1 ≠ p) ∧ (∀ x ∈ d.pwr.wakeNpr, x.1 ≠ p)) ∧
    (∃ (d : Dev) (p : Nat), live d = true ∧ domState d p = 2 ∧ (∃ x ∈ d.fab.heldPk, x.1 = p)) ∧
    (∃ (d : Dev) (p : Nat), live d = true ∧ domState d p = 1 ∧ d.pwr.listenAt = none ∧ usPassed d (mget 0 d.pwr.drainAt p) 40 = true) ∧
    (∃ (d : Dev) (p : Nat), live d = true ∧ usPassed d (mget 0 d.pwr.drainAt p) 40 = false) ∧
    (∃ (d : Dev) (p : Nat), live d = true ∧ domPresent d.grade p = true ∧ domState d p = 3) ∧
    (∃ (d : Dev) (p : Nat), live d = true ∧ domState d p = 1) ∧
    (∃ (d : Dev) (p : Nat) (ps : List Nat), live d = true ∧ d.pwr.wakeq = p :: ps ∧ domPresent d.grade p = true ∧ waking d < 2) ∧
    (∃ (d : Dev), live d = true ∧ 2 ≤ waking d) ∧
    (∃ (d : Dev) (p : Nat), live d = true ∧ domState d p = 5 ∧ usPassed d (mget 0 d.pwr.rampAt p) 4 = true ∧ (∀ x ∈ d.fab.heldPk ++ d.fab.circ, x.1 ≠ p) ∧ p ∉ d.pwr.downHeld) ∧
    (∃ (d : Dev) (p : Nat), live d = true ∧ usPassed d (mget 0 d.pwr.rampAt p) 4 = false) :=
  ⟨⟨dm 0 0, 0, ⟨by decide +kernel, by decide +kernel⟩⟩,
   ⟨D, 45, ⟨by decide +kernel, by decide +kernel⟩⟩,
   ⟨dm 0 4, 0, ⟨by decide +kernel, by decide +kernel⟩⟩,
   ⟨dm 0 1, 0, ⟨by decide +kernel, by decide +kernel, by decide +kernel⟩⟩,
   ⟨setCore (dm 0 1) 3 { Core.reset with running := true }, 0, ⟨by decide +kernel, by decide +kernel⟩⟩,
   ⟨memPut (dm 0 2) 0x1000000040 [1, 2], 0, ⟨by decide +kernel, by decide +kernel, by decide +kernel, by decide +kernel⟩⟩,
   ⟨{ dm 0 2 with fab := { D.fab with heldPk := [(0, P0)] } }, 0, ⟨by decide +kernel, by decide +kernel, by decide +kernel⟩⟩,
   ⟨aged (10^6) (dm 0 1), 0, ⟨by decide +kernel, by decide +kernel, by decide +kernel, by decide +kernel⟩⟩,
   ⟨dm 0 1, 0, ⟨by decide +kernel, by decide +kernel⟩⟩,
   ⟨sbit (sbit (dm 0 3) (Reg.TSY_CORE_CTL 1) 0) (Reg.MON_CORE_OUT 0) 1, 0, ⟨by decide +kernel, by decide +kernel, by decide +kernel⟩⟩,
   ⟨dm 0 1, 0, ⟨by decide +kernel, by decide +kernel⟩⟩,
   ⟨dp 0 4 (fun x => { x with wakeq := [0, 9] }), 0, [9], ⟨by decide +kernel, by decide +kernel, by decide +kernel, by decide +kernel⟩⟩,
   ⟨setDom (setDom D 0 5) 1 5, ⟨by decide +kernel, by decide +kernel⟩⟩,
   ⟨aged (10^6) (setCore (dm 0 5) 0 { Core.reset with pc := 4 }), 0, ⟨by decide +kernel, by decide +kernel, by decide +kernel, by decide +kernel, by decide +kernel⟩⟩,
   ⟨dm 0 5, 0, ⟨by decide +kernel, by decide +kernel⟩⟩⟩

end Sys2Proof.Tests.W12

/-! ## Witnesses: memory integrity -/

namespace Sys2Proof.Tests.W13
open Sys2Proof Sys2Proof.Machine Sys2Proof.Safety Sys2Proof.Claims

def D : Dev := Dev.reset
def LA : Nat := 0x100
def SA : Nat := 0x4000
def L1 : List Byte := (List.range 64).map (fun i => BitVec.ofNat 8 (i * 7))
def MK : List Bool := (List.range 64).map (fun i => i % 3 = 0)
def bad (s : Nat) : Dev := setSyn { D with mem := setBytes [] LA L1 } LA s
def rfw (d : Dev) : Dev := ww (wr64 (wr64 (ww d (Reg.MEM_RFW_LEN 5) 0x400) (Reg.MEM_RFW_DST 5) 0) (Reg.MEM_RFW_SRC 5) (SA - LA)) (Reg.MEM_RFW_CFG 5) 1
def rfd (w : List (List Byte × List Bool)) (syn : Nat) : Dev := { setSyn { D with mem := setBytes [] SA L1 } SA syn with integ := { D.integ with refs := [⟨LA, SA, true, 9, w⟩], uncorr := [LA] } }
def tst (d : Dev) : Dev := ww (wr64 (ww (wr64 d Reg.MEM_TEST_BASE 0) Reg.MEM_TEST_LEN 0x1000) Reg.MEM_TEST_ADDR LA) Reg.MEM_TEST_CTRL 1
def pass (mode : Nat) (d : Dev) : Dev := { (wr64 d Reg.TSL_POS LA) with integ := { d.integ with pass := { Pass.reset with running := true, mode := mode, stop := 0x10000, skipped := 2 ^ 32 - 1 } } }
def recd (d : Dev) : Dev := { d with integ := { d.integ with recs := [{ line := LA, prod := 5, got := 3 }] } }

theorem wit_ChecksFollowTheirLines :
    (∃ (as : List Byte) (bs : List Byte), as.length = bs.length) ∧
    (∃ (d : Dev) (la : Nat) (bs : List Byte), bs.length = 64 ∧ (∀ r ∈ d.integ.recs, r.line ≠ la)) ∧
    (∃ (d : Dev) (la : Nat) (syn : Nat) (bs : List Byte), bs.length = 64 ∧ (∀ r ∈ d.integ.recs, r.line ≠ la) ∧ syn ≠ 0) ∧
    (∃ (d : Dev) (la : Nat) (_syn : Nat) (_bs : List Byte) (mask : List Bool), mask.all id = false ∧ mask.length = 64 ∧ (∀ r ∈ d.integ.recs, r.line ≠ la) ∧ (∀ r ∈ d.integ.refs, r.dst ≠ la) ∧ la ∉ d.integ.uncorr) ∧
    (∃ (d : Dev) (e : Dev) (la : Nat) (syn : Nat) (b : Nat) (bs : List Byte) (mask : List Bool), writeLine d la bs mask syn = some e ∧ (b < la ∨ la + 64 ≤ b)) :=
  ⟨⟨L1, List.replicate 64 0x5A, by decide +kernel⟩,
   ⟨bad 7, LA, List.replicate 64 0x5A, ⟨by decide +kernel, by decide +kernel⟩⟩,
   ⟨rfd [] 0, LA, 7, L1, ⟨by decide +kernel, by decide +kernel, by decide +kernel⟩⟩,
   ⟨bad 7, LA, 8, List.replicate 64 0x5A, MK, ⟨by decide +kernel, by decide +kernel, by decide +kernel, by decide +kernel, by decide +kernel⟩⟩,
   ⟨bad 7, (writeLine (bad 7) LA (List.replicate 64 0x5A) MK 3).getD D, LA, 3, 0x140, List.replicate 64 0x5A, MK, ⟨by decide +kernel, by decide +kernel⟩⟩⟩

theorem wit_FailingLinesAreDecided :
    (∃ (d : Dev) (la : Nat) (_s : Bool), synOf d la = 0 ∧ la ∉ d.integ.uncorr ∧ cohBusy d la = false ∧ dirState d la ≠ 2) ∧
    (∃ (d : Dev) (la : Nat) (_s : Bool), synOf d la = 0x5A3C ∧ la ∉ d.integ.uncorr) ∧
    (∃ (d : Dev) (la : Nat) (_s : Bool), synOf d la ≠ 0 ∧ inTest d la = true ∧ la ∉ d.integ.uncorr) ∧
    (∃ (d : Dev) (la : Nat) (_s : Bool), synOf d la ≠ 0 ∧ synOf d la ≠ 0x5A3C ∧ inTest d la = false ∧ (∃ r ∈ d.integ.recs, r.line = la)) ∧
    (∃ (d : Dev) (la : Nat) (src : Nat) (_s : Bool), PlainLine d la ∧ synOf d la ≠ 0 ∧ synOf d la ≠ 0x5A3C ∧ refetchSrc d la = some src ∧ d.integ.refs.length < 64) ∧
    (∃ (d : Dev) (la : Nat) (_s : Bool), PlainLine d la ∧ synOf d la ≠ 0 ∧ synOf d la ≠ 0x5A3C ∧ refetchSrc d la = none ∧ retainedOwner d la = none) ∧
    (∃ (d : Dev) (e : Dev) (la : Nat) (r : Refetch), live d = true ∧ d.integ.pass.running = false ∧ (d.integ.refs.find? (fun r => r.dst = la) = some r) ∧ r.waits = [] ∧ decideLine d r.src false = (e, .ok)) ∧
    (∃ (d : Dev) (e : Dev) (la : Nat) (r : Refetch) (bs : List Byte) (mask : List Bool), live d = true ∧ d.integ.pass.running = false ∧ (d.integ.refs.find? (fun r => r.dst = la) = some r) ∧ r.waits = [(bs, mask)] ∧ mask.length = 64 ∧ mask.all id = false ∧ la < 2 ^ 48 ∧ (∀ q ∈ d.integ.recs, q.line ≠ la) ∧ decideLine d r.src false = (e, .ok)) ∧
    (∃ (d : Dev) (e : Dev) (la : Nat) (r : Refetch) (x : Ans), live d = true ∧ d.integ.pass.running = false ∧ (d.integ.refs.find? (fun r => r.dst = la) = some r) ∧ r.waits = [] ∧ decideLine d r.src false = (e, x) ∧ x ≠ .ok ∧ retainedOwner e la = none) ∧
    (∃ (d : Dev) (w : Nat), live d = true ∧ w < 64 ∧ rfwOk d w = true) ∧
    (∃ (d : Dev) (w : Nat), live d = true ∧ w < 64 ∧ rfwOk d w = false) ∧
    (∃ (d : Dev) (c : Nat) (_x : Byte), live d = true ∧ c < 2) :=
  ⟨⟨bad 0, LA, true, ⟨by decide +kernel, by decide +kernel, by decide +kernel, by decide +kernel⟩⟩,
   ⟨bad 0x5A3C, LA, true, ⟨by decide +kernel, by decide +kernel⟩⟩,
   ⟨tst (bad 7), LA, true, ⟨by decide +kernel, by decide +kernel, by decide +kernel⟩⟩,
   ⟨recd (bad 7), LA, true, ⟨by decide +kernel, by decide +kernel, by decide +kernel, by decide +kernel⟩⟩,
   ⟨rfw (bad 7), LA, SA, true, ⟨by constructor <;> decide +kernel, by decide +kernel, by decide +kernel, by decide +kernel, by decide +kernel⟩⟩,
   ⟨bad 7, LA, true, ⟨by constructor <;> decide +kernel, by decide +kernel, by decide +kernel, by decide +kernel, by decide +kernel⟩⟩,
   ⟨rfd [] 0, (decideLine (rfd [] 0) SA false).1, LA, ⟨LA, SA, true, 9, []⟩, ⟨by decide +kernel, by decide +kernel, by decide +kernel, by decide +kernel, by decide +kernel⟩⟩,
   ⟨rfd [(List.replicate 64 0x5A, MK)] 0, (decideLine (rfd [(List.replicate 64 0x5A, MK)] 0) SA false).1, LA, ⟨LA, SA, true, 9, [(List.replicate 64 0x5A, MK)]⟩, List.replicate 64 0x5A, MK, ⟨by decide +kernel, by decide +kernel, by decide +kernel, by decide +kernel, by decide +kernel, by decide +kernel, by decide +kernel, by decide +kernel, by decide +kernel⟩⟩,
   ⟨rfd [] 7, (decideLine (rfd [] 7) SA false).1, LA, ⟨LA, SA, true, 9, []⟩, .poison, ⟨by decide +kernel, by decide +kernel, by decide +kernel, by decide +kernel, by decide +kernel, by decide +kernel, by decide +kernel⟩⟩,
   ⟨rfw D, 5, ⟨by decide +kernel, by decide +kernel, by decide +kernel⟩⟩,
   ⟨ww (rfw D) (Reg.MEM_RFW_LEN 5) 7, 5, ⟨by decide +kernel, by decide +kernel, by decide +kernel⟩⟩,
   ⟨D, 1, 85, ⟨by decide +kernel, by decide +kernel⟩⟩⟩

theorem wit_TeaselScrubsAndTestOperationsAct :
    (∃ (d : Dev) (a : Nat) (e : Nat), live d = true ∧ rbit d Reg.TSL_STATUS 0 = false ∧ a = rd64 d Reg.TSL_START / 64 * 64 ∧ e = rd64 d Reg.TSL_END / 64 * 64 ∧ a < e ∧ inRegion a (e - a) = true ∧ presentRange d.grade a (e - a) = true) ∧
    (∃ (d : Dev), live d = true ∧ rbit d Reg.TSL_STATUS 0 = true) ∧
    (∃ (d : Dev), live d = true ∧ rbit d Reg.TSL_STATUS 0 = false ∧ rd64 d Reg.TSL_END / 64 * 64 ≤ rd64 d Reg.TSL_START / 64 * 64) ∧
    (∃ (d : Dev), live d = true ∧ rbit d Reg.TSL_STATUS 0 = true) ∧
    (∃ (d : Dev) (la : Nat), PassAt d la 0 ∧ addrServes d la = true ∧ inTest d la = false ∧ (memKind d.grade la).isSome = true ∧ synOf d la = 0 ∧ la ∉ d.integ.uncorr ∧ cohBusy d la = false ∧ dirState d la ≠ 2) ∧
    (∃ (d : Dev) (la : Nat) (mode : Nat), PassAt d la mode ∧ (addrServes d la = false ∨ inTest d la = true ∨ memKind d.grade la = none)) ∧
    (∃ (d : Dev) (la : Nat) (mode : Nat), PassAt d la mode ∧ addrServes d la = true ∧ inTest d la = false ∧ (memKind d.grade la).isSome = true ∧ synOf d la = 0x5A3C ∧ la ∉ d.integ.uncorr) ∧
    (∃ (d : Dev) (la : Nat), PassAt d la 1 ∧ addrServes d la = true ∧ inTest d la = false ∧ (memKind d.grade la).isSome = true ∧ synOf d la ≠ 0 ∧ synOf d la ≠ 0x5A3C) ∧
    (∃ (d : Dev) (r : Nat) (a : Nat), a = rd64 d Reg.TSL_SUMADDR / 64 * 64 ∧ inMem d.grade a 64 = true ∧ writeShut d.grade a = false ∧ cohHeld d a = false ∧ a < 2 ^ 48 ∧ r < 16) ∧
    (∃ (d : Dev) (la : Nat), TestReady d la) ∧
    (∃ (d : Dev) (la : Nat), TestReady d la) ∧
    (∃ (d : Dev) (la : Nat), TestReady d la) ∧
    (∃ (d : Dev), live d = true ∧ rbit d Reg.MEM_TEST_CTRL 0 = false) ∧
    (∃ (d : Dev), live d = true ∧ d.integ.testOp = 4) :=
  ⟨⟨wr64 (wr64 (sbit D Reg.TSL_CTRL 0) Reg.TSL_START 0x123) Reg.TSL_END 0x234, 0x100, 0x200, ⟨by decide +kernel, by decide +kernel, by decide +kernel, by decide +kernel, by decide +kernel, by decide +kernel, by decide +kernel⟩⟩,
   ⟨sbit D Reg.TSL_STATUS 0, ⟨by decide +kernel, by decide +kernel⟩⟩,
   ⟨D, ⟨by decide +kernel, by decide +kernel, by decide +kernel⟩⟩,
   ⟨sbit D Reg.TSL_STATUS 0, ⟨by decide +kernel, by decide +kernel⟩⟩,
   ⟨pass 0 (bad 0), LA, ⟨by constructor <;> decide +kernel, by decide +kernel, by decide +kernel, by decide +kernel, by decide +kernel, by decide +kernel, by decide +kernel, by decide +kernel⟩⟩,
   ⟨tst (pass 1 (bad 7)), LA, 1, ⟨by constructor <;> decide +kernel, by decide +kernel⟩⟩,
   ⟨pass 0 (bad 0x5A3C), LA, 0, ⟨by constructor <;> decide +kernel, by decide +kernel, by decide +kernel, by decide +kernel, by decide +kernel, by decide +kernel⟩⟩,
   ⟨pass 1 (bad 7), LA, ⟨by constructor <;> decide +kernel, by decide +kernel, by decide +kernel, by decide +kernel, by decide +kernel, by decide +kernel⟩⟩,
   ⟨(pass 0 D), 1, 0, ⟨by decide +kernel, by decide +kernel, by decide +kernel, by decide +kernel, by decide +kernel, by decide +kernel⟩⟩,
   ⟨tst (bad 7), LA, by constructor <;> decide +kernel⟩,
   ⟨ww (tst (bad 7)) (Reg.MEM_TEST_DATA 3) 0x12345678, LA, by constructor <;> decide +kernel⟩,
   ⟨ww (tst (bad 7)) Reg.MEM_TEST_CHK 0xFFFF1234, LA, by constructor <;> decide +kernel⟩,
   ⟨D, ⟨by decide +kernel, by decide +kernel⟩⟩,
   ⟨{ D with integ := { D.integ with testOp := 4 } }, ⟨by decide +kernel, by decide +kernel⟩⟩⟩

theorem wit_MemoryHoldsWhatIsWritten :
    (∃ (d : Dev) (a : Nat) (i : Nat) (bs : List Byte), a + bs.length ≤ 2 ^ 48 ∧ Free d a bs.length ∧ i < bs.length) ∧
    (∃ (_d : Dev) (a : Nat) (b : Nat) (bs : List Byte), a + bs.length ≤ 2 ^ 48 ∧ b < 2 ^ 48 ∧ (b < a ∨ a + bs.length ≤ b)) ∧
    (∃ (d : Dev) (_a : Nat) (_bs : List Byte), Memory.wf d.mem = true) ∧
    (∃ (d : Dev) (e : Dev) (a : Nat) (bs : List Byte) (mask : List Bool) (syns : List Nat), Memory.wf d.mem = true ∧ memWrite d a bs mask syns = some e) :=
  ⟨⟨bad 7, 0x13F, 0, L1 ++ [1, 2, 3, 4, 5, 6], ⟨by decide +kernel, by unfold Claims.Free; decide +kernel, by decide +kernel⟩⟩,
   ⟨bad 7, 0x13F, 0x13E, L1 ++ [1, 2, 3, 4, 5, 6], ⟨by decide +kernel, by decide +kernel, by decide +kernel⟩⟩,
   ⟨bad 7, 0x13F, L1, by decide +kernel⟩,
   ⟨bad 7, (memWrite (bad 7) 0x13F L1 [] []).getD D, 0x13F, L1, [], [], ⟨by decide +kernel, by decide +kernel⟩⟩⟩

end Sys2Proof.Tests.W13

/-! ## Witnesses: host link -/

namespace Sys2Proof.Tests.W14
open Sys2Proof Sys2Proof.Machine Sys2Proof.Safety Sys2Proof.Claims

def D : Dev := Dev.reset
def L : Dev := ww (ww (ww D Reg.HLK_STATUS 0xF) (Reg.HLK_MOD 0) 2) (Reg.HLK_MOD 1) 2
def P0 : Pkt := ⟨.spi, 0, 0, 0, false, 0, 0, 0, 0, 0, 0, 0, 0, 0, 0, [], [], []⟩
def coh (d : Dev) : Dev := sbit (ww (wr64 d (Reg.HLK_COH_BASE 3) 0x200000) (Reg.HLK_COH_LEN 3) 2) (Reg.HLK_COH_CFG 3) 0
def reg (d : Dev) : Dev := ww (wr64 d (Reg.HLK_COH_BASE 3) 0x200000) (Reg.HLK_COH_LEN 3) 2
def dirs (l : List (Nat × Nat)) (d : Dev) : Dev := { d with hlk := { d.hlk with dir := l } }
def sn (l : List Snoop) (d : Dev) : Dev := { d with hlk := { d.hlk with snoops := l } }
def aged (n : Nat) (d : Dev) : Dev := { d with fab := { d.fab with age := n } }
def B64 : List Byte := (List.range 64).map (fun i => BitVec.ofNat 8 (i * 7 + 1))
def outh (d : Dev) : Dev := { d with fab := { d.fab with outst := [{ P0 with who := .host 3, op := 1 }] } }

theorem run_next {f : Dev → Dev} {d : Dev} (h : live d = true) (q : List Instr) : run ⟨q, d⟩ f = .next ⟨q, f d⟩ := by
  unfold run; rw [if_pos h]

theorem does_hostReset {d : Dev} (h : live d = true) : Does .hostReset d (hostReset d) := fun q => run_next h q

theorem wit_HostRequestsAreServed :
    (∃ (d : Dev) (core : Nat) (tag : Nat) (addr : Nat) (len : Nat), Quiet d ∧ Passes d (reqOf d 1 core tag addr len [] [])) ∧
    (∃ (d : Dev) (core : Nat) (tag : Nat) (addr : Nat) (bs : List Byte) (mask : List Bool), Quiet d ∧ Passes d (reqOf d 2 core tag addr bs.length bs mask)) ∧
    (∃ (d : Dev) (core : Nat) (tag : Nat) (addr : Nat) (len : Nat), Quiet d ∧ (reqOf d 1 core tag addr len [] []).ok = false) ∧
    (∃ (d : Dev) (h : BitVec 128), live d = true ∧ linkServes d = true ∧ badHeader h.toNat = true) ∧
    (∃ (d : Dev) (core : Nat) (tag : Nat) (la : Nat), Quiet d ∧ Passes d (reqOf d 3 core tag la 64 [] []) ∧ Grantable d la) ∧
    (∃ (d : Dev) (core : Nat) (tag : Nat) (la : Nat), Quiet d ∧ Passes d (reqOf d 4 core tag la 64 [] []) ∧ Grantable d la) ∧
    (∃ (d : Dev) (core : Nat) (tag : Nat) (la : Nat), Quiet d ∧ inCoh d la = false ∧ Passes d (reqOf d 3 core tag la 64 [] [])) ∧
    (∃ (d : Dev) (core : Nat) (tag : Nat) (la : Nat) (bs : List Byte), Quiet d ∧ Passes d (reqOf d 5 core tag la 64 bs []) ∧ isHbm d.grade la = true) ∧
    (∃ (d : Dev) (core : Nat) (tag : Nat) (la : Nat), Quiet d ∧ Passes d (reqOf d 6 core tag la 64 [] [])) ∧
    (∃ (d : Dev) (ftag : Nat) (core : Nat) (tag : Nat) (_st : Nat) (_bs : List Byte), Quiet d ∧ (d.hlk.issued.find? (fun e => e.1 = ftag) = some (ftag, core, tag))) :=
  ⟨⟨L, 5, 70000, 0x1010, 200, ⟨by constructor <;> decide +kernel, by unfold Claims.Passes; decide +kernel⟩⟩,
   ⟨L, 5, 70000, 0x1010, [1,2,3,4], [true,false], ⟨by constructor <;> decide +kernel, by unfold Claims.Passes; decide +kernel⟩⟩,
   ⟨L, 5, 7, 0x1080, 200, ⟨by constructor <;> decide +kernel, by decide +kernel⟩⟩,
   ⟨L, 0, ⟨by decide +kernel, by decide +kernel, by decide +kernel⟩⟩,
   ⟨coh L, 5, 70000, 0x200040, ⟨by constructor <;> decide +kernel, by unfold Claims.Passes; decide +kernel, by constructor <;> decide +kernel⟩⟩,
   ⟨coh L, 5, 70000, 0x200040, ⟨by constructor <;> decide +kernel, by unfold Claims.Passes; decide +kernel, by constructor <;> decide +kernel⟩⟩,
   ⟨L, 5, 9, 0x1040, ⟨by constructor <;> decide +kernel, by decide +kernel, by unfold Claims.Passes; decide +kernel⟩⟩,
   ⟨L, 5, 9, 0x200040, B64, ⟨by constructor <;> decide +kernel, by unfold Claims.Passes; decide +kernel, by decide +kernel⟩⟩,
   ⟨dirs [(0x200040,2)] (L), 5, 9, 0x200040, ⟨by constructor <;> decide +kernel, by unfold Claims.Passes; decide +kernel⟩⟩,
   ⟨{ L with hlk := { L.hlk with issued := [(4,5,6),(7,8,9)] } }, 7, 8, 9, 0, [1,2], ⟨by constructor <;> decide +kernel, by decide +kernel⟩⟩⟩

theorem wit_SnoopsKeepTheHostCoherent :
    (∃ (d : Dev) (tag : Nat) (x : Snoop), Quiet d ∧ (d.hlk.snoops.find? (fun y => y.tag = tag) = some x)) ∧
    (∃ (d : Dev) (tag : Nat) (x : Snoop) (bs : List Byte), live d = true ∧ linkServes d = true ∧ d.hlk.reqs = [] ∧ (∀ r < 16, rbit d (Reg.HLK_COH_CFG r) 1 = false) ∧ (d.hlk.snoops.find? (fun y => y.tag = tag) = some x) ∧ x.inv = true ∧ x.line < 2 ^ 48 ∧ bs.length = 64 ∧ d.hlk.held = [(x.line, bs, List.replicate 64 true)]) ∧
    (∃ (d : Dev) (tag : Nat) (_bs : List Byte), live d = true ∧ linkServes d = true ∧ (∀ y ∈ d.hlk.snoops, y.tag ≠ tag)) ∧
    (∃ (d : Dev) (tag : Nat) (x : Snoop) (bs : List Byte), Quiet d ∧ (d.hlk.snoops.find? (fun y => y.tag = tag) = some x) ∧ x.line % 64 = 0 ∧ x.line < 2 ^ 48 ∧ bs.length = 64) ∧
    (∃ (d : Dev) (tag : Nat) (x : Snoop), Quiet d ∧ (d.hlk.snoops.find? (fun y => y.tag = tag) = some x) ∧ usPassed d x.sent (max 1 (fget d Reg.HLK_CTRL 15 8)) = true) ∧
    (∃ (d : Dev) (tag : Nat) (x : Snoop), live d = true ∧ (d.hlk.snoops.find? (fun y => y.tag = tag) = some x) ∧ usPassed d x.sent (max 1 (fget d Reg.HLK_CTRL 15 8)) = false) ∧
    (∃ (d : Dev) (r : Nat), live d = true ∧ r < 16 ∧ rbit d (Reg.HLK_COH_CFG r) 0 = false ∧ (cohRange d r).1 < (cohRange d r).2 ∧ (cohRange d r).2 ≤ hbmSize d.grade ∧ (∀ q < 16, q ≠ r → rbit d (Reg.HLK_COH_CFG q) 0 = true → (cohRange d q).2 ≤ (cohRange d r).1 ∨ (cohRange d r).2 ≤ (cohRange d q).1)) ∧
    (∃ (d : Dev) (r : Nat), live d = true ∧ r < 16 ∧ rbit d (Reg.HLK_COH_CFG r) 0 = false ∧ hbmSize d.grade < (cohRange d r).2) ∧
    (∃ (d : Dev) (r : Nat) (la : Nat) (st : Nat), Quiet d ∧ r < 16 ∧ rbit d (Reg.HLK_COH_CFG r) 0 = true ∧ d.hlk.dir = [(la, st)] ∧ d.hlk.snoops = [] ∧ (cohRange d r).1 ≤ la ∧ la < (cohRange d r).2) ∧
    (∃ (d : Dev) (r : Nat), live d = true ∧ r < 16 ∧ rbit d (Reg.HLK_COH_CFG r) 1 = true ∧ heldIn d r = [] ∧ (∀ x ∈ d.hlk.snoops, x.line < (cohRange d r).1 ∨ (cohRange d r).2 ≤ x.line)) :=
  ⟨⟨sn [⟨0x40, 3, true, 0⟩, ⟨0x200040, 4, true, 0⟩] (dirs [] (coh L)), 4, ⟨0x200040, 4, true, 0⟩, ⟨by constructor <;> decide +kernel, by decide +kernel⟩⟩,
   ⟨(fun d => { d with hlk := { d.hlk with held := [(0x200040, B64, List.replicate 64 true)] } }) (sn [⟨0x200040, 4, true, 0⟩] (dirs [(0x200040,2)] (coh L))), 4, ⟨0x200040, 4, true, 0⟩, B64, ⟨by decide +kernel, by decide +kernel, by decide +kernel, by decide +kernel, by decide +kernel, by decide +kernel, by decide +kernel, by decide +kernel, by decide +kernel⟩⟩,
   ⟨L, 4, B64, ⟨by decide +kernel, by decide +kernel, by decide +kernel⟩⟩,
   ⟨sn [⟨0x40, 3, true, 0⟩, ⟨0x200040, 4, true, 0⟩] (dirs [] (coh L)), 4, ⟨0x200040, 4, true, 0⟩, B64, ⟨by constructor <;> decide +kernel, by decide +kernel, by decide +kernel, by decide +kernel, by decide +kernel⟩⟩,
   ⟨aged 1000000 (sn [⟨0x40, 3, true, 0⟩, ⟨0x200040, 4, true, 0⟩] (dirs [] (coh L))), 4, ⟨0x200040, 4, true, 0⟩, ⟨by constructor <;> decide +kernel, by decide +kernel, by decide +kernel⟩⟩,
   ⟨sn [⟨0x40, 3, true, 0⟩, ⟨0x200040, 4, true, 0⟩] (dirs [] (coh L)), 4, ⟨0x200040, 4, true, 0⟩, ⟨by decide +kernel, by decide +kernel, by decide +kernel⟩⟩,
   ⟨reg L, 3, ⟨by decide +kernel, by decide +kernel, by decide +kernel, by decide +kernel, by decide +kernel, by decide +kernel⟩⟩,
   ⟨ww (reg L) (Reg.HLK_COH_LEN 3) 0x10000, 3, ⟨by decide +kernel, by decide +kernel, by decide +kernel, by decide +kernel⟩⟩,
   ⟨dirs [(0x200040,2)] (coh L), 3, 0x200040, 2, ⟨by constructor <;> decide +kernel, by decide +kernel, by decide +kernel, by decide +kernel, by decide +kernel, by decide +kernel, by decide +kernel⟩⟩,
   ⟨dirs [(0x40,2)] (sbit (coh L) (Reg.HLK_COH_CFG 3) 1), 3, ⟨by decide +kernel, by decide +kernel, by decide +kernel, by decide +kernel, by decide +kernel⟩⟩⟩

theorem wit_VectorsAndLinkStateFollow :
    (∃ (d : Dev) (_v : BitVec 64), live d = true) ∧
    (∃ (d : Dev) (i : Nat), live d = true ∧ i < 64 ∧ (rd64 d Reg.HLK_VEC_PEND).testBit i = false ∧ (rd64 d Reg.HLK_VEC_EN).testBit i = true ∧ rbit d Reg.HLK_CTRL 0 = true ∧ linkServes d = true) ∧
    (∃ (d : Dev) (i : Nat), live d = true ∧ i < 64 ∧ (rd64 d Reg.HLK_VEC_PEND).testBit i = true) ∧
    (∃ (d : Dev) (_v : BitVec 64), live d = true ∧ rd64 d Reg.HLK_VEC_PEND = 0) ∧
    (∃ (d : Dev) (m : Nat), live d = true ∧ m < 2 ∧ fget d (Reg.HLK_MOD m) 1 0 = 2 ∧ linkServes d = true ∧ rbit d Reg.HLK_STATUS (2 + m) = true) ∧
    (∃ (d : Dev) (m : Nat), live d = true ∧ m < 2 ∧ fget d (Reg.HLK_MOD m) 1 0 ≠ 0 ∧ rbit d Reg.HLK_STATUS (3 - m) = true) ∧
    (∃ (d : Dev), live d = true ∧ fget d (Reg.HLK_MOD 0) 1 0 ≠ 0 ∧ fget d (Reg.HLK_MOD 1) 1 0 ≠ 0) ∧
    (∃ (d : Dev) (w0 : Nat) (w1 : Nat) (_r0 : Nat) (_r1 : Nat), live d = true ∧ linkReleased d = true ∧ linkServes d = false ∧ w0 ≤ 2 ∧ w1 ≤ 2 ∧ 0 < w0 + w1) ∧
    (∃ (d : Dev), live d = true ∧ d.hlk.held = []) ∧
    (∃ (d : Dev) (t : Dev) (at_ : Nat), live d = true ∧ d.hlk.downAt = some at_ ∧ usPassed d at_ 100 = true ∧ Does .hostReset { d with hlk := { d.hlk with downAt := none } } t) ∧
    (∃ (d : Dev) (at_ : Nat), live d = true ∧ d.hlk.downAt = some at_ ∧ usPassed d at_ 100 = false) ∧
    (∃ (d : Dev) (m : Nat), live d = true ∧ m < 2 ∧ fget d (Reg.HLK_MOD m) 1 0 ≠ 0) :=
  ⟨⟨wr64 (wr64 (sbit L Reg.HLK_CTRL 0) Reg.HLK_VEC_EN (2^64-1)) Reg.HLK_VEC_PEND 0x100000002, 0, by decide +kernel⟩,
   ⟨wr64 (wr64 (sbit L Reg.HLK_CTRL 0) Reg.HLK_VEC_EN (2^64-1)) Reg.HLK_VEC_PEND 0x100000002, 0, ⟨by decide +kernel, by decide +kernel, by decide +kernel, by decide +kernel, by decide +kernel, by decide +kernel⟩⟩,
   ⟨wr64 (wr64 (sbit L Reg.HLK_CTRL 0) Reg.HLK_VEC_EN (2^64-1)) Reg.HLK_VEC_PEND 0x100000002, 1, ⟨by decide +kernel, by decide +kernel, by decide +kernel⟩⟩,
   ⟨L, 0, ⟨by decide +kernel, by decide +kernel⟩⟩,
   ⟨L, 0, ⟨by decide +kernel, by decide +kernel, by decide +kernel, by decide +kernel, by decide +kernel⟩⟩,
   ⟨L, 0, ⟨by decide +kernel, by decide +kernel, by decide +kernel, by decide +kernel⟩⟩,
   ⟨L, ⟨by decide +kernel, by decide +kernel, by decide +kernel⟩⟩,
   ⟨fset (ww D Reg.HLK_STATUS 0) Reg.SRL_BOOT 3 0 7, 0, 1, 70, 5, ⟨by decide +kernel, by decide +kernel, by decide +kernel, by decide +kernel, by decide +kernel, by decide +kernel⟩⟩,
   ⟨{ (outh (sn [⟨0x40, 3, true, 0⟩] (dirs [(0x200040,2),(0x40,1),(0x80,2)] (coh L)))) with qs := [(3, ⟨1, 0, 0, [.rsv (.host 2) 5, .pub], 0⟩)] }, ⟨by decide +kernel, by decide +kernel⟩⟩,
   ⟨aged 1000000 ((fun d => { d with hlk := { d.hlk with downAt := some 0 } }) ({ (outh (sn [⟨0x40, 3, true, 0⟩] (dirs [(0x200040,2),(0x40,1),(0x80,2)] (coh L)))) with qs := [(3, ⟨1, 0, 0, [.rsv (.host 2) 5, .pub], 0⟩)] })), hostReset ((fun d => { d with hlk := { d.hlk with downAt := none } }) (aged 1000000 ((fun d => { d with hlk := { d.hlk with downAt := some 0 } }) ({ (outh (sn [⟨0x40, 3, true, 0⟩] (dirs [(0x200040,2),(0x40,1),(0x80,2)] (coh L)))) with qs := [(3, ⟨1, 0, 0, [.rsv (.host 2) 5, .pub], 0⟩)] })))), 0, ⟨by decide +kernel, by decide +kernel, by decide +kernel, by exact does_hostReset (by decide +kernel)⟩⟩,
   ⟨(fun d => { d with hlk := { d.hlk with downAt := some 0 } }) ({ (outh (sn [⟨0x40, 3, true, 0⟩] (dirs [(0x200040,2),(0x40,1),(0x80,2)] (coh L)))) with qs := [(3, ⟨1, 0, 0, [.rsv (.host 2) 5, .pub], 0⟩)] }), 0, ⟨by decide +kernel, by decide +kernel, by decide +kernel⟩⟩,
   ⟨L, 0, ⟨by decide +kernel, by decide +kernel, by decide +kernel⟩⟩⟩

end Sys2Proof.Tests.W14

/-! ## Witnesses: monitors -/

namespace Sys2Proof.Tests.W15
open Sys2Proof Sys2Proof.Machine Sys2Proof.Safety Sys2Proof.Claims

def D : Dev := sbit Dev.reset Reg.SRL_BOOT 15
def L : Dev := ww (ww (ww D Reg.HLK_STATUS 0xF) (Reg.HLK_MOD 0) 2) (Reg.HLK_MOD 1) 2
def aged (n : Nat) (d : Dev) : Dev := { d with fab := { d.fab with age := n } }
def air (n : Nat) (d : Dev) : Dev := { d with air := { d.air with now := n } }
def pw (f : Pwr → Pwr) (d : Dev) : Dev := { d with pwr := f d.pwr }
def t40 : List Byte := List.replicate 48 40
def tt : List Byte := List.replicate 30 40 ++ [126, 127] ++ List.replicate 16 0
def on (d : Dev) : Dev := (List.range 45).foldl (fun d p => setDom d p 0) d
def off (d : Dev) : Dev := (List.range 45).foldl (fun d p => setDom d p 3) d
def item (d : Dev) : Dev := { (setTcore d 5 { tcoreOf d 5 with st := 1 }) with pwr := { d.pwr with failq := [4, 5, 5] } }
def fr : List Byte := let b := (List.range 70).map (fun i => BitVec.ofNat 8 (i * 3)); b ++ fcsOf b
def lis (_d : Dev) : Dev := ww (ww (ww (ww (wr64 (ww (ww D (Reg.MACG_CTRL 0) 5) (Reg.MAC_CFG 0 1) 1) Reg.MAC_LISTEN_PORTS 2) Reg.MAC_LISTEN_CFG 2) (Reg.MAC_WAKE_MASK 1 0) 0xFF00) (Reg.MAC_WAKE_PAT 1 0) 0x300) (Reg.MACG_CTRL 0) 5

set_option maxRecDepth 20000 in
theorem wit_MonitorsReportAndThrottle :
    (∃ (d : Dev) (temps : List Byte), live d = true ∧ (∀ k < 48, degC (at0 0 temps k).toNat < min 125 (degC (fget d Reg.MON_CTRL 31 24)))) ∧
    (∃ (d : Dev) (temps : List Byte) (k : Nat), live d = true ∧ k < 48 ∧ min 125 (degC (fget d Reg.MON_CTRL 31 24)) ≤ degC (at0 0 temps k).toNat) ∧
    (∃ (d : Dev) (temps : List Byte), d.cpn.frozen = true ∧ d.pkg.powered = true ∧ (∃ b ∈ temps, 125 ≤ degC b.toNat)) ∧
    (∃ (d : Dev) (vin : Nat) (pin : Nat), live d = true ∧ rbit d Reg.PWR_CTRL 0 = true ∧ rbit d Reg.PWR_STATUS 0 = false ∧ 10 * min (min 345 (fget d Reg.PWR_CTRL 16 8)) (36 * (vin % 2 ^ 16) / 1000) < pin % 2 ^ 16) ∧
    (∃ (d : Dev) (vin : Nat) (pin : Nat) (since : Nat), live d = true ∧ rbit d Reg.PWR_STATUS 0 = true ∧ d.pwr.hot = false ∧ d.pwr.overSince = some since ∧ usPassed d since 1000 = true ∧ pin % 2 ^ 16 * 100 < min (min 345 (fget d Reg.PWR_CTRL 16 8)) (36 * (vin % 2 ^ 16) / 1000) * 950) ∧
    (∃ (d : Dev) (v : Nat), live d = true ∧ v < 64) ∧
    (∃ (d : Dev) (_volts : List Word) (_procs : List Word), live d = true ∧ d.air.now < 2 ^ 64 ∧ d.pwr.setAt < d.air.now / 1966080 * 1966080) ∧
    (∃ (d : Dev) (_volts : List Word) (_procs : List Word), live d = true ∧ d.air.now / 1966080 * 1966080 ≤ d.pwr.setAt) ∧
    (∃ (d : Dev) (v : Word), live d = true ∧ v.toNat % 65536 = fget d Reg.MON_RES0 31 16) ∧
    (∃ (d : Dev) (v : Word), live d = true ∧ v.toNat % 65536 ≠ fget d Reg.MON_RES0 31 16) :=
  ⟨⟨L, t40, ⟨by decide +kernel, by decide +kernel⟩⟩,
   ⟨L, tt, 30, ⟨by decide +kernel, by decide +kernel, by decide +kernel⟩⟩,
   ⟨{ D with cpn := { D.cpn with frozen := true } }, tt, ⟨by decide +kernel, by decide +kernel, by decide +kernel⟩⟩,
   ⟨sbit (on (ww D Reg.PWR_CTRL (100*256 + 1))) (Reg.MON_CORE_OUT 1) 3, 12000, 1001, ⟨by decide +kernel, by decide +kernel, by decide +kernel, by decide +kernel⟩⟩,
   ⟨aged 10000000 (pw (fun p => { p with overPwr := true, overSince := some 10, thrAt := 5 }) (sbit (sbit (on (ww D Reg.PWR_CTRL (100*256 + 1))) (Reg.MON_CORE_OUT 1) 3) Reg.PWR_STATUS 0)), 12000, 949, 10, ⟨by decide +kernel, by decide +kernel, by decide +kernel, by decide +kernel, by decide +kernel, by decide +kernel⟩⟩,
   ⟨L, 0, ⟨by decide +kernel, by decide +kernel⟩⟩,
   ⟨air 5000000 D, [5,6,0xFFFFFFFF], [0xFF000000], ⟨by decide +kernel, by decide +kernel, by decide +kernel⟩⟩,
   ⟨D, [], [], ⟨by decide +kernel, by decide +kernel⟩⟩,
   ⟨ww D Reg.MON_RES0 0x00050001, 0xABCD0005, ⟨by decide +kernel, by decide +kernel⟩⟩,
   ⟨ww D Reg.MON_RES0 0x00050001, 6, ⟨by decide +kernel, by decide +kernel⟩⟩⟩

set_option maxRecDepth 20000 in
theorem wit_CoresFailAndListenIsEntered :
    (∃ (d : Dev) (c : Nat), live d = true ∧ corePresent d.grade c = true ∧ isOut d c = false) ∧
    (∃ (d : Dev) (c : Nat), live d = true ∧ corePresent d.grade c = true ∧ isOut d c = true) ∧
    (∃ (d : Dev) (c : Nat), live d = true ∧ c < 256 ∧ c ∈ d.pwr.failq ∧ isOut d c = false ∧ spareFree d (c / 8) = true ∧ (∀ s ∈ d.pwr.subst, s.core / 8 ≠ c / 8)) ∧
    (∃ (d : Dev) (c : Nat), live d = true ∧ c < 256 ∧ c ∈ d.pwr.failq ∧ isOut d c = false ∧ spareFree d (c / 8) = false) ∧
    (∃ (d : Dev) (c : Nat), live d = true ∧ c < 256 ∧ (∃ s ∈ d.pwr.subst, s.core = c ∧ s.started = true) ∧ domServes d (c / 8) = true) ∧
    (∃ (d : Dev), live d = true ∧ d.pwr.listenAt = none ∧ d.pwr.listen = false ∧ listenCause d ≠ 0) ∧
    (∃ (d : Dev), live d = true ∧ d.pwr.listenAt = none ∧ d.pwr.listen = false ∧ listenCause d = 0) ∧
    (∃ (d : Dev) (at_ : Nat), live d = true ∧ d.pwr.listenAt = some at_ ∧ (∀ p < 45, domState d p = 3)) ∧
    (∃ (d : Dev) (p : Nat), live d = true ∧ p < 45 ∧ domState d p ≠ 3) ∧
    (∃ (d : Dev) (m : Nat) (p : Nat) (fr : List Byte), live d = true ∧ d.pwr.listen = true ∧ wakes d m fr = some p ∧ d.air.now < 2 ^ 64) ∧
    (∃ (d : Dev) (m : Nat) (fr : List Byte), live d = true ∧ (d.pwr.listen = false ∨ wakes d m fr = none)) :=
  ⟨⟨item D, 5, ⟨by decide +kernel, by decide +kernel, by decide +kernel⟩⟩,
   ⟨sbit (item D) (Reg.MON_CORE_OUT (5 / 32)) (5 % 32), 5, ⟨by decide +kernel, by decide +kernel, by decide +kernel⟩⟩,
   ⟨item D, 5, ⟨by decide +kernel, by decide +kernel, by decide +kernel, by decide +kernel, by decide +kernel, by decide +kernel⟩⟩,
   ⟨sbit (item D) Reg.MON_SPARE 0, 5, ⟨by decide +kernel, by decide +kernel, by decide +kernel, by decide +kernel, by decide +kernel⟩⟩,
   ⟨pw (fun p => { p with subst := [⟨5, true⟩, ⟨12, false⟩] }) (sbit (memPut (item D) 0x1000000040 [1,2]) (Reg.MON_CORE_OUT 0) 5), 5, ⟨by decide +kernel, by decide +kernel, by decide +kernel, by decide +kernel⟩⟩,
   ⟨sbit L Reg.TXS_CTRL 0, ⟨by decide +kernel, by decide +kernel, by decide +kernel, by decide +kernel⟩⟩,
   ⟨on L, ⟨by decide +kernel, by decide +kernel, by decide +kernel, by decide +kernel⟩⟩,
   ⟨off (pw (fun p => { p with listenAt := some 3 }) (aged 55 L)), 3, ⟨by decide +kernel, by decide +kernel, by decide +kernel⟩⟩,
   ⟨L, 3, ⟨by decide +kernel, by decide +kernel, by decide +kernel⟩⟩,
   ⟨air 777 (pw (fun p => { p with listen := true }) (lis D)), 1, 1, fr, ⟨by decide +kernel, by decide +kernel, by decide +kernel, by decide +kernel⟩⟩,
   ⟨L, 1, fr, ⟨by decide +kernel, by decide +kernel⟩⟩⟩

end Sys2Proof.Tests.W15

/-! ## Witnesses: Sorrel and start-up -/

namespace Sys2Proof.Tests.W16
open Sys2Proof Sys2Proof.Machine Sys2Proof.Safety Sys2Proof.Claims

def D : Dev := Dev.reset
def boot (k : Nat) (d : Dev) : Dev := fset d Reg.SRL_BOOT 3 0 k
def busy (d : Dev) : Dev := sbit d Reg.SRL_STATUS 0
def img (len kind flags : Nat) (pay : List Byte) : List Byte :=
  toBytes 4 0x4C524F53 ++ toBytes 4 9 ++ toBytes 4 len ++ toBytes 4 (kind + flags * 4) ++ fcsOf pay ++ List.replicate 44 0 ++ List.replicate 448 0 ++ pay
def P64 : List Byte := (List.range 64).map (fun i => BitVec.ofNat 8 (i * 5 + 1))
def opd (x : SrlOp) (d : Dev) : Dev := { (busy d) with srl := { d.srl with op := some x } }
def dirty (d : Dev) : Dev := ww (memPut (memPut (setCore (setQ d 3 ⟨1, 0, 0, [.pub], 0⟩) 3 { Core.reset with running := true }) 0x100 P64) (SRL_BASE + 0x40) P64) (Reg.HLK_VEC_TGT 3) 5
def air (n : Nat) (d : Dev) : Dev := { d with air := { d.air with now := n } }

def cells (a : Nat) (bs : List Byte) : List Host.Cell := bs.zipIdx.map (fun e => (a + e.2, e.1))
def held16 (len : Byte) : List Host.Cell := cells 0x1000 [0x53, 0x4F, 0x52, 0x4C, 9] ++ [(0x1008, len), (0x100C, 2)] ++
  cells 0x1010 [122, 44, 85, 132] ++ cells 0x1200 P64
def srcM (len : Byte) : Dev := { ww (wr64 D Reg.SRL_SRC 0x103F) Reg.SRL_LEN 576 with mem := held16 len }

set_option maxRecDepth 20000 in
theorem wit_SorrelWritesItsBanks_0 :
    (∃ (d : Dev), live d = true ∧ rbit d Reg.SRL_STATUS 0 = true) :=
  ⟨busy D, ⟨by decide +kernel, by decide +kernel⟩⟩

set_option maxRecDepth 20000 in
theorem wit_SorrelWritesItsBanks_1 :
    (∃ (d : Dev), live d = true ∧ rbit d Reg.SRL_STATUS 0 = false ∧ d.srl.wait = none ∧ (rw d Reg.SRL_LEN = 0 ∨ hbmSize d.grade < rd64 d Reg.SRL_SRC / 64 * 64 + rw d Reg.SRL_LEN)) :=
  ⟨D, ⟨by decide +kernel, by decide +kernel, by decide +kernel, by decide +kernel⟩⟩

set_option maxRecDepth 20000 in
theorem wit_SorrelWritesItsBanks_2 :
    (∃ (d : Dev) (e : Dev) (src : Nat) (n : Nat), live d = true ∧ rbit d Reg.SRL_STATUS 0 = false ∧ d.srl.wait = none ∧ src = rd64 d Reg.SRL_SRC / 64 * 64 ∧ n = rw d Reg.SRL_LEN ∧ 512 ≤ n ∧ src + n ≤ hbmSize d.grade ∧ testLines d (linesOf src n) = (e, .ok) ∧ (Sys2Proof.Machine.lenOk (getBytes e.mem src n) 2 = false ∨ imgLen (getBytes e.mem src n) + 512 ≠ n)) :=
  ⟨(srcM 128), (testLines (srcM 128) (linesOf 0x1000 576)).1, 0x1000, 576, ⟨by decide +kernel, by decide +kernel, by decide +kernel, by decide +kernel, by decide +kernel, by decide +kernel, by decide +kernel, by decide +kernel, by decide +kernel⟩⟩

set_option maxRecDepth 20000 in
theorem wit_SorrelWritesItsBanks_3 :
    (∃ (d : Dev) (e : Dev) (src : Nat) (n : Nat), live d = true ∧ rbit d Reg.SRL_STATUS 0 = false ∧ d.srl.wait = none ∧ src = rd64 d Reg.SRL_SRC / 64 * 64 ∧ n = rw d Reg.SRL_LEN ∧ 512 ≤ n ∧ src + n ≤ hbmSize d.grade ∧ testLines d (linesOf src n) = (e, .ok) ∧ Sys2Proof.Machine.lenOk (getBytes e.mem src n) 2 = true ∧ imgLen (getBytes e.mem src n) + 512 = n) :=
  ⟨(srcM 64), (testLines (srcM 64) (linesOf 0x1000 576)).1, 0x1000, 576, ⟨by decide +kernel, by decide +kernel, by decide +kernel, by decide +kernel, by decide +kernel, by decide +kernel, by decide +kernel, by decide +kernel, by decide +kernel, by decide +kernel⟩⟩

set_option maxRecDepth 20000 in
theorem wit_SorrelWritesItsBanks_4 :
    (∃ (d : Dev), live d = true ∧ rbit d Reg.SRL_STATUS 0 = false) :=
  ⟨D, ⟨by decide +kernel, by decide +kernel⟩⟩

set_option maxRecDepth 20000 in
theorem wit_SorrelWritesItsBanks_5 :
    (∃ (d : Dev), live d = true ∧ rbit d Reg.SRL_STATUS 0 = true) :=
  ⟨busy D, ⟨by decide +kernel, by decide +kernel⟩⟩

set_option maxRecDepth 20000 in
theorem wit_SorrelWritesItsBanks_6 :
    (∃ (d : Dev), live d = true ∧ rbit d Reg.SRL_STATUS 0 = false) :=
  ⟨D, ⟨by decide +kernel, by decide +kernel⟩⟩

set_option maxRecDepth 20000 in
theorem wit_SorrelWritesItsBanks_7 :
    (∃ (d : Dev) (x : SrlOp) (kind : Nat) (i : Nat), live d = true ∧ d.srl.op = some x ∧ d.srl.wait = none ∧ i < 2 ∧ ((x.kind = 1 ∧ kind = 2) ∨ (x.kind = 2 ∧ kind = 1)) ∧ x.base = bankBase kind i ∧ x.image.length ≤ bankSize kind) :=
  ⟨opd ⟨1, bankBase 2 0, img 64 2 15 P64⟩ D, ⟨1, bankBase 2 0, img 64 2 15 P64⟩, 2, 0, ⟨by decide +kernel, by decide +kernel, by decide +kernel, by decide +kernel, by decide +kernel, by decide +kernel, by decide +kernel⟩⟩

set_option maxRecDepth 20000 in
theorem wit_SorrelWritesItsBanks_8 :
    (∃ (d : Dev) (x : SrlOp), live d = true ∧ d.srl.op = some x ∧ x.kind = 3 ∧ d.srl.wait = none) :=
  ⟨opd ⟨3, 0, []⟩ D, ⟨3, 0, []⟩, ⟨by decide +kernel, by decide +kernel, by decide +kernel, by decide +kernel⟩⟩

set_option maxRecDepth 20000 in
theorem wit_SorrelWritesItsBanks_9 :
    (∃ (d : Dev), live d = true ∧ d.srl.op = none) :=
  ⟨busy D, ⟨by decide +kernel, by decide +kernel⟩⟩

set_option maxRecDepth 20000 in
theorem wit_StartUpAndResets_0 :
    (∃ (d : Dev), d.pkg.powered = false) :=
  ⟨{ (dirty D) with pkg := { D.pkg with powered := false } }, by decide +kernel⟩

set_option maxRecDepth 20000 in
theorem wit_StartUpAndResets_1 :
    (∃ (d : Dev), d.pkg.powered = true) :=
  ⟨dirty D, by decide +kernel⟩

set_option maxRecDepth 20000 in
theorem wit_StartUpAndResets_2 :
    (∃ (d : Dev), d.pkg.powered = true) :=
  ⟨dirty D, by decide +kernel⟩

set_option maxRecDepth 20000 in
theorem wit_StartUpAndResets_3 :
    (∃ (d : Dev), d.pkg.powered = false) :=
  ⟨{ (dirty D) with pkg := { D.pkg with powered := false } }, by decide +kernel⟩

set_option maxRecDepth 20000 in
theorem wit_StartUpAndResets_4 :
    (∃ (d : Dev) (_b : Nat), d.pkg.powered = true) :=
  ⟨dirty D, 0, by decide +kernel⟩

set_option maxRecDepth 20000 in
theorem wit_StartUpAndResets_5 :
    (∃ (d : Dev) (_b : Nat), d.pkg.powered = true ∧ d.pkg.tripped = false) :=
  ⟨air 77 (dirty D), 0, ⟨by decide +kernel, by decide +kernel⟩⟩

set_option maxRecDepth 20000 in
theorem wit_StartUpAndResets_6 :
    (∃ (d : Dev) (_b : Nat), d.pkg.powered = true ∧ d.pkg.tripped = true) :=
  ⟨{ (dirty D) with pkg := { D.pkg with tripped := true } }, 0, ⟨by decide +kernel, by decide +kernel⟩⟩

set_option maxRecDepth 20000 in
theorem wit_StartUpAndResets_7 :
    (∃ (d : Dev) (_rmap : Bool) (_cal : Bool) (_cs : List Nat) (_ss : List Nat), live d = true ∧ d.pwr.listen = false ∧ rbit d Reg.SRL_BOOT 10 = false ∧ d.cpn.held = 0 ∧ fget d Reg.SRL_BOOT 3 0 < 6) :=
  ⟨boot 0 (dirty { D with srl := { D.srl with repair := { D.srl.repair with cores := [(5,1),(9,2),(257,2)] } } }), true, false, [3, 3, 300, 17], [4], ⟨by decide +kernel, by decide +kernel, by decide +kernel, by decide +kernel, by decide +kernel⟩⟩

set_option maxRecDepth 20000 in
theorem wit_StartUpAndResets_8 :
    (∃ (d : Dev) (_rmap : Bool) (_cal : Bool) (_cs : List Nat) (_ss : List Nat), live d = true ∧ d.pwr.listen = false ∧ rbit d Reg.SRL_BOOT 10 = false ∧ d.cpn.held = 0 ∧ fget d Reg.SRL_BOOT 3 0 < 8) :=
  ⟨boot 0 (dirty D), true, false, [3], [4], ⟨by decide +kernel, by decide +kernel, by decide +kernel, by decide +kernel, by decide +kernel⟩⟩

set_option maxRecDepth 20000 in
theorem wit_StartUpAndResets_9 :
    (∃ (d : Dev) (_rmap : Bool) (_cal : Bool) (_cs : List Nat) (_ss : List Nat), live d = true ∧ d.pwr.listen = false ∧ d.cpn.held = 0 ∧ fget d Reg.SRL_BOOT 3 0 ≠ 15 ∧ (fget d Reg.SRL_BOOT 3 0 = 7 ∨ rbit d Reg.SRL_BOOT 10 = true)) :=
  ⟨boot 7 D, true, true, [], [], ⟨by decide +kernel, by decide +kernel, by decide +kernel, by decide +kernel, by decide +kernel⟩⟩

set_option maxRecDepth 20000 in
theorem wit_StartUpAndResets_10 :
    (∃ (d : Dev), live d = true ∧ stepDone d 7 = true) :=
  ⟨boot 7 (dirty D), ⟨by decide +kernel, by decide +kernel⟩⟩

set_option maxRecDepth 20000 in
theorem wit_StartUpAndResets_11 :
    (∃ (d : Dev), live d = true ∧ stepDone d 7 = false) :=
  ⟨boot 6 D, ⟨by decide +kernel, by decide +kernel⟩⟩

set_option maxRecDepth 20000 in
theorem wit_StartUpAndResets_12 :
    (∃ (d : Dev), live d = true ∧ rbit d Reg.SRL_CTRL 0 = true ∧ rbit d Reg.SRL_BOOT 15 = false ∧ stepDone d 7 = true ∧ linkServes d = true ∧ isBoundary (gridOf d) d.air.now = true) :=
  ⟨air 0 (ww (sbit (boot 7 D) Reg.SRL_CTRL 0) Reg.HLK_STATUS 0xF), ⟨by decide +kernel, by decide +kernel, by decide +kernel, by decide +kernel, by decide +kernel, by decide +kernel⟩⟩

set_option maxRecDepth 20000 in
theorem wit_StartUpAndResets_13 :
    (∃ (d : Dev), live d = true ∧ isBoundary (gridOf d) d.air.now = false) :=
  ⟨air 3 D, ⟨by decide +kernel, by decide +kernel⟩⟩

end Sys2Proof.Tests.W16

/-! ## Witnesses: Campion, SPI, firmware -/

namespace Sys2Proof.Tests.W17
open Sys2Proof Sys2Proof.Machine Sys2Proof.Safety Sys2Proof.Claims

def D : Dev := fset Dev.reset Reg.SRL_BOOT 3 0 7
def boot (k : Nat) (d : Dev) : Dev := fset d Reg.SRL_BOOT 3 0 k
def air (n : Nat) (d : Dev) : Dev := { d with air := { d.air with now := n } }
def cp (f : Cpn → Cpn) (d : Dev) : Dev := { d with cpn := f d.cpn }
def frz (d : Dev) : Dev := cp (fun c => { c with frozen := true, cause := 5, core := 77, at_ := 999, stops := (List.range 64).map (· + 1000) }) d
def lock (d : Dev) : Dev := { d with srl := { d.srl with fuses := { d.srl.fuses with lock := true, dbgValid := 3, dbgRevoked := 1 } } }
def B64 : List Byte := (List.range 64).map (fun i => BitVec.ofNat 8 (i * 7 + 1))
def u32s (l : List Nat) : List Byte := l.flatMap (toBytes 4)
def prof (bw : Nat) : List Byte := u32s [0x46435250, 1, 192, bw * 65536, 1 + 256 + 65536, 0, 64, 0, 0, 0, 128, 0, 0, 0, 0, 0] ++ u32s ([1] ++ List.replicate 15 0) ++ u32s ([0, 1] ++ List.replicate 14 0)
def en (op cell desc len at_ : Nat) : List Byte := toBytes 1 op ++ [0] ++ toBytes 2 cell ++ u32s [0x4005, desc, 0, len, 0xABCD] ++ toBytes 8 at_
def cells17 (a : Nat) (bs : List Byte) : List Host.Cell := (bs.zipIdx.filter (fun e => e.1 ≠ 0)).map (fun e => (a + e.2, e.1))
def fq (op cell desc len at_ : Nat) (bw : Nat) (d : Dev) : Dev :=
  let d := wr64 d Reg.SRL_RMAP 0x10000
  let d := { d with mem := cells17 0x10000 (u32s [0x504D5352, 1, 6, 0, 0x4007, 0]) ++ cells17 0x20060 (en op cell desc len at_) ++ cells17 0x30000 (prof bw) }
  let d := wr64 (ww d (Reg.QMG_QCFG 7) (1 + 5 * 2 + 1 * 16 + 3 * 64 + 6 * 2048)) (Reg.QMG_QBASE 7) 0x20000
  setQ d 7 ⟨1, 1, 3, [.pub, .pub], 0⟩
def cell0 : Cell := profileCell (prof 20)
def svc (n : Nat) (d : Dev) : Dev := { d with fw := { d.fw with cells := [(n, some cell0)] } }
def wt (n : Nat) (d : Dev) : Dev := { d with fw := { d.fw with waits := [⟨2, n, none, 1, 2, 3⟩] } }
def rdf (d : Dev) : Dev := (memRead d 0x20060 32).1
def gOf (d : Dev) : Dev := consumed (rdf d) 7 0 1
def hOf (d : Dev) (len : Nat) : Dev := (memRead (gOf d) 0x30000 len).1
def dop (d : Dev) (c : Nat) : Dev := setCore (setDom d 0 0) c { Core.reset with running := true, pc := 0x124 }

theorem wit_FreezesStopTheDie :
    (∃ (d : Dev) (ns : Nat), live d = true ∧ 20 ≤ ns ∧ rbit d Reg.CPN_CTRL 0 = true ∧ 2 ≤ fget d Reg.SRL_BOOT 3 0) ∧
    (∃ (d : Dev) (ns : Nat), live d = true ∧ (ns < 20 ∨ rbit d Reg.CPN_CTRL 0 = false)) ∧
    (∃ (d : Dev), live d = true ∧ rbit d Reg.CPN_CTRL 1 = true ∧ 2 ≤ fget d Reg.SRL_BOOT 3 0) ∧
    (∃ (d : Dev) (v : Word), live d = true ∧ (v ≠ 0x46525A45 ∨ rbit d Reg.CPN_CTRL 1 = false)) ∧
    (∃ (d : Dev) (ns : Nat), live d = true ∧ 20 ≤ ns ∧ rbit d Reg.CPN_CTRL 0 = true ∧ fget d Reg.SRL_BOOT 3 0 < 2) ∧
    (∃ (d : Dev) (_rmap : Bool) (_cal : Bool) (_cs : List Nat) (_ss : List Nat), live d = true ∧ d.pwr.listen = false ∧ rbit d Reg.SRL_BOOT 10 = false ∧ d.cpn.held ≠ 0 ∧ fget d Reg.SRL_BOOT 3 0 = 1) :=
  ⟨⟨air 555 (ww (memPut (ww D Reg.CPN_CTRL 0xF) 0x100 B64) (Reg.TXS_PAEN_CFG 3) 0x20), 20, ⟨by decide +kernel, by decide +kernel, by decide +kernel, by decide +kernel⟩⟩,
   ⟨air 555 (ww (memPut (ww D Reg.CPN_CTRL 0xF) 0x100 B64) (Reg.TXS_PAEN_CFG 3) 0x20), 19, ⟨by decide +kernel, by decide +kernel⟩⟩,
   ⟨air 555 (ww (memPut (ww D Reg.CPN_CTRL 0xF) 0x100 B64) (Reg.TXS_PAEN_CFG 3) 0x20), ⟨by decide +kernel, by decide +kernel, by decide +kernel⟩⟩,
   ⟨air 555 (ww (memPut (ww D Reg.CPN_CTRL 0xF) 0x100 B64) (Reg.TXS_PAEN_CFG 3) 0x20), 0x46525A44, ⟨by decide +kernel, by decide +kernel⟩⟩,
   ⟨cp (fun c => { c with held := 2, core := 9 }) (boot 1 (air 555 (ww (memPut (ww D Reg.CPN_CTRL 0xF) 0x100 B64) (Reg.TXS_PAEN_CFG 3) 0x20))), 20, ⟨by decide +kernel, by decide +kernel, by decide +kernel, by decide +kernel⟩⟩,
   ⟨cp (fun c => { c with held := 5, core := 9 }) (boot 1 (air 555 (ww (memPut (ww D Reg.CPN_CTRL 0xF) 0x100 B64) (Reg.TXS_PAEN_CFG 3) 0x20))), true, true, [], [], ⟨by decide +kernel, by decide +kernel, by decide +kernel, by decide +kernel, by decide +kernel⟩⟩⟩

theorem wit_PortReadsOutAndDebugs :
    (∃ (d : Dev) (_pins : Nat) (_v : Nat), d.pkg.powered = true) ∧
    (∃ (d : Dev), d.pkg.powered = true) ∧
    (∃ (d : Dev) (_v : BitVec 96), d.pkg.powered = true) ∧
    (∃ (d : Dev) (r : Readout), d.pkg.powered = true ∧ d.cpn.frozen = true ∧ d.cpn.req = some r ∧ r.capd = false ∧ 1 < r.left) ∧
    (∃ (d : Dev), d.pkg.powered = true ∧ d.cpn.frozen = false) ∧
    (∃ (d : Dev) (r : Readout), d.pkg.powered = true ∧ d.cpn.frozen = true ∧ d.cpn.req = some r ∧ r.capd = true ∧ rbit d Reg.CPN_CTRL 3 = true) ∧
    (∃ (d : Dev) (i : Nat) (l : Nat) (_last : Bool), denied d = false ∧ i < 32 ∧ l < 65536 ∧ domState d i ≠ 3) ∧
    (∃ (d : Dev) (_seg : Nat) (_l : Nat) (_last : Bool), denied d = true) ∧
    (∃ (d : Dev) (slot : Nat) (_key : List Byte) (_sig : List Byte), d.pkg.powered = true ∧ d.cpn.fails < 3 ∧ d.cpn.verify = none ∧ (slot = 4 ∨ slot = 5) ∧ d.srl.fuses.dbgValid.testBit (slot - 4) = true ∧ d.srl.fuses.dbgRevoked.testBit (slot - 4) = false) ∧
    (∃ (d : Dev) (_slot : Nat) (_key : List Byte) (_sig : List Byte), d.pkg.powered = true ∧ 3 ≤ d.cpn.fails) ∧
    (∃ (d : Dev) (u : Unlock), d.pkg.powered = true ∧ d.cpn.verify = some u) ∧
    (∃ (d : Dev) (c : Nat), live d = true ∧ corePresent d.grade c = true ∧ denied d = false) ∧
    (∃ (d : Dev) (_c : Nat), live d = true ∧ denied d = true) ∧
    (∃ (d : Dev) (c : Nat) (i : Nat), live d = true ∧ corePresent d.grade c = true ∧ (coreOf d c).running = true ∧ (coreOf d c).bun = none ∧ i < 4 ∧ rbit d (Reg.CPN_DBG_CTL c) (3 + i) = true ∧ (coreOf d c).bpSkip = false ∧ (coreOf d c).pc / 4 = rw d (Reg.CPN_BP c i) / 4) :=
  ⟨⟨D, 0x123, 0x55, by decide +kernel⟩,
   ⟨D, by decide +kernel⟩,
   ⟨D, 0, by decide +kernel⟩,
   ⟨frz (memPut (cp (fun c => { c with req := some ⟨0x50003, 4, 3, false⟩ }) D) 0x1003000100 B64), ⟨0x50003, 4, 3, false⟩, ⟨by decide +kernel, by decide +kernel, by decide +kernel, by decide +kernel, by decide +kernel⟩⟩,
   ⟨cp (fun c => { c with req := some ⟨0x50003, 4, 3, false⟩ }) D, ⟨by decide +kernel, by decide +kernel⟩⟩,
   ⟨sbit (frz (memPut (cp (fun c => { c with req := some ⟨0x50003, 4, 3, true⟩ }) D) 0x1003000100 B64)) Reg.CPN_CTRL 3, ⟨0x50003, 4, 3, true⟩, ⟨by decide +kernel, by decide +kernel, by decide +kernel, by decide +kernel, by decide +kernel⟩⟩,
   ⟨frz (memPut (cp (fun c => { c with req := some ⟨0x50003, 4, 3, false⟩ }) D) 0x1003000100 B64), 3, 4, true, ⟨by decide +kernel, by decide +kernel, by decide +kernel, by decide +kernel⟩⟩,
   ⟨lock (frz (memPut (cp (fun c => { c with req := some ⟨0x50003, 4, 3, false⟩ }) D) 0x1003000100 B64)), 0x50003, 4, false, by decide +kernel⟩,
   ⟨lock D, 5, List.replicate 100 7, List.replicate 96 8, ⟨by decide +kernel, by decide +kernel, by decide +kernel, by decide +kernel, by decide +kernel, by decide +kernel⟩⟩,
   ⟨cp (fun c => { c with fails := 3 }) (lock D), 5, [], [], ⟨by decide +kernel, by decide +kernel⟩⟩,
   ⟨cp (fun c => { c with verify := some ⟨5, [], [], 0⟩ }) (lock D), ⟨5, [], [], 0⟩, ⟨by decide +kernel, by decide +kernel⟩⟩,
   ⟨D, 100, ⟨by decide +kernel, by decide +kernel, by decide +kernel⟩⟩,
   ⟨lock D, 100, ⟨by decide +kernel, by decide +kernel⟩⟩,
   ⟨ww (ww (dop D 100) (Reg.CPN_BP 100 0) 0x126) (Reg.CPN_DBG_CTL 100) (8), 100, 0, ⟨by decide +kernel, by decide +kernel, by decide +kernel, by decide +kernel, by decide +kernel, by decide +kernel, by decide +kernel, by decide +kernel⟩⟩⟩

theorem wit_SpiAnswersItsCommands :
    (∃ (d : Dev) (e : Dev) (a : BitVec 48) (r : Reply), spiRuns d = true ∧ spiServes d a.toNat = true ∧ a.toNat % 4 = 0 ∧ ownAnswer d .spi a.toNat 4 = 0 ∧ spiAway d a.toNat = false ∧ serveRead d .spi a.toNat 4 = (e, some r)) ∧
    (∃ (d : Dev) (a : BitVec 48), spiRuns d = true ∧ spiServes d a.toNat = false) ∧
    (∃ (d : Dev) (a : BitVec 48) (_v : Word), spiRuns d = true ∧ spiServes d a.toNat = false) ∧
    (∃ (d : Dev), d.cpn.frozen = true) ∧
    (∃ (d : Dev) (e : Dev) (a : BitVec 48) (v : Word) (st : Nat), spiRuns d = true ∧ spiServes d a.toNat = true ∧ a.toNat % 4 = 0 ∧ ownAnswer d .spi a.toNat 4 = 0 ∧ spiAway d a.toNat = false ∧ serveWrite d .spi a.toNat (toBytes 4 v.toNat) [] [] = (e, some st)) ∧
    (∃ (d : Dev) (_a : BitVec 48) (_v : Word) (got : Nat) (_lost : Bool), spiRuns d = true ∧ got < 32) ∧
    (∃ (d : Dev) (cmd : BitVec 8) (_n : Nat), spiRuns d = true ∧ cmd ≠ 2 ∧ cmd ≠ 3) :=
  ⟨⟨air 555 (ww (memPut (ww D Reg.CPN_CTRL 0xF) 0x100 B64) (Reg.TXS_PAEN_CFG 3) 0x20), (serveRead (air 555 (ww (memPut (ww D Reg.CPN_CTRL 0xF) 0x100 B64) (Reg.TXS_PAEN_CFG 3) 0x20)) .spi (Reg.FAB_TMO) 4).1, BitVec.ofNat 48 (Reg.FAB_TMO), ((serveRead (air 555 (ww (memPut (ww D Reg.CPN_CTRL 0xF) 0x100 B64) (Reg.TXS_PAEN_CFG 3) 0x20)) .spi (Reg.FAB_TMO) 4).2.getD ⟨9, [], []⟩), ⟨by decide +kernel, by decide +kernel, by decide +kernel, by decide +kernel, by decide +kernel, by decide +kernel⟩⟩,
   ⟨boot 1 D, 0x3000000000, ⟨by decide +kernel, by decide +kernel⟩⟩,
   ⟨boot 2 D, 0x100, 7, ⟨by decide +kernel, by decide +kernel⟩⟩,
   ⟨({ D with cpn := { D.cpn with frozen := true } }), by decide +kernel⟩,
   ⟨air 555 (ww (memPut (ww D Reg.CPN_CTRL 0xF) 0x100 B64) (Reg.TXS_PAEN_CFG 3) 0x20), (serveWrite (air 555 (ww (memPut (ww D Reg.CPN_CTRL 0xF) 0x100 B64) (Reg.TXS_PAEN_CFG 3) 0x20)) .spi (Reg.FAB_TMO) (toBytes 4 0x12345678) [] []).1, BitVec.ofNat 48 (Reg.FAB_TMO), 0x12345678, ((serveWrite (air 555 (ww (memPut (ww D Reg.CPN_CTRL 0xF) 0x100 B64) (Reg.TXS_PAEN_CFG 3) 0x20)) .spi (Reg.FAB_TMO) (toBytes 4 0x12345678) [] []).2.getD 9), ⟨by decide +kernel, by decide +kernel, by decide +kernel, by decide +kernel, by decide +kernel, by decide +kernel⟩⟩,
   ⟨air 555 (ww (memPut (ww D Reg.CPN_CTRL 0xF) 0x100 B64) (Reg.TXS_PAEN_CFG 3) 0x20), 0x100, 5, 31, false, ⟨by decide +kernel, by decide +kernel⟩⟩,
   ⟨air 555 (ww (memPut (ww D Reg.CPN_CTRL 0xF) 0x100 B64) (Reg.TXS_PAEN_CFG 3) 0x20), 9, 3, ⟨by decide +kernel, by decide +kernel, by decide +kernel⟩⟩⟩

theorem wit_FirmwareAnswersRequests_0 :
    (∃ (d : Dev) (g : Dev) (a : Nat) (e : FwEntry), Asked d g a e ∧ e.op = 4) :=
  ⟨fq 4 3 0x30000 192 0 20 (wr64 D Reg.AIR_CTRL 0), gOf (fq 4 3 0x30000 192 0 20 (wr64 D Reg.AIR_CTRL 0)), 0x10000, entryOf (en 4 3 0x30000 192 0), ⟨by exact ⟨rdf (fq 4 3 0x30000 192 0 20 (wr64 D Reg.AIR_CTRL 0)), 7, (en 4 3 0x30000 192 0), by decide +kernel, by decide +kernel, by decide +kernel, by decide +kernel, by decide +kernel, by decide +kernel, by decide +kernel, by decide +kernel, by decide +kernel, by decide +kernel, by decide +kernel, by decide +kernel⟩, by decide +kernel⟩⟩

theorem wit_FirmwareAnswersRequests_1 :
    (∃ (d : Dev) (g : Dev) (a : Nat) (e : FwEntry) (_ws : List FwWrite), Asked d g a e ∧ e.op = 3 ∧ e.cell < 96 ∧ mget none g.fw.cells e.cell = none ∧ (∀ r ∈ g.fw.waits, r.cell ≠ e.cell)) :=
  ⟨fq 3 3 0x30000 192 0 20 (wr64 D Reg.AIR_CTRL 0), gOf (fq 3 3 0x30000 192 0 20 (wr64 D Reg.AIR_CTRL 0)), 0x10000, entryOf (en 3 3 0x30000 192 0), [], ⟨by exact ⟨rdf (fq 3 3 0x30000 192 0 20 (wr64 D Reg.AIR_CTRL 0)), 7, (en 3 3 0x30000 192 0), by decide +kernel, by decide +kernel, by decide +kernel, by decide +kernel, by decide +kernel, by decide +kernel, by decide +kernel, by decide +kernel, by decide +kernel, by decide +kernel, by decide +kernel, by decide +kernel⟩, by decide +kernel, by decide +kernel, by decide +kernel, by decide +kernel⟩⟩

theorem wit_FirmwareAnswersRequests_2 :
    (∃ (d : Dev) (g : Dev) (a : Nat) (_n : Nat) (e : FwEntry) (_cs : List FwClaim) (_ws : List FwWrite), Asked d g a e ∧ e.op = 2 ∧ 96 ≤ e.cell) :=
  ⟨fq 2 96 0x30000 192 0 20 (wr64 D Reg.AIR_CTRL 0), gOf (fq 2 96 0x30000 192 0 20 (wr64 D Reg.AIR_CTRL 0)), 0x10000, 5, entryOf (en 2 96 0x30000 192 0), [], [], ⟨by exact ⟨rdf (fq 2 96 0x30000 192 0 20 (wr64 D Reg.AIR_CTRL 0)), 7, (en 2 96 0x30000 192 0), by decide +kernel, by decide +kernel, by decide +kernel, by decide +kernel, by decide +kernel, by decide +kernel, by decide +kernel, by decide +kernel, by decide +kernel, by decide +kernel, by decide +kernel, by decide +kernel⟩, by decide +kernel, by decide +kernel⟩⟩

theorem wit_FirmwareAnswersRequests_3 :
    (∃ (d : Dev) (g : Dev) (a : Nat) (_n : Nat) (e : FwEntry) (_cs : List FwClaim) (_ws : List FwWrite), Asked d g a e ∧ e.op = 1 ∧ e.cell < 96 ∧ (∃ r ∈ g.fw.waits, r.cell = e.cell)) :=
  ⟨wt 95 (fq 1 95 0x30000 192 0 20 (wr64 D Reg.AIR_CTRL 0)), gOf (wt 95 (fq 1 95 0x30000 192 0 20 (wr64 D Reg.AIR_CTRL 0))), 0x10000, 5, entryOf (en 1 95 0x30000 192 0), [], [], ⟨by exact ⟨rdf (wt 95 (fq 1 95 0x30000 192 0 20 (wr64 D Reg.AIR_CTRL 0))), 7, (en 1 95 0x30000 192 0), by decide +kernel, by decide +kernel, by decide +kernel, by decide +kernel, by decide +kernel, by decide +kernel, by decide +kernel, by decide +kernel, by decide +kernel, by decide +kernel, by decide +kernel, by decide +kernel⟩, by decide +kernel, by decide +kernel, by decide +kernel⟩⟩

theorem wit_FirmwareAnswersRequests_4 :
    (∃ (d : Dev) (g : Dev) (h : Dev) (a : Nat) (_n : Nat) (e : FwEntry) (_cs : List FwClaim) (_ws : List FwWrite) (x : List Byte), Asked d g a e ∧ e.op = 1 ∧ e.cell < 96 ∧ (∀ r ∈ g.fw.waits, r.cell ≠ e.cell) ∧ e.desc % 64 = 0 ∧ inMem g.grade e.desc (max 1 e.len) = true ∧ memRead g e.desc e.len = (h, .ok, x) ∧ (badOfs x e.len (fun k => match mget none (cellsAfter g) k with | some c => decide (c.rat = 1) | none => false) = none) ∧ pointLimit g < pointsOf (carriers (mput none (cellsAfter g) e.cell (some (profileCell x))))) :=
  ⟨(fun d => { d with fw := { d.fw with cells := (List.range 30).map (fun i => (i, some { cell0 with bw := 65535 })) } }) (fq 1 50 0x30000 192 0 65535 (wr64 D Reg.AIR_CTRL 0)), gOf ((fun d => { d with fw := { d.fw with cells := (List.range 30).map (fun i => (i, some { cell0 with bw := 65535 })) } }) (fq 1 50 0x30000 192 0 65535 (wr64 D Reg.AIR_CTRL 0))), hOf ((fun d => { d with fw := { d.fw with cells := (List.range 30).map (fun i => (i, some { cell0 with bw := 65535 })) } }) (fq 1 50 0x30000 192 0 65535 (wr64 D Reg.AIR_CTRL 0))) 192, 0x10000, 5, entryOf (en 1 50 0x30000 192 0), [], [], prof 65535, ⟨by exact ⟨rdf ((fun d => { d with fw := { d.fw with cells := (List.range 30).map (fun i => (i, some { cell0 with bw := 65535 })) } }) (fq 1 50 0x30000 192 0 65535 (wr64 D Reg.AIR_CTRL 0))), 7, (en 1 50 0x30000 192 0), by decide +kernel, by decide +kernel, by decide +kernel, by decide +kernel, by decide +kernel, by decide +kernel, by decide +kernel, by decide +kernel, by decide +kernel, by decide +kernel, by decide +kernel, by decide +kernel⟩, by decide +kernel, by decide +kernel, by decide +kernel, by decide +kernel, by decide +kernel, by decide +kernel, by decide +kernel, by decide +kernel⟩⟩

theorem wit_FirmwareAnswersRequests_5 :
    (∃ (d : Dev) (g : Dev) (h : Dev) (a : Nat) (e : FwEntry) (x : List Byte), Asked d g a e ∧ (e.op = 1 ∨ (e.op = 2 ∧ (mget none g.fw.cells e.cell).isSome = true)) ∧ e.cell < 96 ∧ (∀ r ∈ g.fw.waits, r.cell ≠ e.cell) ∧ e.desc % 64 = 0 ∧ inMem g.grade e.desc (max 1 e.len) = true ∧ memRead g e.desc e.len = (h, .ok, x) ∧ (badOfs x e.len (fun k => match mget none (cellsAfter g) k with | some c => decide (c.rat = 1) | none => false) = none) ∧ pw x (imgNum x 0x18 4 + 4) 5 0 < macCount g.grade ∧ g.fw.vals = [] ∧ comState h = 0 ∧ askedB h e.at_ < 2 ^ 64) :=
  ⟨fq 1 50 0x30000 192 0 20 (wr64 D Reg.AIR_CTRL 0), gOf (fq 1 50 0x30000 192 0 20 (wr64 D Reg.AIR_CTRL 0)), hOf (fq 1 50 0x30000 192 0 20 (wr64 D Reg.AIR_CTRL 0)) 192, 0x10000, entryOf (en 1 50 0x30000 192 0), prof 20, ⟨by exact ⟨rdf (fq 1 50 0x30000 192 0 20 (wr64 D Reg.AIR_CTRL 0)), 7, (en 1 50 0x30000 192 0), by decide +kernel, by decide +kernel, by decide +kernel, by decide +kernel, by decide +kernel, by decide +kernel, by decide +kernel, by decide +kernel, by decide +kernel, by decide +kernel, by decide +kernel, by decide +kernel⟩, by decide +kernel, by decide +kernel, by decide +kernel, by decide +kernel, by decide +kernel, by decide +kernel, by decide +kernel, by decide +kernel, by decide +kernel, by decide +kernel, by decide +kernel⟩⟩

theorem wit_FirmwareAnswersRequests_6 :
    (∃ (d : Dev) (g : Dev) (a : Nat) (e : FwEntry), Asked d g a e ∧ e.op = 3 ∧ e.cell < 96 ∧ (mget none g.fw.cells e.cell).isSome = true ∧ (∀ r ∈ g.fw.waits, r.cell ≠ e.cell) ∧ g.fw.vals = [] ∧ comState g = 0 ∧ askedB g e.at_ < 2 ^ 64) :=
  ⟨svc 50 (fq 3 50 0x30000 192 0 20 (wr64 D Reg.AIR_CTRL 0)), gOf (svc 50 (fq 3 50 0x30000 192 0 20 (wr64 D Reg.AIR_CTRL 0))), 0x10000, entryOf (en 3 50 0x30000 192 0), ⟨by exact ⟨rdf (svc 50 (fq 3 50 0x30000 192 0 20 (wr64 D Reg.AIR_CTRL 0))), 7, (en 3 50 0x30000 192 0), by decide +kernel, by decide +kernel, by decide +kernel, by decide +kernel, by decide +kernel, by decide +kernel, by decide +kernel, by decide +kernel, by decide +kernel, by decide +kernel, by decide +kernel, by decide +kernel⟩, by decide +kernel, by decide +kernel, by decide +kernel, by decide +kernel, by decide +kernel, by decide +kernel, by decide +kernel⟩⟩

theorem wit_FirmwareAnswersRequests_7 :
    (∃ (d : Dev), live d = true ∧ fwMap d = none) :=
  ⟨D, ⟨by decide +kernel, by decide +kernel⟩⟩

end Sys2Proof.Tests.W17
end

section
/-! PROOF. Core reset (R79): what its parts leave of the cores, and the registers of the core it resets. -/

namespace Sys2Proof.Proofs.CoreReset

open Sys2Proof.Machine Sys2Proof.Laws

/-! ## The parts of core reset that leave every core -/

@[simp] theorem settleQ_cores (d : Dev) (q : Nat) (x : Queue) (ss : List QSlot) : (settleQ d q x ss).cores = d.cores := by
  simp [settleQ]

@[simp] theorem dmaAbort_cores (d : Dev) (c : Nat) : (dmaAbort d c).cores = d.cores := setDma_cores ..

/-- Voiding reservations is queue business: of each queue only its slots are settled again (R216). -/
@[simp] theorem voidIf_cores (d : Dev) (p : Who → Nat → Bool) : (voidIf d p).cores = d.cores := by
  unfold voidIf
  refine List.foldlRecOn (motive := fun t : Dev => t.cores = d.cores) _ _ rfl fun t ht e _ => ?_
  dsimp only
  split
  · exact ht
  · rw [settleQ_cores, ht]

@[simp] theorem voidBy_cores (d : Dev) (who : Who) : (voidBy d who).cores = d.cores := voidIf_cores ..

/-- Writing a list of register words leaves every core. -/
theorem foldl_ww_cores (d : Dev) (os : List Nat) (a v : Nat → Nat) :
    (os.foldl (fun t o => ww t (a o) (v o)) d).cores = d.cores :=
  List.foldlRecOn (motive := fun t : Dev => t.cores = d.cores) _ _ rfl fun t ht o _ => (ww_cores t (a o) (v o)).trans ht

/-! ## The core after reset -/

/-- Of the cores, core reset writes the named one only, and it writes it whole. -/
theorem coreReset_cores (d : Dev) (c : Nat) : (coreReset d c).cores = (setCore d c Core.reset).cores := by
  simp only [coreReset, dmaAbort_cores, voidBy_cores, foldl_ww_cores]

@[simp] theorem coreOf_coreReset_same (d : Dev) (c : Nat) : coreOf (coreReset d c) c = Core.reset :=
  calc coreOf (coreReset d c) c
    _ = coreOf (setCore d c Core.reset) c := by simp only [coreOf, coreReset_cores]
    _ = Core.reset := coreOf_setCore ..

@[simp] theorem bankOf_reset (bank : Nat) : bankOf Core.reset bank = Bank.reset := rfl

/-- An accumulator and an ordinary register of a reset bank are unlisted, and so read 0; `p0` reads 1 in any bank. -/
theorem bankRead_reset (code : Nat) : bankRead Bank.reset code = if code = 0x40 then 1 else 0 := by
  unfold bankRead
  by_cases hacc : accCode code = true
  · have hne : code ≠ 0x40 := by rintro rfl; exact absurd hacc (by decide)
    rw [if_pos hacc, if_neg hne]
    rfl
  · rw [if_neg hacc]
    rfl

/-- Settles O54: core reset puts `Core.reset` in place of the core, and its banks and register files list nothing. -/
theorem coreResetClearsEveryRegister : Obligations.CoreResetClearsEveryRegister := by
  intro d c
  rw [coreOf_coreReset_same]
  refine ⟨fun bank code => ?_, fun i => ⟨rfl, rfl, rfl⟩, rfl, rfl⟩
  rw [bankOf_reset, bankRead_reset]

end Sys2Proof.Proofs.CoreReset
end

section
/-! PROOF. The M slot's extraction, accumulator and short-vector instructions (R126, R127, R130, R131): the machine's
arithmetic on plain numbers is that of the claims, and each instruction is the plain operation its claim names. -/

namespace Sys2Proof.Proofs.ScalarMac

open Sys2Proof.Machine Sys2Proof.Safety Sys2Proof.Claims Sys2Proof.Laws

/-! ## Patterns, signed values and clamps (R17) -/

theorem pat_eq_ofInt (n : Nat) (v : Int) : pat n v = (BitVec.ofInt n v).toNat :=
  (BitVec.toNat_ofInt v).symm

@[simp] theorem sx_eq_ofNat_toInt (n x : Nat) : sx n x = (BitVec.ofNat n x).toInt := by
  simp only [sx, BitVec.toInt, BitVec.toNat_ofNat]
  cases n with
  | zero => simp [Nat.mod_one]
  | succ m =>
    have hsign : x % 2 ^ (m + 1) < 2 ^ (m + 1 - 1) ↔ 2 * (x % 2 ^ (m + 1)) < 2 ^ (m + 1) := by
      rw [Nat.add_sub_cancel, Nat.pow_succ]
      omega
    simp only [hsign]

@[simp] theorem sat_eq_clampS (n : Nat) (v : Int) : sat n v = clampS n v := by
  have hpos : (0 : Int) < 2 ^ (n - 1) := Int.pow_pos (by decide)
  simp only [sat, clampS, Int.natCast_pow, Int.cast_ofNat_Int]
  omega

theorem acc40_eq_ofInt (clamp : Bool) (v : Int) :
    acc40 clamp v = (BitVec.ofInt 40 (if clamp then clampS 40 v else v)).toNat := by
  simp only [acc40, pat_eq_ofInt, sat_eq_clampS]

theorem narrow_eq_ofInt (n : Nat) (clamp : Bool) (y : Int) :
    narrow n clamp y = (BitVec.ofInt n (if clamp then clampS n y else y)).toNat := by
  simp only [narrow, pat_eq_ofInt, sat_eq_clampS]

theorem outside_eq_clampS_ne (n : Nat) (y : Int) : outside n y = decide (clampS n y ≠ y) := by
  simp only [outside, sat_eq_clampS]

/-- Widening to 32 bits the number that a narrower pattern spells is sign extension. -/
theorem pat_sx_toNat (n : Nat) (b : BitVec n) : pat 32 (sx n b.toNat) = (b.signExtend 32).toNat := by
  rw [pat_eq_ofInt, sx_eq_ofNat_toInt, BitVec.ofNat_toNat, BitVec.setWidth_eq, BitVec.signExtend]

theorem toNat_eq_zero_iff {n : Nat} (b : BitVec n) : b.toNat = 0 ↔ b = 0 := by
  simp [BitVec.toNat_eq]

/-! ## Complex words (R16, R130) -/

@[simp] theorem half_zero (a : Nat) : half a 0 = rePart a := by simp [half, rePart]

@[simp] theorem half_one (a : Nat) : half a 1 = imPart a := by simp [half, imPart]

@[simp] theorem mkC_eq_cplx (re im : Int) : mkC re im = cplx re im := by
  simp only [mkC, cplx, pat_eq_ofInt, Nat.reducePow]

@[simp] theorem parts2_eq_cplx (h : Int → Int → Int) (a b : Nat) :
    parts2 h a b = cplx (h (rePart a) (rePart b)) (h (imPart a) (imPart b)) := by
  simp only [parts2, half_zero, half_one, mkC_eq_cplx]

/-! ## Rounding shifts (R126) -/

/-- R126's half-up quotient: `2a + 2h` by `4h` is the quotient of `a` by `2h`, one more where the remainder is `h` or above,
and it is exact just at the tie. -/
theorem nearest_quotient (a h : Int) (hh : 0 < h) :
    (2 * a + 2 * h) / (4 * h) = (if h ≤ a % (2 * h) then a / (2 * h) + 1 else a / (2 * h)) ∧
    (2 * a + 2 * h = (2 * a + 2 * h) / (4 * h) * (4 * h) ↔ a % (2 * h) = h) := by
  have hr0 := Int.emod_nonneg a (show 2 * h ≠ 0 by omega)
  have hr1 := Int.emod_lt_of_pos a (show 0 < 2 * h by omega)
  have hdiv := Int.emod_add_mul_ediv a (2 * h)
  generalize a % (2 * h) = r at *
  generalize a / (2 * h) = q at *
  have quotient (p m : Int) (hp : m + 4 * h * p = 2 * a + 2 * h) (h0 : 0 ≤ m) (hm : m < 4 * h) :
      (2 * a + 2 * h) / (4 * h) = p :=
    ((Int.ediv_emod_unique (by omega)).2 ⟨hp, h0, hm⟩).1
  have h2q : 2 * h * q = 2 * (h * q) := Int.mul_assoc ..
  have h4q : 4 * h * q = 4 * (h * q) := Int.mul_assoc ..
  by_cases hup : h ≤ r
  · have h4q1 : 4 * h * (q + 1) = 4 * (h * q) + 4 * h := by rw [Int.mul_add, h4q, Int.mul_one]
    rw [quotient (q + 1) (2 * r - 2 * h) (by omega) (by omega) (by omega), if_pos hup, Int.mul_comm (q + 1), h4q1]
    exact ⟨rfl, by omega⟩
  · rw [quotient q (2 * r + 2 * h) (by omega) (by omega) (by omega), if_neg hup, Int.mul_comm q, h4q]
    exact ⟨rfl, by omega⟩

/-- A shift by one or more in the terms of R126: h = 2^(SH − 1), the quotient q and the remainder r by 2h. -/
theorem rounded_succ (rm : Nat) (a : Int) (s : Nat) :
    rounded rm a (s + 1) =
      (let h : Int := 2 ^ s
       let q := a / (2 * h)
       let r := a % (2 * h)
       if rm = 0 then q else if rm = 1 then (if h ≤ r then q + 1 else q)
       else if h < r ∨ (r = h ∧ q % 2 ≠ 0) then q + 1 else q) := by
  have h1 : (2 : Int) ^ (s + 1) = 2 * 2 ^ s := by rw [Int.pow_succ, Int.mul_comm]
  have h2 : (2 : Int) ^ (s + 1 + 1) = 4 * 2 ^ s := by rw [Int.pow_succ, h1]; omega
  obtain ⟨hq, htie⟩ := nearest_quotient a (2 ^ s) (Int.pow_pos (by decide))
  rw [hq] at htie
  match rm with
  | 0 => simp [rounded, h1]
  | 1 => simp [rounded, h1, h2, hq]
  | m + 2 =>
    simp only [rounded, h1, h2, htie, hq, show ¬ m + 2 = 0 by omega, show ¬ m + 2 = 1 by omega, if_false]
    generalize a % (2 * 2 ^ s) = r
    generalize a / (2 * 2 ^ s) = q
    generalize (2 : Int) ^ s = h
    split <;> split <;> split <;> omega

theorem rounded_zero (rm : Nat) (a : Int) : rounded rm a 0 = a := by
  match rm with
  | 0 => simp [rounded]
  | 1 => simp only [rounded]; omega
  | _ + 2 => simp only [rounded]; omega

@[simp] theorem roundShift_eq_rounded (rm : Nat) (a : Int) (sh : Nat) : roundShift rm a sh = rounded rm a sh := by
  cases sh with
  | zero => simp [roundShift, rounded_zero]
  | succ s =>
    have hm : ((2 ^ (s + 1) : Nat) : Int) = 2 * 2 ^ s := by rw [Int.natCast_pow, Int.cast_ofNat_Int, Int.pow_succ, Int.mul_comm]
    have hr : a - a / (2 * 2 ^ s) * (2 * 2 ^ s) = a % (2 * 2 ^ s) := by rw [Int.emod_def, Int.mul_comm]
    rw [rounded_succ]
    simp [roundShift, hm, hr]

/-! ## Complex products (R131) -/

@[simp] theorem cmulQ15_false (a b : Nat) : cmulQ15 false a b = q15 (prodC a b) := by
  simp [cmulQ15, cprod, q15, prodC]

@[simp] theorem cmulQ15_true (a b : Nat) : cmulQ15 true a b = q15 (prodJ a b) := by
  simp [cmulQ15, cprod, q15, prodJ]

/-! ## Plain operations of the M slot -/

/-- An M-slot instruction whose operation is plain, with the legality and the results restated as its claim writes them. -/
theorem slotM_results {ins : Instr} {i : Iss} {legal' legal : Ctx → Bool} {reads dests : Ctx → List Nat}
    {rs' rs : Ctx → List Inflight}
    (hx : ∀ s, exec ins s = slotM i (fun k => Op.alu (legal' k) (reads k) (dests k) (rs' k)) s)
    (hlegal : ∀ k, legal' k = legal k) (hres : ∀ k, rs' k = rs k) : Results ins i 2 legal reads dests rs :=
  results_of ins i 2 _ legal reads dests rs rs' hx (fun k => by rw [hlegal k]) fun k _ => hres k

/-! ## Extraction (R126) -/

/-- `extw` and `exth`: one part, sign-extended to the register's 32 bits. -/
theorem extractsAs_one (mk : Iss → FME → Instr) (n : Nat)
    (hx : ∀ i f s, exec (mk i f) s = slotM i (opExt f n 1) s) : ExtractsAs mk n 1 := by
  intro i f
  refine results_of _ i 2 (opExt f n 1) _ _ _ _ _ (hx i f) ?_ fun _ _ => rfl
  intro k
  simp only [opExt, List.range_one, List.map_cons, List.map_nil, List.getD_cons_zero, List.any_cons, List.any_nil,
    narrow_eq_ofInt, outside_eq_clampS_ne, roundShift_eq_rounded, pat_sx_toNat, toNat_eq_zero_iff]
  simp

/-- `extc`: two parts of 16 bits from an even pair, PF from either clamp. -/
theorem extractsAs_two (mk : Iss → FME → Instr)
    (hx : ∀ i f s, exec (mk i f) s = slotM i (opExt f 16 2) s) : ExtractsAs mk 16 2 := by
  intro i f
  refine results_of _ i 2 (opExt f 16 2) _ _ _ _ _ (hx i f) ?_ fun _ _ => rfl
  intro k
  simp only [opExt, List.range_succ, List.range_zero, List.map_cons, List.map_nil, List.nil_append, List.cons_append,
    List.getD_cons_zero, List.getD_cons_succ, List.any_cons, List.any_nil, narrow_eq_ofInt, outside_eq_clampS_ne,
    roundShift_eq_rounded, toNat_eq_zero_iff]
  simp [isEven, Bool.and_assoc, cplx]

/-! ## Accumulator operations (R124, R127) -/

/-- The fields of MA that an operation leaves unused must be 0, each apart. -/
theorem maZero_eq (f : FMA) (acd acs sa sh as_ : Bool) :
    maZero f acd acs sa sh as_ = ((acd || decide (f.acd = 0)) && (acs || decide (f.acs = 0)) && (sa || decide (f.sa = 0)) &&
      (sh || decide (f.sh = 0)) && decide (f.z = 0) && (as_ || !f.sat)) := by
  rw [Bool.eq_iff_iff]
  simp [maZero, and_assoc, and_comm (a := as_ = true ∨ f.sat = false)]

/-- `shacc`: the shift left is wrapped or clamped as SAT says, the shift right needs neither. -/
theorem shacc_value (f : FMA) (a : Int) :
    (if 0 ≤ sx 6 f.sh.toNat then acc40 f.sat (a * (2 ^ (sx 6 f.sh.toNat).toNat : Nat))
      else pat 40 (a / (2 ^ (-sx 6 f.sh.toNat).toNat : Nat))) =
    (BitVec.ofInt 40 (if 0 ≤ f.sh.toInt then
        (if f.sat then clampS 40 (a * 2 ^ f.sh.toInt.toNat) else a * 2 ^ f.sh.toInt.toNat)
      else a / 2 ^ (-f.sh.toInt).toNat)).toNat := by
  rw [sx_eq_ofNat_toInt, BitVec.ofNat_toNat, BitVec.setWidth_eq]
  split
  · rw [acc40_eq_ofInt, Int.natCast_pow, Int.cast_ofNat_Int]
  · rw [pat_eq_ofInt, Int.natCast_pow, Int.cast_ofNat_Int]

/-- Settles O6: each row's operation is the machine's own, once its arithmetic and its legality are those of the claim. -/
theorem extractionAndAccumulatorResults : Obligations.ExtractionAndAccumulatorResults := by
  refine ⟨extractsAs_one _ 32 fun _ _ _ => rfl, extractsAs_one _ 16 fun _ _ _ => rfl, extractsAs_two _ fun _ _ _ => rfl,
    fun i f => slotM_results (fun _ => rfl) (fun k => ?clraccLegal) fun _ => rfl,
    fun i f => slotM_results (fun _ => rfl) (fun k => ?clraccPLegal) fun _ => rfl,
    fun i f => slotM_results (fun _ => rfl) (fun k => ?movsaLegal) fun k => ?movsa,
    fun i f => slotM_results (fun _ => rfl) (fun k => ?addaccLegal) fun k => ?addacc,
    fun i f => slotM_results (fun _ => rfl) (fun k => ?subaccLegal) fun k => ?subacc,
    fun i f => slotM_results (fun _ => rfl) (fun k => ?shaccLegal) fun k => ?shacc,
    fun i f => slotM_results (fun _ => rfl) (fun k => ?movgaLegal) fun k => ?movga,
    fun i f => slotM_results (fun _ => rfl) (fun k => ?movlaLegal) fun k => ?movla⟩
  case clraccLegal | clraccPLegal | movsaLegal | addaccLegal | subaccLegal | shaccLegal | movgaLegal | movlaLegal =>
    simp [maZero_eq, isEven, Bool.and_assoc]
  case movsa => rw [pat_eq_ofInt, sx_eq_ofNat_toInt, word, Int.natCast_pow, Int.cast_ofNat_Int]
  case addacc | subacc => rw [acc40_eq_ofInt]
  case shacc => exact congrArg (fun v => [k.mac f.acd.toNat v]) (shacc_value f _)
  case movga => rw [pat_eq_ofInt, w32, Int.natCast_pow, Int.cast_ofNat_Int]
  case movla => rw [pat_eq_ofInt, w32]

/-! ## Short vectors (R130, R131) -/

/-- A short-vector instruction, from its function of a pair of elements. -/
theorem shortVec_of {mk : Iss → FMV → Instr} {vb : Nat} {g g' : Nat → Nat → Nat} (hvb : vb ≤ 2)
    (hx : ∀ i f s, exec (mk i f) s = slotM i (opMV f vb g) s) (hg : ∀ a b, g a b = g' a b) : ShortVec mk vb g' := by
  obtain rfl : g = g' := funext fun a => funext (hg a)
  intro i f
  refine slotM_results (hx i f) (fun k => ?_) fun _ => rfl
  match vb, hvb with
  | 0, _ => simp [isQuad, toNat_eq_zero_iff, Bool.and_assoc]
  | 1, _ => simp [isQuad, Bool.and_assoc]
  | 2, _ => simp [isQuad, Bool.and_assoc]

/-- Settles O7: each operation is one function of a pair of elements, applied to the four registers of its groups. -/
theorem shortVectorResults : Obligations.ShortVectorResults := by
  refine ⟨shortVec_of (by decide) (fun _ _ _ => rfl) (parts2_eq_cplx _),
    shortVec_of (by decide) (fun _ _ _ => rfl) fun a b => ?svadds,
    shortVec_of (by decide) (fun _ _ _ => rfl) (parts2_eq_cplx _),
    shortVec_of (by decide) (fun _ _ _ => rfl) fun a b => ?svsubs,
    shortVec_of (by decide) (fun _ _ _ => rfl) fun a _ => ?svconj,
    shortVec_of (by decide) (fun _ _ _ => rfl) fun a _ => ?svrotj,
    shortVec_of (by decide) (fun _ _ _ => rfl) fun a _ => ?svrotnj,
    shortVec_of (by decide) (fun _ _ _ => rfl) fun a n => ?svshr,
    shortVec_of (by decide) (fun _ _ _ => rfl) cmulQ15_false,
    shortVec_of (by decide) (fun _ _ _ => rfl) cmulQ15_true,
    shortVec_of (by decide) (fun _ _ _ => rfl) fun a _ => ?svswap⟩
  case svadds | svsubs => simp only [parts2_eq_cplx, sat_eq_clampS]
  case svconj | svrotj | svrotnj => simp only [half_zero, half_one, sat_eq_clampS, mkC_eq_cplx]
  case svshr => simp only [half_zero, half_one, roundShift_eq_rounded, mkC_eq_cplx]
  case svswap => simp only [half_zero, half_one, mkC_eq_cplx]

end Sys2Proof.Proofs.ScalarMac
end

section
/-! PROOF. The V slot's complex and block-floating-point instructions (R147 to R150): the element types and groups of the
machine are those of the claims (R138 to R141), each part is computed as its claim says, and each instruction is the
element operation, or the results, that its claim names. -/

namespace Sys2Proof.Proofs.VectorComplex

open Sys2Proof.Machine Sys2Proof.Safety Sys2Proof.Claims Sys2Proof.Laws Sys2Proof.Proofs.ScalarMac

/-! ## Element types, beats and groups (R138 to R141) -/

@[simp] theorem tySize_eq_elBytes (ty : BitVec 2) : tySize ty.toNat = elBytes ty := by
  revert ty; decide

@[simp] theorem tyPart_eq_partBits (ty : BitVec 2) : tyPart ty.toNat = partBits ty := by
  revert ty; decide

theorem ty_le_one_iff (ty : BitVec 2) : ty.toNat ≤ 1 ↔ ty = 0 ∨ ty = 1 := by
  revert ty; decide

theorem ceilDiv_sixteen (n : Nat) : ceilDiv n 16 = (n + 15) / 16 := rfl

@[simp] theorem tyBeats_eq_beats (ty : BitVec 2) (k : Ctx) : tyBeats ty.toNat k.vl = beats ty k := by
  have hthree : ty.toNat = 3 ↔ ty = 3 := by revert ty; decide
  simp only [tyBeats, beats, hthree, ceilDiv_sixteen]

@[simp] theorem footprint_eq (vl bytes : Nat) : footprint vl bytes = (vl * bytes + 63) / 64 := rfl

@[simp] theorem groupOk_eq_vfits (k : Ctx) (i bytes : Nat) : Machine.groupOk ((k.vl * bytes + 63) / 64) i = vfits k i bytes := by
  simp only [Machine.groupOk, vfits, isQuad, Bool.decide_or, Bool.decide_and]

@[simp] theorem guardReg_eq_vguard (mg : BitVec 3) : guardReg mg.toNat = vguard mg := by
  simp only [guardReg, vguard, toNat_eq_zero_iff]

/-- A part-by-part function of two elements, in the terms of the claims. -/
@[simp] theorem byPart_eq_eachPart (ty : BitVec 2) (h : Int → Int → Int) (a b : Nat) :
    byPart ty.toNat h a b = eachPart ty h a b := by
  simp only [byPart, eachPart, toNat_eq_zero_iff, tyPart_eq_partBits, half_zero, half_one, mkC_eq_cplx, pat_eq_ofInt,
    sx_eq_ofNat_toInt]

/-- On the types of 16-bit parts, only the function's values at 16-bit numbers matter. -/
theorem eachPart_congr {ty : BitVec 2} (hty : ty = 0 ∨ ty = 1) {h h' : Int → Int → Int}
    (heq : ∀ (x : BitVec 16) (y : Int), h x.toInt y = h' x.toInt y) (a b : Nat) : eachPart ty h a b = eachPart ty h' a b := by
  rcases hty with rfl | rfl
  · simp only [eachPart, rePart, imPart, heq, if_true]
  · exact congrArg (fun v => (BitVec.ofInt 16 v).toNat) (heq ..)

/-! ## Element operations -/

/-- An instruction whose operation is the element operation that its claim names; where the encoding is illegal, the
values of the elements do not matter. -/
theorem elements_of {ins : Instr} {i : Iss} {op : Ctx → Op} {legal : Bool} {srcs : List (Nat × Nat)} {vd bytes : Nat}
    {mg : BitVec 3} {lat : Ctx → Nat} {also : List Nat} {g' g : Ctx → Nat → Nat}
    (hx : ∀ s, exec ins s = slotV i op s)
    (hop : ∀ k, op k = opEl k legal srcs vd bytes mg.toNat (lat k) also (g' k))
    (hg : legal = true → ∀ k e, g' k e = g k e) : Elements ins i legal srcs vd bytes mg lat also g := by
  refine results_of ins i 3 op _ _ _ _
    (fun k => k.vres vd bytes (lat k) ((k.actives mg.toNat).map fun e => (e, g' k e))) hx (fun k => ?_) fun k hlegal => ?_
  · simp [hop, opEl, vregs]
  · obtain ⟨⟨hl, -⟩, -⟩ : (legal = true ∧ _) ∧ _ := by simpa using hlegal
    simp only [hg hl]

/-- The element operation of the claims about format VC. -/
def vcOp (ok : FVC → Bool) (two acc : Bool) (bytes : Nat) (g : Nat → Nat → Nat → Nat) (f : FVC) (k : Ctx) : Op :=
  opEl k (ok f && !f.z && (two || decide (f.vb = 0)))
    ((f.va.toNat, 4) :: ((if two then [(f.vb.toNat, 4)] else []) ++ (if acc then [(f.vd.toNat, 8)] else []))) f.vd.toNat bytes
    f.mg.toNat (3 + (k.vl + 15) / 16) [] fun e => g (k.el f.va.toNat 4 e) (k.el f.vb.toNat 4 e) (k.el f.vd.toNat 8 e)

theorem vc_of {mk : Iss → FVC → Instr} {op : FVC → Ctx → Op} {ok : FVC → Bool} {two acc : Bool} {bytes : Nat}
    {g : Nat → Nat → Nat → Nat} (hx : ∀ i f s, exec (mk i f) s = slotV i (op f) s)
    (hop : ∀ f k, op f k = vcOp ok two acc bytes g f k) : VC mk ok two acc bytes g :=
  fun i f => elements_of (hx i f) (hop f) fun _ _ _ => rfl

/-! ## Complex products and rotations (R147) -/

theorem opVcmul_eq_vcOp {conj : Bool} {p : Nat → Nat → Int × Int} (hp : ∀ a b, cmulQ15 conj a b = q15 (p a b)) (f : FVC)
    (k : Ctx) : opVcmul f conj k = vcOp (fun _ => true) true false 4 (fun a b _ => q15 (p a b)) f k := by
  simp [opVcmul, vcOp, hp, cBeats, ceilDiv_sixteen]

theorem opVcmac_eq_vcOp {conj : Bool} {p : Nat → Nat → Int × Int} (hp : ∀ a b, cprod conj a b = p a b) (f : FVC) (k : Ctx) :
    opVcmac f conj k = vcOp (fun _ => true) true true 8 (fun a b o => ci32Add (p a b) o) f k := by
  simp [opVcmac, vcOp, hp, ci32Add, pat_eq_ofInt, w32, word, cBeats, ceilDiv_sixteen]

theorem opVC1_eq_vcOp (ok : FVC → Bool) {g' g : Nat → Nat} (hg : ∀ a, g' a = g a) (f : FVC) (k : Ctx) :
    opVC1 f (ok f) g' k = vcOp ok false false 4 (fun a _ _ => g a) f k := by
  simp [opVC1, vcOp, hg, cBeats, ceilDiv_sixteen]

@[simp] theorem cprod_false (a b : Nat) : cprod false a b = prodC a b := by
  simp [cprod, prodC]

@[simp] theorem cprod_true (a b : Nat) : cprod true a b = prodJ a b := by
  simp [cprod, prodJ]

/-! ## Dot products (R148) -/

/-- A running sum of pairs is the pair of the sums. -/
theorem foldl_pair_sum (ps : List (Int × Int)) (s : Int × Int) :
    ps.foldl (fun p q => (p.1 + q.1, p.2 + q.2)) s = (s.1 + (ps.map (·.1)).sum, s.2 + (ps.map (·.2)).sum) := by
  induction ps generalizing s with
  | nil => simp
  | cons q ps ih => simp [ih, Int.add_assoc]

theorem vdot_of {mk : Iss → FVD → Instr} {conj : Bool} {p : Nat → Nat → Int × Int}
    (hx : ∀ i f s, exec (mk i f) s = slotV i (opVcdot f conj) s) (hp : ∀ a b, cprod conj a b = p a b) : VDot mk p := by
  intro i f
  refine results_of _ i 3 (opVcdot f conj) _ _ _ _ _ (hx i f) (fun k => ?_) fun _ _ => rfl
  have hsum := foldl_pair_sum ((k.actives f.mg.toNat).map fun e => p (k.el f.va.toNat 4 e) (k.el f.vb.toNat 4 e)) (0, 0)
  rw [List.foldl_map] at hsum
  simp only [opVcdot, hp, hsum]
  simp [vregs, isEven, codes, cAcc, Nat.add_assoc, pat_eq_ofInt, cBeats, ceilDiv_sixteen, List.range_succ]

/-! ## Block floating point (R150) -/

/-- The numbers below `n` before the first one that fails `p`. -/
theorem length_takeWhile_range {n m : Nat} {p : Nat → Bool} (hmn : m ≤ n) (hall : ∀ i < m, p i = true)
    (hstop : m < n → p m = false) : ((List.range n).takeWhile p).length = m := by
  have hidx : (List.range n).findIdx (fun i => !p i) = m := by
    rcases Nat.eq_or_lt_of_le hmn with rfl | hlt
    · refine (List.findIdx_eq_length.2 fun i hi => ?_).trans List.length_range
      rw [hall i (List.mem_range.1 hi), Bool.not_true]
    · rw [List.findIdx_eq (by rwa [List.length_range])]
      simpa [hstop hlt] using hall
  rw [List.takeWhile_eq_take_findIdx_not, hidx, List.length_take, List.length_range, Nat.min_eq_left hmn]

/-- The leading zeros of a number are 0. -/
theorem getLsbD_of_sub_clz_le {w : Nat} (x : BitVec w) {j : Nat} (hj : w - x.clz.toNat ≤ j) : x.getLsbD j = false :=
  Nat.testBit_lt_two_pow (Nat.lt_of_lt_of_le BitVec.toNat_lt_two_pow_sub_clz (Nat.pow_le_pow_right (by decide) hj))

theorem clz_toNat_le {w : Nat} (x : BitVec w) : x.clz.toNat ≤ w := by
  have hle := BitVec.le_def.1 (BitVec.clz_le (x := x))
  rwa [BitVec.natCast_eq_ofNat, BitVec.toNat_ofNat, Nat.mod_eq_of_lt Nat.lt_two_pow_self] at hle

/-- The bit below the leading zeros of a number, where there is one, is 1. -/
theorem getLsbD_sub_clz {w : Nat} (x : BitVec (w + 1)) (hlt : x.clz.toNat < w + 1) : x.getLsbD (w - x.clz.toNat) = true :=
  BitVec.getLsbD_true_clz_of_ne_zero (Nat.succ_pos w) fun h0 => by
    rw [← BitVec.clz_eq_iff_eq_zero] at h0
    simp [h0] at hlt

/-- The bits that differ from the bit above them. -/
def changes {w : Nat} (b : BitVec (w + 1)) : BitVec (w + 1) := b ^^^ b.sshiftRight 1

theorem getLsbD_changes {w : Nat} (b : BitVec (w + 1)) (i : Nat) :
    (changes b).getLsbD i = (decide (i < w) && (b.getLsbD i ^^ b.getLsbD (i + 1))) := by
  rw [changes, BitVec.getLsbD_xor, BitVec.getLsbD_sshiftRight, BitVec.msb_eq_getLsbD_last]
  rcases Nat.lt_trichotomy i w with h | rfl | h
  · simp [h, Nat.add_comm 1 i, show ¬ w + 1 ≤ i by omega]
  · simp [show ¬ i + 1 ≤ i by omega, show ¬ 1 + i < i + 1 by omega]
  · simp [show ¬ i < w by omega, show w + 1 ≤ i by omega]

/-- The top bit has no bit above it. -/
theorem clz_changes_pos {w : Nat} (b : BitVec (w + 1)) : 0 < (changes b).clz.toNat := by
  refine Nat.pos_of_ne_zero fun hc => ?_
  have htop := getLsbD_sub_clz (changes b) (by omega)
  rw [hc, getLsbD_changes] at htop
  simp at htop

/-- As far down as nothing changes, every bit equals the sign bit. -/
theorem getLsbD_eq_sign {w : Nat} (b : BitVec (w + 1)) {i : Nat} (hi : i < (changes b).clz.toNat) :
    b.getLsbD (w - i) = b.getLsbD w := by
  induction i with
  | zero => rw [Nat.sub_zero]
  | succ i ih =>
    have hle := clz_toNat_le (changes b)
    have hbit := getLsbD_changes b (w - (i + 1))
    rw [getLsbD_of_sub_clz_le _ (by omega), show w - (i + 1) + 1 = w - i by omega, ih (by omega),
      decide_eq_true (show w - (i + 1) < w by omega), Bool.true_and] at hbit
    simpa using hbit.symm

/-- The first change ends the run of bits that equal the sign bit. -/
theorem getLsbD_ne_sign {w : Nat} (b : BitVec (w + 1)) (hlt : (changes b).clz.toNat < w + 1) :
    b.getLsbD (w - (changes b).clz.toNat) ≠ b.getLsbD w := by
  have hpos := clz_changes_pos b
  have hbit := getLsbD_changes b (w - (changes b).clz.toNat)
  rw [getLsbD_sub_clz _ hlt, show w - (changes b).clz.toNat + 1 = w - ((changes b).clz.toNat - 1) by omega,
    getLsbD_eq_sign b (i := (changes b).clz.toNat - 1) (by omega)] at hbit
  intro heq
  rw [heq, Bool.xor_self, Bool.and_false] at hbit
  exact absurd hbit (by decide)

/-- R150: the bits below the sign bit that equal it are one fewer than the leading zeros of the changes. -/
theorem length_takeWhile_sign {w : Nat} (b : BitVec (w + 1)) :
    ((List.range w).takeWhile fun i => b.getLsbD (w - 1 - i) == b.getLsbD w).length = (changes b).clz.toNat - 1 := by
  have hpos := clz_changes_pos b
  have hle := clz_toNat_le (changes b)
  refine length_takeWhile_range (by omega) (fun i hi => ?_) fun hlt => ?_
  · rw [show w - 1 - i = w - (i + 1) by omega, getLsbD_eq_sign b (by omega), beq_self_eq_true]
  · rw [show w - 1 - ((changes b).clz.toNat - 1) = w - (changes b).clz.toNat by omega]
    exact beq_false_of_ne (getLsbD_ne_sign b (by omega))

@[simp] theorem cls16_eq_signBits (x : Int) : cls16 x = signBits x := by
  simp only [cls16, pat_eq_ofInt]
  rw [signBits, ← changes, BitVec.toNat_sub_of_le (BitVec.le_def.2 ?_)]
  · exact length_takeWhile_sign (BitVec.ofInt 16 x)
  · exact clz_changes_pos (BitVec.ofInt 16 x)

theorem parts16_eq_partsOf (ty : BitVec 2) (a : Nat) : parts16 ty.toNat a = partsOf ty a := by
  simp only [parts16, partsOf, toNat_eq_zero_iff, half_zero, half_one, sx_eq_ofNat_toInt, rePart]

/-- A 16-bit number shifted right by 16 or more is at most half a unit away from 0, and so rounds to 0. -/
theorem rounded_of_sixteen_le (x : BitVec 16) {n : Nat} (hn : n = 16 ∨ n = 17) : rounded 2 x.toInt n = 0 := by
  have hlo := BitVec.le_two_mul_toInt (x := x)
  have hhi := BitVec.two_mul_toInt_lt (x := x)
  rcases hn with rfl | rfl <;>
  · simp only [rounded]
    omega

/-- R150: from 16 on, a shift left saturates every part but 0. -/
theorem clampS_shift_sixteen (x : Int) :
    clampS 16 (x * 2 ^ 16) = if x = 0 then 0 else clampS 16 (if 0 < x then 2 ^ 16 else -2 ^ 16) := by
  rcases Int.lt_trichotomy x 0 with hneg | rfl | hpos
  · rw [if_neg (by omega), if_neg (by omega), clampS, clampS]
    omega
  · decide
  · rw [if_neg (by omega), if_pos hpos, clampS, clampS]
    omega

/-- A block shift of a 16-bit part: the machine's cases at 16 and -16 are where the shift of the claim stops to matter. -/
theorem bfShift_eq (n : Int) (x : BitVec 16) :
    bfShift n x.toInt =
      if 0 ≤ n then clampS 16 (x.toInt * 2 ^ min n.toNat 16) else rounded 2 x.toInt (min (-n).toNat 17) := by
  simp only [bfShift, sat_eq_clampS, roundShift_eq_rounded]
  by_cases hn : 0 ≤ n
  · rw [if_pos hn, if_pos hn]
    by_cases h16 : 16 ≤ n
    · rw [Nat.min_eq_right (by omega), clampS_shift_sixteen]
      simp only [h16, true_and, if_true]
    · rw [Nat.min_eq_left (by omega)]
      simp [h16]
  · rw [if_neg hn, if_neg hn]
    by_cases h16 : n ≤ -16
    · rw [if_pos h16, rounded_of_sixteen_le x (by omega)]
    · rw [if_neg h16, Nat.min_eq_left (by omega)]

/-- The smallest count over a list of elements, taken part by part; 0 of no element. -/
theorem smallest_cls16_eq (ty : BitVec 2) (v : Nat → Nat) (es : List Nat) :
    (if es = [] then 0 else es.foldl (fun m e => (parts16 ty.toNat (v e)).foldl (fun m x => min m (cls16 x)) m) 15) =
      (es.flatMap fun e => (partsOf ty (v e)).map signBits).foldl min (if es = [] then 0 else 15) := by
  simp only [List.foldl_flatMap, List.foldl_map, parts16_eq_partsOf, cls16_eq_signBits]
  split
  · next hnil => rw [hnil, List.foldl_nil]
  · rfl

/-- Settles O9: each instruction is the element operation, or the results, of its claim; the arithmetic of the parts is that
of `ScalarMac` and, for block floating point, `bfShift_eq` and `cls16_eq_signBits`. -/
theorem vectorComplexResults : Obligations.VectorComplexResults := by
  refine ⟨vc_of (fun _ _ _ => rfl) (opVcmul_eq_vcOp cmulQ15_false), vc_of (fun _ _ _ => rfl) (opVcmul_eq_vcOp cmulQ15_true),
    vc_of (fun _ _ _ => rfl) (opVcmac_eq_vcOp cprod_false), vc_of (fun _ _ _ => rfl) (opVcmac_eq_vcOp cprod_true),
    vc_of (fun _ _ _ => rfl) (opVC1_eq_vcOp _ fun a => ?vcmag2),
    vc_of (fun _ _ _ => rfl) (opVC1_eq_vcOp _ fun a => ?vcrotP),
    vc_of (fun _ _ _ => rfl) (opVC1_eq_vcOp _ fun a => ?vcrotN),
    vdot_of (fun _ _ _ => rfl) cprod_false, vdot_of (fun _ _ _ => rfl) cprod_true,
    fun i f => elements_of (fun _ => rfl) (fun k => ?vpack) fun _ _ _ => rfl,
    fun i f => elements_of (fun _ => rfl) (fun k => ?vunpk) fun _ _ _ => rfl,
    fun i f => elements_of (g' := fun k e =>
        byPart f.ty.toNat (fun x _ => bfShift (sx 32 (k.s f.vb.toNat)) x) (k.el f.va.toNat (elBytes f.ty) e) 0)
      (fun _ => rfl) (fun k => ?vbfs) fun hlegal k e => ?vbfsParts,
    fun i f => results_of _ i 3 (opVbfn f) _ _ _ _ _ (fun _ => rfl) (fun k => ?vbfn) fun _ _ => rfl⟩
  case vcmag2 => simp only [half_zero, half_one, pat_eq_ofInt, w32]
  case vcrotP | vcrotN => simp only [half_zero, half_one, sat_eq_clampS, mkC_eq_cplx]
  case vpack => simp [cBeats, ceilDiv_sixteen, word]
  case vunpk => simp [cBeats, ceilDiv_sixteen, pat_eq_ofInt, w32]
  case vbfs => simp [ty_le_one_iff]
  case vbfsParts =>
    rw [byPart_eq_eachPart, sx_eq_ofNat_toInt]
    exact eachPart_congr (of_decide_eq_true hlegal) (fun x _ => bfShift_eq _ x) ..
  case vbfn =>
    simp only [opVbfn, smallest_cls16_eq, tySize_eq_elBytes]
    simp [ty_le_one_iff, vregs]

end Sys2Proof.Proofs.VectorComplex
end
